-- ==== Sys2Proof/Word.lean ====
section
/-! DEFINITION. The word type of the block: the octet. -/

namespace Sys2Proof

/-- An octet is eight bits (00_scope.md, Numbers). -/
abbrev Octet := BitVec 8

end Sys2Proof
end

