-- ==== Sys2Proof/Syntax.lean ====
section
/-! DEFINITION. The commands: one constructor of `Instr` for each row of spec/opcode_table.json. -/

namespace Sys2Proof

/-- The point of a failed attempt (R8). -/
inductive FailPoint where
  | leadMark
  | data
  | check
  deriving DecidableEq, Repr

/-- The two dose outputs (R177). -/
inductive DoseOutput where
  | dose0
  | dose1
  deriving DecidableEq, Repr

/-- The commands. Operands are what the outside world decides at the moment of the command, or name the outcome or report of
LIF that is due (log 15, 19); everything else comes from the state. -/
inductive Instr where
  /-- R190: RESET goes low. -/
  | hardReset
  /-- R180: RESET is released, with the levels of SN4..SN0 and ROLE1..ROLE0. -/
  | resetRelease (sn : BitVec 5) (role : BitVec 2)
  /-- R181: one transfer of the image completes with its 32 octets. -/
  | imageTransferDone (octets : List Octet)
  /-- R181: an address octet is not acknowledged; `stopPossible` says whether CSDA allows a stop condition within 25 ms. -/
  | addressNotAcknowledged (stopPossible : Bool)
  /-- R181: CSCL or CSDA is held for more than 25 ms. -/
  | heldLineTimeout (stopPossible : Bool)
  /-- R181: the 10 ms wait after a failed try ends. -/
  | retryWaitEnd
  /-- R184: the join timer reaches three refresh periods. -/
  | joinExpiry
  /-- R48. -/
  | refreshTick
  /-- R82. -/
  | shareTick
  /-- R64. -/
  | scanTick
  /-- R7: the required quiet gap is reached. -/
  | quietGapExpiry
  /-- R11: an attempt whose echo check has found nothing ends with its release check. -/
  | attemptSent
  /-- R8: an attempt whose echo check has failed at a point ends with its cell. -/
  | attemptFailed (point : FailPoint)
  /-- R14: the third header octet of a frame has completed. -/
  | headerArrival (h0 h1 h2 : Octet)
  /-- R14: a closer cell has ended at an octet boundary, and the CRC check has passed. `octets` are all octets assembled, the two
  CRC octets included, and `ownEcho` is the mark of R14. -/
  | frameComplete (octets : List Octet) (ownEcho : Bool)
  /-- R15: LIF reports a malformed frame with its reason. -/
  | frameMalformed (reason : Nat)
  /-- R58: an octet with a good stop bit arrives on SMP_IN. -/
  | sampleOctet (octet : Octet)
  /-- R58: a stop bit is sampled low. -/
  | framingFault
  /-- R59: the twentieth idle bit time ends. -/
  | partialWordDiscard
  /-- R101: the filtered RUN_ACK rises. -/
  | runAckRising
  /-- R101: the filtered RUN_ACK falls. -/
  | runAckFalling
  /-- R148: the filtered TRIP_IN becomes active. -/
  | tripInActive
  /-- R148: the filtered TRIP_IN becomes inactive. -/
  | tripInInactive
  /-- R108. -/
  | startTimeout
  /-- R107. -/
  | warmUpExpiry
  /-- R114. -/
  | stopTimeout
  /-- R105. -/
  | recallExpiry
  /-- R129. -/
  | replyWindowExpiry
  /-- R135: the hold timer of the entry for `asker` reaches the grant hold. -/
  | grantHoldExpiry (asker : Nat)
  /-- R136. -/
  | holdOffExpiry
  /-- R177: the timer of one dose output reaches its width. -/
  | dosePulseEnd (output : DoseOutput)
  /-- R89: a setpoint word's last stop bit ends. -/
  | setpointWordEnd
  /-- R186. -/
  | pcsFall
  /-- R186. -/
  | pcsRise
  /-- R188: STATUS is taken. -/
  | status
  /-- R171: TAKE is taken. -/
  | take
  /-- R57: READ ROW is taken with its argument octet. -/
  | readRow (station : Octet)
  /-- R75: READ QUANTITY is taken with its argument octet. -/
  | readQuantity (quantity : Octet)
  /-- R76: READ CHANNEL is taken with its argument octet. -/
  | readChannel (channel : Octet)
  /-- R179: BIND is taken with its five argument octets. -/
  | bind (channel source filter mode count : Octet)
  /-- R116. -/
  | rest
  /-- R115. -/
  | wake
  /-- R117. -/
  | faultClear
  /-- R97: RELEASE TRIP is taken with its argument octet. -/
  | releaseTrip (station : Octet)
  /-- R189: RESTART is taken, with the strap levels and the stop condition that a RESTART in OFFLINE meets. -/
  | restart (sn : BitVec 5) (role : BitVec 2) (stopPossible : Bool)
  /-- R187: a command octet that is none of the eleven codes is taken. -/
  | unknownCommand (code : Octet)
  /-- R13 and R7: a filtered transition on LINE_RX to the level `dominant`; `stretch` is the length of the stretch it ends, in
  periods of CLK (125 ns). -/
  | lineTransition (dominant : Bool) (stretch : Nat)
  /-- R13: in MARK a recessive stretch reaches one and a half cells. -/
  | markRecessiveTimeout
  /-- R12: an attempt cut short has finished its cell. -/
  | cutAttemptEnd
  /-- R186: an octet completes on the panel port; `pdi` is what PDI carried. -/
  | panelOctetComplete (pdi : Octet)
  /-- R58: SMP_IN reads high again after a framing fault. -/
  | smpInReleased
  deriving DecidableEq, Repr

end Sys2Proof
end

