-- ==== Sys2Proof/Decode.lean ====
section
/-! DEFINITION. The word form of the commands. spec/opcode_table.json gives no row any bits ("fields" is empty in all 51 rows
and no row has "fixed" bits), so no word spells a command. -/

namespace Sys2Proof

/-- The command that the word `w` of `nbits` bits spells by the table's bits: none, for the table gives no bits (log 4). -/
def decodeTableWord (_nbits _w : Nat) : Option Instr := none

end Sys2Proof
end

