-- ==== Sys2Proof/Config.lean ====
section
/-! DEFINITION. What an implementation fixes and the spec leaves open. -/

namespace Sys2Proof

/-- R59 and R60: a framing fault that finds a partial word is both "a framing fault" (reason 1) and the cause of "a discarded
partial word" (reason 2), and no rule says which of the two is recorded as the last rejection. Free value of the octets gathered:
true records 2. Log 10. -/
opaque Config.partialWordReasonWins : List Octet → Bool

/-- R72 and R73: a low limit above the high limit is kept as given, and a value between the two is then both "below low" and
"above high", so that the table of R73 gives it both sides. Free value of the low limit, the high limit and the value: true shows
HIGH. Log 24. -/
opaque Config.crossedLimitsShowHigh : Int → Int → Int → Bool

end Sys2Proof
end

