-- ==== Sys2Proof/Machine/Kinds.lean ====
section
/-! DEFINITION. The named alternatives of the spec: roles, duties, conditions, states, kinds of frame, verdicts. -/

namespace Sys2Proof.Machine

/-- A timer of the device. It is stopped at 0, or it runs toward the limit (in milliseconds) that the rule starting it gives.
Durations are not state: the command naming the expiry is sent by the outside world (log 1). -/
inductive Timer where
  | stopped
  | running (limit : Nat)
  deriving DecidableEq, Repr

/-- The three roles (R180). -/
inductive Role where
  | well
  | turbine
  | exchange
  deriving DecidableEq, Repr

/-- Role codes of R18. -/
def Role.code : Role → Nat
  | .well => 0
  | .turbine => 1
  | .exchange => 2

/-- The role of a role code; code 3 names none (R20, R180). -/
def roleOfCode : Nat → Option Role
  | 0 => some .well
  | 1 => some .turbine
  | 2 => some .exchange
  | _ => none

/-- The seven duties (R102). -/
inductive Duty where
  | resting
  | starting
  | on
  | asking
  | refused
  | stopping
  | fault
  deriving DecidableEq, Repr

/-- Duty codes of R18. -/
def Duty.code : Duty → Nat
  | .resting => 0
  | .starting => 1
  | .on => 2
  | .asking => 3
  | .refused => 4
  | .stopping => 5
  | .fault => 6

/-- The duty of a duty code; 7 and above name none (R43). -/
def dutyOfCode : Nat → Option Duty
  | 0 => some .resting
  | 1 => some .starting
  | 2 => some .on
  | 3 => some .asking
  | 4 => some .refused
  | 5 => some .stopping
  | 6 => some .fault
  | _ => none

/-- ON, ASKING and REFUSED: the pump runs toward its target and the station is counted (R51, R109). -/
def Duty.runs : Duty → Bool
  | .on => true
  | .asking => true
  | .refused => true
  | _ => false

/-- Line states (R29). -/
inductive LineState where
  | offline
  | joining
  | active
  | listenOnly
  deriving DecidableEq, Repr

/-- Codes of the line states in STATUS (R195). -/
def LineState.code : LineState → Nat
  | .offline => 0
  | .joining => 1
  | .active => 2
  | .listenOnly => 3

/-- Load states (R188). -/
inductive LoadState where
  | reading
  | loaded
  | faulted
  deriving DecidableEq, Repr

/-- Codes of the load states in STATUS (R195). -/
def LoadState.code : LoadState → Nat
  | .reading => 0
  | .loaded => 1
  | .faulted => 2

/-- The six frame kinds (R18). -/
inductive FrameKind where
  | stateReport
  | demand
  | restAsk
  | restReply
  | trip
  | clear
  deriving DecidableEq, Repr

/-- Kind codes of R18. -/
def FrameKind.code : FrameKind → Nat
  | .stateReport => 1
  | .demand => 2
  | .restAsk => 3
  | .restReply => 4
  | .trip => 5
  | .clear => 6

/-- The kind of a kind code; 0 and 7 name none (R20). -/
def kindOfCode : Nat → Option FrameKind
  | 1 => some .stateReport
  | 2 => some .demand
  | 3 => some .restAsk
  | 4 => some .restReply
  | 5 => some .trip
  | 6 => some .clear
  | _ => none

/-- Payload octets of each kind (R18). -/
def FrameKind.payloadLength : FrameKind → Nat
  | .stateReport => 7
  | .demand => 3
  | .restAsk => 2
  | .restReply => 3
  | .trip => 1
  | .clear => 0

/-- Lead-in cells of each kind (R5). -/
def FrameKind.leadIn : FrameKind → Nat
  | .trip => 10
  | .clear => 10
  | .restReply => 8
  | .restAsk => 6
  | .demand => 4
  | .stateReport => 4

/-- The column "Sent by role" of R18. -/
def FrameKind.sentBy : FrameKind → Role → Bool
  | .stateReport, .well => true
  | .demand, .turbine => true
  | .demand, .exchange => true
  | .restAsk, .well => true
  | .restReply, .well => true
  | .trip, .turbine => true
  | .clear, .turbine => true
  | _, _ => false

/-- The verdicts of a REST-REPLY (R18). -/
inductive Verdict where
  | agree
  | refuseShort
  | refuseFull
  deriving DecidableEq, Repr

/-- Verdict codes of R18. -/
def Verdict.code : Verdict → Nat
  | .agree => 1
  | .refuseShort => 2
  | .refuseFull => 3

/-- The verdict of a verdict code; a code outside 1..3 names none (R125, R126). -/
def verdictOfCode : Nat → Option Verdict
  | 1 => some .agree
  | 2 => some .refuseShort
  | 3 => some .refuseFull
  | _ => none

/-- The causes of a turbine's trip (R18, R147). -/
inductive TripCause where
  | tripIn
  | headerHigh
  deriving DecidableEq, Repr

/-- Trip cause codes of R18. -/
def TripCause.code : TripCause → Nat
  | .tripIn => 1
  | .headerHigh => 2

/-- The condition of a peer row (R40). -/
inductive Condition where
  | absent
  | fresh
  | stale
  | lost
  deriving DecidableEq, Repr

/-- Codes of the conditions in READ ROW (R195). -/
def Condition.code : Condition → Nat
  | .absent => 0
  | .fresh => 1
  | .stale => 2
  | .lost => 3

/-- FRESH or STALE: the conditions in which a row is counted or contributes (R51, R52). -/
def Condition.heard : Condition → Bool
  | .fresh => true
  | .stale => true
  | _ => false

/-- The state of a quantity (R63). -/
inductive Validity where
  | valid
  | held
  | invalid
  deriving DecidableEq, Repr

/-- Codes of the quantity states in READ QUANTITY (R195). -/
def Validity.code : Validity → Nat
  | .valid => 0
  | .held => 1
  | .invalid => 2

/-- The kind of a quantity (R63), with its code of R195. -/
inductive QuantityKind where
  | measured
  | margin
  | computed
  deriving DecidableEq, Repr

/-- Codes of the quantity kinds in READ QUANTITY (R195). -/
def QuantityKind.code : QuantityKind → Nat
  | .measured => 0
  | .margin => 1
  | .computed => 2

/-- The reasons of the last rejection on the sample link (R60). -/
inductive Rejection where
  | framing
  | partialWord
  | checkOctet
  | channelBits
  deriving DecidableEq, Repr

/-- Reason numbers of R60. -/
def Rejection.code : Rejection → Nat
  | .framing => 1
  | .partialWord => 2
  | .checkOctet => 3
  | .channelBits => 4

/-- The reasons a latch refuses a word for (R61). -/
inductive Refused where
  | faultKey
  | range
  deriving DecidableEq, Repr

/-- Codes of the last refusal in READ CHANNEL (R195). -/
def Refused.code : Refused → Nat
  | .faultKey => 1
  | .range => 2

/-- The side of a window in ALARM (R72). -/
inductive Side where
  | low
  | high
  deriving DecidableEq, Repr

/-- The detail a window's firing carries for its side (R74). -/
def Side.code : Side → Nat
  | .low => 1
  | .high => 2

/-- The state of a watch window; the side is present while it is in ALARM (R72). -/
inductive WindowState where
  | clear
  | alarm (side : Side)
  | unknown
  deriving DecidableEq, Repr

/-- The modes of an action channel (R174). -/
inductive Mode where
  | pulse0
  | pulse1
  | derate
  | count
  deriving DecidableEq, Repr

/-- Mode codes of R174. -/
def Mode.code : Mode → Nat
  | .pulse0 => 0
  | .pulse1 => 1
  | .derate => 2
  | .count => 3

/-- The mode of a mode code; a code above 3 names none (R174). -/
def modeOfCode : Nat → Option Mode
  | 0 => some .pulse0
  | 1 => some .pulse1
  | 2 => some .derate
  | 3 => some .count
  | _ => none

/-- The states of LIF's transmit side (R6). -/
inductive TxState where
  | none
  | waiting
  | lead
  | mark
  | data
  | close
  | check
  deriving DecidableEq, Repr

/-- The states of LIF's receive side (R13). -/
inductive RxState where
  | hunt
  | lead
  | mark
  | data
  deriving DecidableEq, Repr

/-- The line phase of R17. -/
inductive LinePhase where
  | idle
  | sending
  | receiving
  deriving DecidableEq, Repr

/-- The quiet-gap count of R7: held at 0 from a hard reset to the image load; cleared while the line is dominant and until its
next dominant-to-recessive transition; running since that transition, with the half-cells that have ended since (log 43). -/
inductive QuietCount where
  | held
  | cleared
  | running (halfCells : Nat)
  deriving DecidableEq, Repr

/-- The result codes of R194. -/
inductive Result where
  | done
  | refusedState
  | refusedRole
  | badArgument
  | unknownCommand
  | empty
  deriving DecidableEq, Repr

/-- Codes of the results (R194). -/
def Result.code : Result → Nat
  | .done => 0
  | .refusedState => 1
  | .refusedRole => 2
  | .badArgument => 3
  | .unknownCommand => 4
  | .empty => 5

/-- The point of a failure as the detail of SEND_DROPPED (R36). -/
def failPointCode : FailPoint → Nat
  | .leadMark => 1
  | .data => 2
  | .check => 3

end Sys2Proof.Machine
end

