-- ==== Sys2Proof/Machine/Settings.lean ====
section
/-! DEFINITION. The settings of the station: what a good load takes from the image, and the defaults a hard reset leaves. -/

namespace Sys2Proof.Machine

/-- The configuration of one watch window (R72). -/
structure WindowConfig where
  enabled : Bool
  quantity : Nat
  low : Int
  high : Int
  hysteresis : Int
  deriving DecidableEq, Repr

/-- One point of the saturation table: silica S_k and temperature T_k (R69). -/
structure TablePoint where
  silica : Nat
  temperature : Nat
  deriving DecidableEq, Repr

/-- Every setting of the image (R193), in the units of its owner's table. -/
structure Settings where
  /-- R3: 0, 1 or 2. -/
  cellTimeCode : Nat
  /-- R58: 0..3. -/
  sampleRateCode : Nat
  /-- R183, in ms. -/
  refreshPeriod : Nat
  /-- R64, in ms. -/
  scanPeriod : Nat
  /-- R40, in refresh ticks. -/
  staleLimit : Nat
  /-- R40, in refresh ticks. -/
  lostLimit : Nat
  /-- R65, in scans. -/
  invalidLimit : Nat
  /-- R165: 1..7. -/
  attentionThreshold : Nat
  /-- R61. -/
  faultKey : Nat
  /-- R67, in kPa. -/
  bubblePoint : Nat
  /-- R38. -/
  capacityStep : Nat
  /-- R39. -/
  demandStep : Nat
  /-- R77, in ms. -/
  sharePeriod : Nat
  /-- R177, in 0.1 s. -/
  doseWidth0 : Nat
  /-- R177, in 0.1 s. -/
  doseWidth1 : Nat
  /-- R77. -/
  cRated : Nat
  /-- R77. -/
  derateStep : Nat
  /-- R77. -/
  fMin : Nat
  /-- R77. -/
  tripFlow : Nat
  /-- R77, per share tick. -/
  rampUp : Nat
  /-- R77, per share tick. -/
  rampDown : Nat
  /-- R77, per share tick. -/
  tripRamp : Nat
  /-- R77, in scans. -/
  recoverySpan : Nat
  /-- R99: absent selects the station number. -/
  rank : Option Nat
  /-- R99, in s. -/
  startTimeout : Nat
  /-- R99, in s. -/
  stopTimeout : Nat
  /-- R99, in s. -/
  warmUp : Nat
  /-- R99, in s. -/
  recallBase : Nat
  /-- R99, in s. -/
  recallStep : Nat
  /-- R119, in s. -/
  grantHold : Nat
  /-- R119, in ms. -/
  replyWindow : Nat
  /-- R119, in s. -/
  refusedHoldOff : Nat
  /-- R119. -/
  reserve : Nat
  /-- R139, in kPa. -/
  pSet : Nat
  /-- R139, in 1/16 flow unit per kPa. -/
  kp : Nat
  /-- R139, in 1/256 flow unit per kPa per share tick. -/
  ki : Nat
  /-- R139: D_t_max. -/
  turbineLimit : Nat
  /-- R139: I0. -/
  initialIntegrator : Nat
  /-- R139, in kPa. -/
  pTrip : Nat
  /-- R139, in kPa. -/
  pTripHys : Nat
  /-- R153: T_s_set. -/
  supplySetpoint : Nat
  /-- R153: margin_si. -/
  silicaMargin : Nat
  /-- R153: T_bo_floor. -/
  outletFloor : Nat
  /-- R153: ΔT_min. -/
  minimumDrop : Nat
  /-- R153: ΔT_hys. -/
  dropHysteresis : Nat
  /-- R153: c_b. -/
  specificHeat : Nat
  /-- R153: D_x_max. -/
  exchangeLimit : Nat
  /-- R153: S_default. -/
  defaultSilica : Nat
  /-- R69: the 16 points. -/
  table : List TablePoint
  /-- R72: the 8 windows. -/
  windows : List WindowConfig
  /-- R165: the levels of sources 1..36, in source order. -/
  levels : List Nat
  deriving DecidableEq, Repr

/-- The window of the default column of R72. -/
def defaultWindow : WindowConfig :=
  { enabled := false, quantity := 0, low := -2147483648, high := 2147483647, hysteresis := 0 }

/-- The default image's saturation table (R69). -/
def defaultTable : List TablePoint :=
  [⟨100, 169⟩, ⟨200, 563⟩, ⟨300, 847⟩, ⟨400, 1080⟩, ⟨500, 1283⟩, ⟨600, 1465⟩, ⟨700, 1633⟩, ⟨800, 1790⟩,
   ⟨900, 1937⟩, ⟨1000, 2078⟩, ⟨1100, 2212⟩, ⟨1200, 2342⟩, ⟨1300, 2467⟩, ⟨1400, 2589⟩, ⟨1500, 2708⟩, ⟨1600, 2824⟩]

/-- The default levels of sources 1..36 (the table of event sources, R165). -/
def defaultLevels : List Nat :=
  [1, 3, 7, 2, 1, 3, 1, 4, 0, 4] ++ List.replicate 8 3 ++
  [2, 3, 5, 5, 7, 1, 5, 3, 3, 2, 2, 4, 5, 2] ++ List.replicate 4 2

/-- The settings a hard reset leaves: every default of the tables of R183, R77, R99, R119, R139 and R153 and of R38, R39, R61,
R64, R65, R67, R165 and R177 (R182: "The settings stand as the hard reset left them, at their defaults"). -/
def Settings.default : Settings where
  cellTimeCode := 0
  sampleRateCode := 2
  refreshPeriod := 1000
  scanPeriod := 500
  staleLimit := 3
  lostLimit := 10
  invalidLimit := 4
  attentionThreshold := 4
  faultKey := 65535
  bubblePoint := 1200
  capacityStep := 50
  demandStep := 50
  sharePeriod := 200
  doseWidth0 := 20
  doseWidth1 := 20
  cRated := 1000
  derateStep := 100
  fMin := 200
  tripFlow := 300
  rampUp := 20
  rampDown := 50
  tripRamp := 500
  recoverySpan := 20
  rank := none
  startTimeout := 30
  stopTimeout := 30
  warmUp := 60
  recallBase := 10
  recallStep := 5
  grantHold := 5
  replyWindow := 1000
  refusedHoldOff := 30
  reserve := 200
  pSet := 600
  kp := 160
  ki := 64
  turbineLimit := 3000
  initialIntegrator := 0
  pTrip := 900
  pTripHys := 50
  supplySetpoint := 900
  silicaMargin := 50
  outletFloor := 700
  minimumDrop := 50
  dropHysteresis := 20
  specificHeat := 410
  exchangeLimit := 4000
  defaultSilica := 400
  table := defaultTable
  windows := List.replicate 8 defaultWindow
  levels := defaultLevels

end Sys2Proof.Machine
end

