-- ==== Sys2Proof/Machine/State.lean ====
section
/-! DEFINITION. The state of the block, as plain data, its state after reset, and the reasons a step can stop. -/

namespace Sys2Proof.Machine

/-- No step of this block ends in a fault: every event has an effect in the spec or changes nothing (log 3). -/
inductive Fault where
  deriving DecidableEq, Repr

/-- The reasons a command can be refused. -/
inductive Refusal where
  /-- Raised by the dispatch for a command that has no meaning yet; safe. No command of this model is refused. -/
  | notModelled (mnemonic : String)
  deriving DecidableEq, Repr

/-- The inputs as last seen (Pins, R180, R186, R190). -/
@[ext] structure Pins where
  /-- RESET is low (R190). -/
  resetLow : Bool
  /-- The filtered level of LINE_RX is dominant (R2). -/
  lineDominant : Bool
  /-- How long LINE_RX has held that level, in periods of CLK: half-cells counted since the last transition (R13). -/
  lineSince : Nat
  /-- PCS is low (R186). -/
  pcsLow : Bool
  /-- SN4..SN0 (R180). -/
  sn : BitVec 5
  /-- ROLE1..ROLE0 (R180). -/
  roleStrap : BitVec 2
  /-- CSDA allows a stop condition within 25 ms (R181, R189). -/
  stopPossible : Bool
  deriving DecidableEq, Repr

/-- What STL puts on the bus of the configuration memory (R181): a start condition, an octet it sends, a repeated start, a data
octet it receives (`last` when it leaves that octet unacknowledged), a stop condition. -/
inductive BusSymbol where
  | start
  | octet (o : Octet)
  | again
  | data (last : Bool)
  | stop
  deriving DecidableEq, Repr

/-- The start loader STL (R180 to R184). -/
@[ext] structure Loader where
  loadState : LoadState
  faultCode : Nat
  /-- The station number read from the straps (R180). -/
  station : BitVec 5
  /-- The role code read from the straps (R180). -/
  roleCode : BitVec 2
  /-- The clamped-field count (R183). -/
  clamped : Nat
  /-- The transfer in progress, 0..9 (R181). -/
  transfer : Nat
  /-- Failed tries of that transfer (R181). -/
  failedTries : Nat
  /-- The stop condition of a failed try is going over the bus, and the 10 ms wait follows it (R181). -/
  waitDue : Bool
  /-- The 10 ms wait after a failed try and its stop condition (R181). -/
  retryWait : Timer
  /-- The octets of the transfers done (R181). -/
  image : List Octet
  /-- The last try ended with a stop condition (R181). -/
  stopSent : Bool
  /-- What is still to go over CSCL and CSDA, the symbol being clocked first; nothing while both lines are released (R181). -/
  bus : List BusSymbol
  /-- The phase of that symbol (R181, log 22). -/
  busAt : Nat
  deriving DecidableEq, Repr

/-- One half-cell of an attempt: the transmit state it belongs to and whether it is dominant (R4, R5, R6). -/
structure HalfCell where
  phase : TxState
  dominant : Bool
  deriving DecidableEq, Repr

/-- LIF's transmit side (R6): no frame; waiting for a quiet gap of so many cells; or an attempt, with the half-cells still to
send, the one being sent first, whether it has been cut short (R12), and the point at which its echo check has failed (R8). An
attempt with no half-cell left has ended, and its outcome is due. -/
inductive TxSide where
  | none
  | waiting (gapCells : Nat)
  | sending (wave : List HalfCell) (cut : Bool) (failed : Option FailPoint)
  deriving DecidableEq, Repr

/-- What the receive side has of the frame in DATA (R14). -/
@[ext] structure RxCells where
  /-- The opening mark's dominant cell is still to end. -/
  markDue : Bool
  /-- The level of the first half of the cell under way, once that half has ended. -/
  firstHalf : Option Bool
  /-- The bits of the octet under way, in order of arrival. -/
  bits : List Bool
  /-- The octets completed. -/
  octets : List Octet
  deriving DecidableEq, Repr

/-- What LIF is about to hand FRH (R14, R15): a header arrival, a completed frame with its own-echo mark, or a malformed report
with its reason. -/
inductive RxReport where
  | header
  | complete (ownEcho : Bool)
  | malformed (reason : Nat)
  deriving DecidableEq, Repr

/-- The line interface LIF. -/
@[ext] structure Lif where
  tx : TxSide
  quiet : QuietCount
  rx : RxState
  /-- How long the present stretch of LINE_RX had lasted when the receive side entered LEAD on a dominant line (R13). -/
  leadFrom : Nat
  /-- The cells of the frame being received (R14). -/
  cells : RxCells
  /-- The report that is due (R14, R15). -/
  report : Option RxReport
  /-- The header octets handed over for the frame being received (R14, R15). -/
  rxHeader : Option (Octet × Octet × Octet)
  /-- The start of the frame being received was accepted while SENDING (R17). -/
  rxStartedSending : Bool
  deriving DecidableEq, Repr

/-- The payload of an outbox entry, as its entering block supplied it (R18, R31). F and S are absent when not valid. -/
inductive Payload where
  | trip (cause : TripCause)
  | clear
  | restReply (addressee : Nat) (askSeq : Octet) (verdict : Verdict)
  | restAsk (capacity : Nat)
  | demand (demand : Nat) (cause : Nat)
  | stateReport (duty : Duty) (capacity : Nat) (flow silica : Option Nat)
  deriving DecidableEq, Repr

/-- One entry of the outbox (R31). -/
@[ext] structure Entry where
  payload : Payload
  /-- The attempt count (R36). -/
  count : Nat
  /-- The sequence number, absent until the first attempt begins (R24, R31). -/
  seq : Option Octet
  deriving DecidableEq, Repr

/-- The outbox: one slot per kind; the REST-REPLY slot is in order of age, oldest first (R31, R33). -/
@[ext] structure Outbox where
  trip : Option Entry
  clear : Option Entry
  replies : List Entry
  restAsk : Option Entry
  demand : Option Entry
  stateReport : Option Entry
  deriving DecidableEq, Repr

/-- The in-flight frame; `doomed` marks a CLEAR in flight when a TRIP was entered (R32, R35). -/
@[ext] structure InFlight where
  entry : Entry
  doomed : Bool
  deriving DecidableEq, Repr

/-- The frame handler FRH. -/
@[ext] structure Frh where
  lineState : LineState
  joinTimer : Timer
  /-- The next number (R24). -/
  nextSeq : Octet
  outbox : Outbox
  inFlight : Option InFlight
  /-- The last published C (R38). -/
  lastC : Option Nat
  /-- The last published demand (R39). -/
  lastDemand : Option Nat
  /-- The sender of the early trip notice whose closing report is still due (R27, R28). -/
  notice : Option Nat
  deriving DecidableEq, Repr

/-- The well part of a peer row; an absent C, F or S is "not valid" (R40). -/
@[ext] structure WellPart where
  duty : Option Duty
  capacity : Option Nat
  flow : Option Nat
  silica : Option Nat
  deriving DecidableEq, Repr

/-- The demand part of a peer row (R40). -/
@[ext] structure DemandPart where
  demand : Option Nat
  cause : Nat
  deriving DecidableEq, Repr

/-- One peer row (R40). -/
@[ext] structure PeerRow where
  condition : Condition
  role : Option Role
  age : Nat
  lastSeq : Option Octet
  well : Option WellPart
  demand : Option DemandPart
  deriving DecidableEq, Repr

/-- The peer view PVW: a slot for each station number; the own number's slot is never written (R40). -/
@[ext] structure Pvw where
  rows : Vector PeerRow 32
  deriving DecidableEq, Repr

/-- One channel latch (R61). -/
@[ext] structure Latch where
  pending : Option Nat
  last : Option Nat
  refusedCount : Nat
  lastRefusal : Option Refused
  deriving DecidableEq, Repr

/-- One entry of the quantity table (R63). -/
@[ext] structure Quantity where
  validity : Validity
  value : Int
  heldCount : Nat
  deriving DecidableEq, Repr

/-- The measurement unit MSU with the sample link. -/
@[ext] structure Msu where
  /-- The octets gathered so far (R59). -/
  gathered : List Octet
  /-- The idle time stands at 20 bit times or more (R59). -/
  idleReached : Bool
  /-- The receiver waits for SMP_IN to read high (R58). -/
  awaitHigh : Bool
  rejected : Nat
  lastRejection : Option Rejection
  latches : Vector Latch 8
  /-- Q0..Q10; a role uses its first ones (R63). -/
  quantities : Vector Quantity 11
  windows : Vector WindowState 8
  deriving DecidableEq, Repr

/-- SETPT (R89): idle high, or a word being sent: its four octets, its bits still to send with the one being sent first, and
whether another word waits. -/
inductive SetptLine where
  | idle
  | sending (octets : List Octet) (bits : List Bool) (waiting : Bool)
  deriving DecidableEq, Repr

/-- The duty unit DTU. -/
@[ext] structure Dtu where
  derateTotal : Nat
  quietCount : Nat
  normalTarget : Nat
  target : Nat
  setpoint : Nat
  /-- The trip set: the cause held for each station in it (R90). -/
  tripSet : Vector (Option Nat) 32
  /-- The pending trip (R90). -/
  pendingTrip : Option Nat
  duty : Duty
  /-- RUN_REQ is high (R100). -/
  runReq : Bool
  /-- The filtered RUN_ACK is high (R101). -/
  runAck : Bool
  recallTimer : Timer
  startTimer : Timer
  /-- Runs from the acknowledge to the end of the warm-up (R106). -/
  warmTimer : Timer
  stopTimer : Timer
  setpt : SetptLine
  deriving DecidableEq, Repr

/-- The ask record (R120). Early verdicts: at most one for each station number. Reply roll: an entry for each member, holding
its verdict once it has one. -/
inductive AskRecord where
  | idle
  | waiting
  | sending (seq : Octet) (early : Vector (Option Verdict) 32)
  | window (seq : Octet) (roll : Vector (Option (Option Verdict)) 32) (timer : Timer)
  deriving DecidableEq, Repr

/-- One entry of the grant list (R134). -/
@[ext] structure Grant where
  asker : Nat
  capacity : Nat
  hold : Timer
  deriving DecidableEq, Repr

/-- The rest negotiator RNG. -/
@[ext] structure Rng where
  ask : AskRecord
  grants : List Grant
  holdOff : Timer
  deriving DecidableEq, Repr

/-- The trip state with its cause (R147). -/
inductive TripState where
  | normal
  | tripped (cause : TripCause)
  deriving DecidableEq, Repr

/-- The supply regulator SRG. -/
@[ext] structure Srg where
  /-- I, in 1/256 flow unit (R140). -/
  integrator : Nat
  /-- D_t (R140). -/
  demand : Nat
  /-- e (R140). -/
  error : Int
  trip : TripState
  /-- The filtered TRIP_IN is active (R148). -/
  tripIn : Bool
  deriving DecidableEq, Repr

/-- The exchange computer XCP (R154). -/
@[ext] structure Xcp where
  sMix : Nat
  tSat : Nat
  tBoMin : Nat
  isolated : Bool
  heat : Nat
  /-- D_x. -/
  demand : Nat
  deriving DecidableEq, Repr

/-- One entry of the event queue (R167); `delivery` is the in-delivery mark with its late count (R171, R172). -/
@[ext] structure QueueEntry where
  source : Nat
  level : Nat
  subject : Option Nat
  detail : Option Nat
  repeatCount : Nat
  stamp : Nat
  delivery : Option Nat
  deriving DecidableEq, Repr

/-- One action channel (R174); an absent filter is ANY. -/
@[ext] structure Channel where
  source : Option Nat
  filter : Option Nat
  mode : Mode
  count : Nat
  deriving DecidableEq, Repr

/-- The event unit EVU. -/
@[ext] structure Evu where
  /-- In order of arrival, oldest first. -/
  queue : List QueueEntry
  /-- 0..65535 (R167). -/
  refreshCount : Nat
  dropped : Nat
  channels : Vector Channel 4
  /-- DOSE0 is high while this runs (R177). -/
  dose0 : Timer
  /-- DOSE1 is high while this runs (R177). -/
  dose1 : Timer
  deriving DecidableEq, Repr

/-- What the end of a whole transaction does (R186): nothing, settle the entry in delivery (R172), or lower the dropped count
by the value reported (R170). -/
inductive EndEffect where
  | nothing
  | settleTake
  | lowerDropped (reported : Nat)
  deriving DecidableEq, Repr

/-- The transaction phase (R186). ARGUMENTS keeps the command octet and the arguments so far; RESPONSE keeps whether the
turnaround octet is still to be clocked, the pending response and the end effect. -/
inductive PanelPhase where
  | idle
  | command
  | arguments (code : Octet) (got : List Octet)
  | response (turnaroundDue : Bool) (rest : List Octet) (ending : EndEffect)
  | discard
  deriving DecidableEq, Repr

/-- The panel port PNP. -/
@[ext] structure Pnp where
  phase : PanelPhase
  /-- The octet last sent on PDO. -/
  pdo : Octet
  deriving DecidableEq, Repr

/-- The state of the block: one part for each of its units, the settings, the inputs, and the commands that wait. -/
@[ext]
structure State where
  pins : Pins
  stl : Loader
  settings : Settings
  lif : Lif
  frh : Frh
  pvw : Pvw
  msu : Msu
  dtu : Dtu
  rng : Rng
  srg : Srg
  xcp : Xcp
  evu : Evu
  pnp : Pnp
  pending : List Instr
  deriving DecidableEq, Repr

/-- The receive side at the acceptance of a start: the mark's dominant cell has begun (R13, R14). -/
def RxCells.start : RxCells where
  markDue := true
  firstHalf := none
  bits := []
  octets := []

/-- An outbox with every slot empty. -/
def Outbox.empty : Outbox where
  trip := none
  clear := none
  replies := []
  restAsk := none
  demand := none
  stateReport := none

/-- A peer row after a hard reset (R40). -/
def PeerRow.empty : PeerRow where
  condition := .absent
  role := none
  age := 0
  lastSeq := none
  well := none
  demand := none

/-- A latch after a hard reset (R61). -/
def Latch.empty : Latch where
  pending := none
  last := none
  refusedCount := 0
  lastRefusal := none

/-- A quantity after a hard reset (R63). -/
def Quantity.empty : Quantity where
  validity := .invalid
  value := 0
  heldCount := 0

/-- A channel after a hard reset (R174). -/
def Channel.unbound : Channel where
  source := none
  filter := none
  mode := .count
  count := 0

/-- The machine held in hard reset (R190): RESET is low and every block holds its hard-reset state. The inputs stand at the
levels log 5 names, and no command waits. -/
def State.reset : State where
  pins :=
    { resetLow := true, lineDominant := false, lineSince := 0, pcsLow := false, sn := 0, roleStrap := 0, stopPossible := true }
  stl :=
    { loadState := .reading, faultCode := 0, station := 0, roleCode := 0, clamped := 0, transfer := 0, failedTries := 0,
      waitDue := false, retryWait := .stopped, image := [], stopSent := false, bus := [], busAt := 0 }
  settings := Settings.default
  lif :=
    { tx := .none, quiet := .held, rx := .hunt, leadFrom := 0, cells := RxCells.start, report := none, rxHeader := none,
      rxStartedSending := false }
  frh :=
    { lineState := .offline, joinTimer := .stopped, nextSeq := 0, outbox := Outbox.empty, inFlight := none, lastC := none,
      lastDemand := none, notice := none }
  pvw := { rows := Vector.replicate 32 PeerRow.empty }
  msu :=
    { gathered := [], idleReached := true, awaitHigh := false, rejected := 0, lastRejection := none,
      latches := Vector.replicate 8 Latch.empty, quantities := Vector.replicate 11 Quantity.empty,
      windows := Vector.replicate 8 .unknown }
  dtu :=
    { derateTotal := 0, quietCount := 0, normalTarget := Settings.default.fMin, target := 0, setpoint := 0,
      tripSet := Vector.replicate 32 none, pendingTrip := none, duty := .resting, runReq := false, runAck := false,
      recallTimer := .stopped, startTimer := .stopped, warmTimer := .stopped, stopTimer := .stopped, setpt := .idle }
  rng := { ask := .idle, grants := [], holdOff := .stopped }
  srg := { integrator := 0, demand := 0, error := 0, trip := .normal, tripIn := false }
  xcp := { sMix := 0, tSat := 0, tBoMin := 0, isolated := false, heat := 0, demand := 0 }
  evu :=
    { queue := [], refreshCount := 0, dropped := 0, channels := Vector.replicate 4 Channel.unbound, dose0 := .stopped,
      dose1 := .stopped }
  pnp := { phase := .idle, pdo := 0 }
  pending := []

end Sys2Proof.Machine
end

