-- ==== Sys2Proof/Machine/Operands.lean ====
section
/-! DEFINITION. The operand forms: numbered tables, octet placement, frame fields, the CRC, and the pattern a frame makes on the
line and a word on SETPT. -/

namespace Sys2Proof.Machine

/-- The entry of number `i` of a numbered table; `d` where the table has no such number. -/
def slotGet {α : Type} {n : Nat} (v : Vector α n) (i : Nat) (d : α) : α :=
  if h : i < n then v[i] else d

/-- The table with `a` at number `i`; a number the table lacks changes nothing. -/
def slotSet {α : Type} {n : Nat} (v : Vector α n) (i : Nat) (a : α) : Vector α n :=
  v.setIfInBounds i a

/-- The table with every entry passed through `f`, which also sees the number. -/
def slotMap {α β : Type} {n : Nat} (f : Nat → α → β) (v : Vector α n) : Vector β n :=
  Vector.ofFn fun i : Fin n => f i.val v[i]

/-- The octet of a number, its low eight bits. -/
def octetOf (n : Nat) : Octet := BitVec.ofNat 8 n

/-- Two octets, least significant first (00_scope.md, Numbers). -/
def octets16 (n : Nat) : List Octet := [octetOf n, octetOf (n / 256)]

/-- Four octets of a signed value in two's complement, least significant first (12_formats.md). -/
def octets32 (v : Int) : List Octet :=
  let n := (BitVec.ofInt 32 v).toNat
  [octetOf n, octetOf (n / 256), octetOf (n / 65536), octetOf (n / 16777216)]

/-- The number two octets hold, least significant first. -/
def number16 (lo hi : Octet) : Nat := lo.toNat + 256 * hi.toNat

/-- A 16-bit field of a received frame: 65535 means not valid (00_scope.md, Units). -/
def field16 (lo hi : Octet) : Option Nat :=
  let v := number16 lo hi
  if v = 65535 then none else some v

/-- A 16-bit field to send: 65535 for not valid, and 65534 in place of a value of exactly 65535 (R19). -/
def fieldNumber : Option Nat → Nat
  | none => 65535
  | some v => if v = 65535 then 65534 else v

/-- The number a level stands for in a flag (R195). -/
def flagBit (b : Bool) (position : Nat) : Nat := if b then 2 ^ position else 0

/-! ### Frame fields (R191) -/

/-- Bits 0..4 of header octet 0. -/
def senderOf (h0 : Octet) : Nat := h0.toNat % 32

/-- Bits 5..6 of header octet 0. -/
def roleCodeOf (h0 : Octet) : Nat := h0.toNat / 32 % 4

/-- Bit 7 of header octet 0. -/
def topBitOf (h0 : Octet) : Bool := decide (128 ≤ h0.toNat)

/-- Bits 0..2 of header octet 1. -/
def kindCodeOf (h1 : Octet) : Nat := h1.toNat % 8

/-- Bits 3..7 of header octet 1. -/
def payloadLengthOf (h1 : Octet) : Nat := h1.toNat / 8

/-- The kind of a payload. -/
def Payload.kind : Payload → FrameKind
  | .trip _ => .trip
  | .clear => .clear
  | .restReply _ _ _ => .restReply
  | .restAsk _ => .restAsk
  | .demand _ _ => .demand
  | .stateReport _ _ _ _ => .stateReport

/-- The octets of a payload (R191). -/
def Payload.octets : Payload → List Octet
  | .trip cause => [octetOf cause.code]
  | .clear => []
  | .restReply addressee askSeq verdict => [octetOf addressee, askSeq, octetOf verdict.code]
  | .restAsk capacity => octets16 capacity
  | .demand flow cause => octets16 flow ++ [octetOf cause]
  | .stateReport duty capacity flow silica =>
    [octetOf duty.code] ++ octets16 capacity ++ octets16 (fieldNumber flow) ++ octets16 (fieldNumber silica)

/-- The three header octets (R19, R191). -/
def headerOctets (station roleCode : Nat) (kind : FrameKind) (seq : Octet) : List Octet :=
  [octetOf (station % 32 + 32 * (roleCode % 4)), octetOf (kind.code + 8 * kind.payloadLength), seq]

/-! ### The CRC (R16) -/

/-- One bit of the division by x^16 + x^12 + x^5 + 1. -/
def crcShift (crc : BitVec 16) : BitVec 16 :=
  if crc.msb then (crc <<< 1) ^^^ 0x1021 else crc <<< 1

/-- One octet of the division, most significant bit first. -/
def crcOctet (crc : BitVec 16) (octet : Octet) : BitVec 16 :=
  let c := crc ^^^ (octet.zeroExtend 16 <<< 8)
  crcShift (crcShift (crcShift (crcShift (crcShift (crcShift (crcShift (crcShift c)))))))

/-- The CRC of header and payload octets, in the order they are sent. -/
def crc16 (octets : List Octet) : BitVec 16 := octets.foldl crcOctet 0xFFFF

/-- The two CRC octets, low octet first. -/
def crcOctets (octets : List Octet) : List Octet := octets16 (crc16 octets).toNat

/-- The receiver's check: the last two of the octets are the CRC of those before them. -/
def crcPasses (octets : List Octet) : Bool :=
  decide (2 ≤ octets.length) &&
    crcOctets (octets.take (octets.length - 2)) == octets.drop (octets.length - 2)

/-- The whole frame as sent: header, payload and CRC octets (R5, R19). -/
def frameOctets (station roleCode : Nat) (payload : Payload) (seq : Octet) : List Octet :=
  let body := headerOctets station roleCode payload.kind seq ++ payload.octets
  body ++ crcOctets body

/-! ### The frame on the line (R4, R5) -/

/-- The bits of an octet, least significant first. -/
def octetBits (octet : Octet) : List Bool := (List.range 8).map octet.getLsbD

/-- The octet of eight bits, least significant first. -/
def octetOfBits (bits : List Bool) : Octet := octetOf (bits.foldr (fun b n => b.toNat + 2 * n) 0)

/-- One cell: its two half-cells. -/
def cell (phase : TxState) (first second : Bool) : List HalfCell := [⟨phase, first⟩, ⟨phase, second⟩]

/-- A data cell: 1 is dominant then recessive, 0 is recessive then dominant (R4). -/
def dataCell (bit : Bool) : List HalfCell := cell .data bit (!bit)

/-- The half-cells of one attempt: lead-in, opening mark, data, closer with the release check (R5, R6). -/
def attemptWave (kind : FrameKind) (octets : List Octet) : List HalfCell :=
  (List.replicate kind.leadIn (cell .lead true true)).flatten ++
  cell .mark false false ++ cell .mark true true ++
  (octets.flatMap octetBits).flatMap dataCell ++
  cell .close true true ++ cell .check false false

/-- What is left of an attempt that is cut short: the rest of the cell being sent, with the half being sent (R12). -/
def cutWave (wave : List HalfCell) : List HalfCell :=
  wave.take (if wave.length % 2 = 0 then 2 else 1)

/-! ### Asynchronous serial words (R58, R89, R192) -/

/-- One octet framed by a start bit (low), eight data bits least significant first and a stop bit (high). -/
def serialBits (octet : Octet) : List Bool := [false] ++ octetBits octet ++ [true]

/-- The check octet of sample and setpoint words (R60, R192). -/
def checkOctet (o0 o1 o2 : Octet) : Octet := o0 ^^^ o1 ^^^ o2 ^^^ 0x5A

/-- The four octets of a setpoint word (R192). -/
def setpointOctets (setpoint : Nat) (duty : Duty) (runReq : Bool) : List Octet :=
  let o0 := octetOf setpoint
  let o1 := octetOf (setpoint / 256)
  let o2 := octetOf (duty.code + flagBit runReq 7)
  [o0, o1, o2, checkOctet o0 o1 o2]

/-! ### The configuration memory bus (R181) -/

/-- What goes over the bus in transfer `k`, in the order of R181: a start, the bus address 0x2C for writing, the memory address 32k
high octet first, a repeated start, the bus address for reading, 32 data octets of which the last is not acknowledged, a stop. -/
def transferSymbols (k : Nat) : List BusSymbol :=
  [.start, .octet 0x58, .octet (octetOf (32 * k / 256)), .octet (octetOf (32 * k)), .again, .octet 0x59] ++
    List.replicate 31 (.data false) ++ [.data true, .stop]

/-- The levels STL gives CSCL and CSDA in one clock of a bit, high for true: CSDA changes while CSCL is low (R181). -/
def clockBit (csda : Bool) : List (Bool × Bool) := [(false, csda), (true, csda), (false, csda)]

/-- The levels STL gives CSCL and CSDA in the phases of a symbol, a released line being high (R181): CSDA falls or rises under a
high CSCL in a start or stop, an octet goes most significant bit first, and STL leaves CSDA to the memory in the acknowledge bit
of an octet it sends and in the bits of an octet it receives. -/
def BusSymbol.levels : BusSymbol → List (Bool × Bool)
  | .start => [(true, true), (true, false), (false, false)]
  | .octet o => (octetBits o).reverse.flatMap clockBit ++ clockBit true
  | .again => [(false, true), (true, true), (true, false), (false, false)]
  | .data last => (List.replicate 8 (clockBit true)).flatten ++ clockBit last
  | .stop => [(false, false), (true, false), (true, true)]

/-- The phase in which the ninth clock of an octet has been given and its acknowledge bit is known (R181). -/
def acknowledgePhase : Nat := 26

end Sys2Proof.Machine
end

