-- ==== Sys2Proof/Machine/Flags.lean ====
section
/-! DEFINITION. What is read off the state: role and own number, sums of the peer view, tests that several rules share, and the
levels of the output pins. -/

namespace Sys2Proof.Machine

/-- The own station number (R180). -/
def ownNumber (s : State) : Nat := s.stl.station.toNat

/-- The role from the straps; role code 3 names none (R180). -/
def roleOf (s : State) : Option Role := roleOfCode s.stl.roleCode.toNat

/-- The station's role is `r`. -/
def hasRole (s : State) (r : Role) : Bool := roleOf s == some r

/-- JOINING, ACTIVE or LISTEN_ONLY: the line states in which the blocks work (R13, R58, R64, R82). -/
def works (s : State) : Bool := !s.pins.resetLow && s.frh.lineState != .offline

/-- The station's present capacity (R78). -/
def cOwn (s : State) : Nat := s.settings.cRated - s.dtu.derateTotal

/-- max(C_own, F_min), the upper bound of law 3. -/
def capacityCeiling (s : State) : Nat := max (cOwn s) s.settings.fMin

/-- The station is in the trip set (R90). -/
def inTripSet (s : State) (station : Nat) : Bool := (slotGet s.dtu.tripSet station none).isSome

/-- The number of stations in the trip set (R188). -/
def tripSetSize (s : State) : Nat := s.dtu.tripSet.toList.countP (·.isSome)

/-- A trip is in force (R90). -/
def tripInForce (s : State) : Bool := s.dtu.tripSet.toList.any (·.isSome) || s.dtu.pendingTrip.isSome

/-! ### The peer view's sums (R51 to R56) -/

/-- A WELL row is counted (R51). -/
def counted (r : PeerRow) : Bool :=
  r.role == some .well && r.condition.heard &&
    match r.well with
    | some w => match w.duty with
      | some d => d.runs
      | none => false
    | none => false

/-- The demand a row contributes, if it contributes (R52). -/
def contribution (r : PeerRow) : Option Nat :=
  if r.condition.heard && (r.role == some .turbine || r.role == some .exchange) then r.demand.bind (·.demand) else none

/-- The capacity of a row, 0 where it is absent or not valid (R54). -/
def rowCapacity (r : PeerRow) : Nat := (r.well.bind (·.capacity)).getD 0

/-- The row of a station number. -/
def rowOf (s : State) (station : Nat) : PeerRow := slotGet s.pvw.rows station PeerRow.empty

/-- The field demand D (R53). -/
def fieldDemand (s : State) : Nat := (s.pvw.rows.toList.map fun r => (contribution r).getD 0).sum

/-- The peer capacity sum (R54). -/
def peerCapacity (s : State) : Nat := (s.pvw.rows.toList.map fun r => if counted r then rowCapacity r else 0).sum

/-- The F and S of a counted row, when both are valid (R55). -/
def silicaPair (r : PeerRow) : Option (Nat × Nat) :=
  if counted r then
    match r.well with
    | some w => match w.flow, w.silica with
      | some f, some x => some (f, x)
      | _, _ => none
    | none => none
  else none

/-- The sum of F times S over the rows that hold both (R55). -/
def silicaFlowSum (s : State) : Nat :=
  (s.pvw.rows.toList.map fun r => match silicaPair r with
    | some p => p.1 * p.2
    | none => 0).sum

/-- The sum of F over the same rows (R55). -/
def flowSum (s : State) : Nat :=
  (s.pvw.rows.toList.map fun r => match silicaPair r with
    | some p => p.1
    | none => 0).sum

/-- A row that sets the peer-starting flag (R56). -/
def startingRow (r : PeerRow) : Bool :=
  r.role == some .well && r.condition.heard && (r.well.bind (·.duty)) == some .starting

/-- The peer-starting flag (R56). -/
def peerStarting (s : State) : Bool := s.pvw.rows.toList.any startingRow

/-! ### Timing values the settings give -/

/-- Cell time in periods of CLK at 8.000 MHz: 16, 32 or 64 µs (R3). -/
def cellClocks (s : State) : Nat := 128 * 2 ^ s.settings.cellTimeCode

/-- The length of a stretch in half-cells, judged to the nearest, a midway length to the longer (R13). -/
def judgedHalfCells (s : State) (stretch : Nat) : Nat :=
  let half := cellClocks s / 2
  (stretch + half / 2) / half

/-- The quiet gap, in cells, that an attempt number requires (R7). -/
def requiredGap (s : State) (attempt : Nat) : Nat :=
  if attempt = 0 then 8 else 8 + 2 * (ownNumber s + 1)

/-- The recall time in seconds (R99). -/
def recallTime (s : State) : Nat :=
  s.settings.recallBase + (s.settings.rank.getD (ownNumber s)) * s.settings.recallStep

/-- The join period in ms: three refresh periods (R184). -/
def joinPeriod (s : State) : Nat := 3 * s.settings.refreshPeriod

/-! ### Line interface -/

/-- The state of the transmit side at the point of a failed echo check (R8). -/
def failState : FailPoint → TxState
  | .leadMark => .mark
  | .data => .data
  | .check => .check

/-- The state of the transmit side (R6). An attempt that has ended stands in the state of its failed cell, or in CHECK, until its
outcome is taken (log 2). -/
def txState (s : State) : TxState :=
  match s.lif.tx with
  | .none => .none
  | .waiting _ => .waiting
  | .sending (h :: _) _ _ => h.phase
  | .sending [] _ (some p) => failState p
  | .sending [] _ none => .check

/-- The transmit side is driving its present half-cell dominant (R2). -/
def drivesDominant (s : State) : Bool :=
  match s.lif.tx with
  | .sending (h :: _) _ _ => h.dominant
  | _ => false

/-- LINE_TX: low for a dominant half-cell, high otherwise (R2). -/
def lineTx (s : State) : Bool := !drivesDominant s

/-- DRIVE_EN: high during each dominant half-cell (R2). -/
def driveEn (s : State) : Bool := drivesDominant s

/-- The transmit side is in LEAD, MARK, DATA, CLOSE or CHECK (R17). -/
def isSending (s : State) : Bool :=
  match s.lif.tx with
  | .sending _ _ _ => true
  | _ => false

/-- The line phase (R17). -/
def linePhase (s : State) : LinePhase :=
  if isSending s then .sending else if s.lif.rx = .data then .receiving else .idle

/-- In WAITING, in ACTIVE, the quiet gap that the held frame requires has been counted, at two half-cells to the cell (R7,
log 43). -/
def gapReached (s : State) : Bool :=
  works s && s.frh.lineState == .active &&
    match s.lif.tx, s.lif.quiet with
    | .waiting gap, .running halfCells => decide (2 * gap ≤ halfCells)
    | _, _ => false

/-! ### Other outputs -/

/-- The levels STL gives CSCL and CSDA: both released, and so high, while nothing is to go over the bus and while RESET is low
(R181, R190). -/
def busLevels (s : State) : Bool × Bool :=
  match s.pins.resetLow, s.stl.bus with
  | false, b :: _ => b.levels.getD s.stl.busAt (true, true)
  | _, _ => (true, true)

/-- CSCL is released by STL, and so high unless the memory holds it low (R181). -/
def csclReleased (s : State) : Bool := (busLevels s).1

/-- CSDA is released by STL, and so high unless the memory holds it low (R181). -/
def csdaReleased (s : State) : Bool := (busLevels s).2

/-- The level of SETPT, high for true (R89). -/
def setptLevel (s : State) : Bool :=
  match s.dtu.setpt with
  | .sending _ (b :: _) _ => b
  | _ => true

/-- FAULT (R185). -/
def faultOut (s : State) : Bool :=
  s.pins.resetLow || s.frh.lineState == .offline || s.frh.lineState == .listenOnly ||
    (hasRole s .well && s.dtu.duty == .fault)

/-- ATTN (R173). -/
def attn (s : State) : Bool := s.evu.queue.any fun e => decide (s.settings.attentionThreshold ≤ e.level)

/-- DOSE0 and DOSE1 (R177). -/
def doseLevel (s : State) : DoseOutput → Bool
  | .dose0 => s.evu.dose0 != .stopped
  | .dose1 => s.evu.dose1 != .stopped

/-- PDO is driven while PCS is low and the device is not held in reset (R186, R190). -/
def pdoDriven (s : State) : Bool := s.pins.pcsLow && !s.pins.resetLow

/-- The trip cause of a TURBINE station: 0 in NORMAL (R147). -/
def tripCauseCode (s : State) : Nat :=
  match s.srg.trip with
  | .normal => 0
  | .tripped c => c.code

/-- The flags octet of STATUS; bits of roles the station does not hold are 0 (R195). -/
def statusFlags (s : State) : Nat :=
  flagBit (faultOut s) 0 + flagBit (attn s) 1 +
  flagBit (hasRole s .well && s.dtu.runReq) 2 + flagBit (hasRole s .well && s.dtu.runAck) 3 +
  flagBit (hasRole s .well && tripInForce s) 4 + flagBit (hasRole s .turbine && s.srg.tripIn) 5

end Sys2Proof.Machine
end

