-- ==== Sys2Proof/Machine/Ops.lean ====
section
/-! DEFINITION. The operations that several blocks share: the quantity table, the outbox and the selection, the recall test, a
change of C_own, and the routing of a firing by the event unit. -/

namespace Sys2Proof.Machine

/-! ### The quantity table (R63, R66) -/

/-- The entry of quantity `q`. -/
def quantityOf (s : State) (q : Nat) : Quantity := slotGet s.msu.quantities q Quantity.empty

/-- Puts an entry into the quantity table. -/
def setQuantity (q : Nat) (e : Quantity) (s : State) : State :=
  { s with msu := { s.msu with quantities := slotSet s.msu.quantities q e } }

/-- A computed write by the owner (R66). A computed entry has no held count. -/
def writeQuantity (q : Nat) (validity : Validity) (value : Int) (s : State) : State :=
  setQuantity q { validity := validity, value := value, heldCount := 0 } s

/-- The owner holds the output: the entry is marked HELD and its value stands (R66). -/
def holdQuantity (q : Nat) (s : State) : State := writeQuantity q .held (quantityOf s q).value s

/-- The value of a quantity while it is VALID or HELD (R38, R142, R160). -/
def usableValue (s : State) (q : Nat) : Option Int :=
  match (quantityOf s q).validity with
  | .invalid => none
  | _ => some (quantityOf s q).value

/-! ### The outbox (R31 to R36) -/

/-- A new entry that replaces what the slot holds, taking over its attempt count and no sequence number (R31). -/
def replacing (old : Option Entry) (p : Payload) : Entry where
  payload := p
  count := (old.map (·.count)).getD 0
  seq := none

/-- The first entry in the selection order (R34). -/
def firstEntry (o : Outbox) : Option Entry :=
  match o.trip, o.clear, o.replies, o.restAsk, o.demand, o.stateReport with
  | some e, _, _, _, _, _ => some e
  | none, some e, _, _, _, _ => some e
  | none, none, e :: _, _, _, _ => some e
  | none, none, [], some e, _, _ => some e
  | none, none, [], none, some e, _ => some e
  | none, none, [], none, none, e => e

/-- The outbox after its first entry has left it (R34). -/
def withoutFirst (o : Outbox) : Outbox :=
  match o.trip, o.clear, o.replies, o.restAsk, o.demand with
  | some _, _, _, _, _ => { o with trip := none }
  | none, some _, _, _, _ => { o with clear := none }
  | none, none, _ :: es, _, _ => { o with replies := es }
  | none, none, [], some _, _ => { o with restAsk := none }
  | none, none, [], none, some _ => { o with demand := none }
  | none, none, [], none, none => { o with stateReport := none }

/-- The line states in which entries are kept (R31). -/
def keepsEntries (s : State) : Bool := s.frh.lineState == .joining || s.frh.lineState == .active

/-- FRH's selection (R34): in ACTIVE a transmit side that holds no frame is handed the first entry, and one in WAITING keeps the
first entry; the attempt count of that entry sets the gap it waits for (R7). An attempt under way is not touched. -/
def select (s : State) : State :=
  if s.frh.lineState = .active then
    match s.lif.tx with
    | .sending _ _ _ => s
    | _ =>
      match firstEntry s.frh.outbox with
      | some e => { s with lif := { s.lif with tx := .waiting (requiredGap s e.count) } }
      | none => { s with lif := { s.lif with tx := .none } }
  else s

/-- Replaces the outbox. -/
def setOutbox (o : Outbox) (s : State) : State := { s with frh := { s.frh with outbox := o } }

/-- The mark of R32: a CLEAR in flight when a TRIP is entered will not return to its slot. -/
def doomClear (f : Option InFlight) : Option InFlight :=
  f.map fun i => if i.entry.payload.kind = .clear then { i with doomed := true } else i

/-- An entry of TRIP is kept: it replaces the slot's entry, discards a waiting CLEAR and marks a CLEAR in flight (R31, R32). -/
def placeTrip (cause : TripCause) (s : State) : State :=
  let o := s.frh.outbox
  { s with frh :=
      { s.frh with
        outbox := { o with trip := some (replacing o.trip (.trip cause)), clear := none }
        inFlight := doomClear s.frh.inFlight } }

/-- A TRIP is entered (R31, R32). -/
def enterTripFrame (cause : TripCause) (s : State) : State :=
  if keepsEntries s then select (placeTrip cause s) else s

/-- A CLEAR is entered; a waiting TRIP stays (R31, R32). -/
def enterClearFrame (s : State) : State :=
  let o := s.frh.outbox
  if keepsEntries s then select (setOutbox { o with clear := some (replacing o.clear .clear) } s) else s

/-- A DEMAND is entered; the demand of a kept entry is the last published one (R31, R39). -/
def enterDemandFrame (demand cause : Nat) (s : State) : State :=
  let o := s.frh.outbox
  if keepsEntries s then
    select { s with frh :=
      { s.frh with
        outbox := { o with demand := some (replacing o.demand (.demand demand cause)) }
        lastDemand := some demand } }
  else s

/-- The payload of a STATE taken now: duty, C_own, F from Q1 and S from Q2 (R38). -/
def statePayload (s : State) : Payload :=
  .stateReport s.dtu.duty (cOwn s) ((usableValue s 1).map Int.toNat) ((usableValue s 2).map Int.toNat)

/-- A STATE is entered; the C of a kept entry is the last published C (R31, R38). -/
def enterStateFrame (s : State) : State :=
  let o := s.frh.outbox
  if keepsEntries s then
    select { s with frh :=
      { s.frh with
        outbox := { o with stateReport := some (replacing o.stateReport (statePayload s)) }
        lastC := some (cOwn s) } }
  else s

/-- The distance of two numbers. -/
def distance (a b : Nat) : Nat := (a - b) + (b - a)

/-- The publish-step test against a last published value; it passes while that value is absent (R38, R39). -/
def publishDue (now : Nat) (last : Option Nat) (step : Nat) : Bool :=
  match last with
  | none => true
  | some p => decide (step ≤ distance now p)

/-! ### Recall (R104) -/

/-- The six recall conditions (R104). -/
def recallConditions (s : State) : Bool :=
  s.frh.lineState == .active && !s.dtu.tripSet.toList.any (·.isSome) && !s.dtu.pendingTrip.isSome &&
    decide (s.settings.fMin ≤ cOwn s) && decide (peerCapacity s < fieldDemand s) && !peerStarting s

/-- Sets the recall timer. -/
def setRecallTimer (t : Timer) (s : State) : State := { s with dtu := { s.dtu with recallTimer := t } }

/-- The duty machine tests the recall conditions: in RESTING the timer runs while all six hold and stands stopped otherwise
(R104). -/
def testRecall (s : State) : State :=
  if hasRole s .well && s.dtu.duty == .resting then
    setRecallTimer (if recallConditions s then .running (1000 * recallTime s) else .stopped) s
  else s

/-! ### Capacity (R78 to R81) -/

/-- In ON, ASKING and REFUSED a target above max(C_own, F_min) comes down to it (R81). -/
def lowerTarget (s : State) : State :=
  if s.dtu.duty.runs then { s with dtu := { s.dtu with target := min s.dtu.target (capacityCeiling s) } } else s

/-- What a change of C_own does at its moment (R81): Q5, the STATE entry of R38, the target of law 3, the recall test. -/
def capacityChanged (s : State) : State :=
  let s := writeQuantity 5 .valid (cOwn s) s
  let s := if publishDue (cOwn s) s.frh.lastC s.settings.capacityStep then enterStateFrame s else s
  testRecall (lowerTarget s)

/-- Sets the derate total and the quiet count. -/
def setDerate (total quiet : Nat) (s : State) : State :=
  { s with dtu := { s.dtu with derateTotal := total, quietCount := quiet } }

/-- The derate total moves to `total`; only a change of it is a change of C_own (R81). -/
def moveDerate (total quiet : Nat) (s : State) : State :=
  let t := setDerate total quiet s
  if total = s.dtu.derateTotal then t else capacityChanged t

/-- A derate step reaches the duty unit (R79). -/
def derateStep (s : State) : State :=
  moveDerate (min s.settings.cRated (s.dtu.derateTotal + s.settings.derateStep)) 0 s

/-! ### The event unit (R165 to R178) -/

/-- One firing of an event source. -/
structure Firing where
  source : Nat
  subject : Option Nat
  detail : Option Nat
  deriving DecidableEq, Repr

/-- The level of a source (R165). -/
def levelOf (s : State) (source : Nat) : Nat :=
  if source = 3 ∨ source = 23 then 7 else s.settings.levels.getD (source - 1) 0

/-- The queue entry waits with the source and subject of the firing (R166, R167). -/
def sameKey (f : Firing) (e : QueueEntry) : Bool := e.source == f.source && e.subject == f.subject

/-- A firing is folded into an entry (R168, R172). -/
def coalesce (f : Firing) (e : QueueEntry) : QueueEntry :=
  { e with
    repeatCount := min 255 (e.repeatCount + 1)
    detail := f.detail
    delivery := e.delivery.map fun late => min 255 (late + 1) }

/-- Replaces the queue. -/
def setQueue (q : List QueueEntry) (s : State) : State := { s with evu := { s.evu with queue := q } }

/-- One more displaced or dropped firing (R169). -/
def countDropped (s : State) : State :=
  { s with evu := { s.evu with dropped := min 255 (s.evu.dropped + 1) } }

/-- The lowest level in a queue (R169); an empty queue has none, and is never asked. -/
def lowestLevel : List QueueEntry → Nat
  | [] => 7
  | e :: es => es.foldl (fun low x => min low x.level) e.level

/-- The new entry of a firing (R169). -/
def newEntry (f : Firing) (level stamp : Nat) : QueueEntry where
  source := f.source
  level := level
  subject := f.subject
  detail := f.detail
  repeatCount := 1
  stamp := stamp
  delivery := none

/-- Step 4 of R166: a new entry joins, a full queue gives up its oldest entry of the lowest level if that is below the new
one, and the firing is dropped otherwise (R169). -/
def append (f : Firing) (s : State) : State :=
  let q := s.evu.queue
  let e := newEntry f (levelOf s f.source) s.evu.refreshCount
  if q.length < 32 then setQueue (q ++ [e]) s
  else if lowestLevel q < e.level then
    countDropped (setQueue (q.eraseP (fun x => x.level == lowestLevel q) ++ [e]) s)
  else countDropped s

/-- Steps 2 to 4 of R166. -/
def enqueue (f : Firing) (s : State) : State :=
  if levelOf s f.source = 0 then s
  else if s.evu.queue.any (sameKey f) then
    setQueue (s.evu.queue.map fun e => if sameKey f e then coalesce f e else e) s
  else append f s

/-- The channel is bound to the firing's source and its filter matches (R175). -/
def channelTakes (f : Firing) (c : Channel) : Bool :=
  c.source == some f.source && (c.filter == none || (c.filter == f.subject))

/-- The lowest-numbered channel that takes the firing (R166, R175). -/
def takingChannel (f : Firing) (s : State) : Option Nat :=
  (List.range 4).find? fun n => channelTakes f (slotGet s.evu.channels n Channel.unbound)

/-- Puts a binding into a channel. -/
def setChannel (n : Nat) (c : Channel) (s : State) : State :=
  { s with evu := { s.evu with channels := slotSet s.evu.channels n c } }

/-- A dose pulse starts or starts again from 0 (R177). -/
def startPulse (d : DoseOutput) (s : State) : State :=
  match d with
  | .dose0 => { s with evu := { s.evu with dose0 := .running (100 * s.settings.doseWidth0) } }
  | .dose1 => { s with evu := { s.evu with dose1 := .running (100 * s.settings.doseWidth1) } }

/-- The action of a channel's mode (R176, R177, R178). -/
def channelAction (m : Mode) (s : State) : State :=
  match m with
  | .pulse0 => startPulse .dose0 s
  | .pulse1 => startPulse .dose1 s
  | .derate => derateStep s
  | .count => s

/-- Channel `n` acts on a firing it has taken: its mode's action, one count less, and at count 0 it unbinds itself and offers
ACTION_DONE_n, which no channel can take (R176). -/
def channelActs (n : Nat) (f : Firing) (s : State) : State :=
  let c := slotGet s.evu.channels n Channel.unbound
  let s := channelAction c.mode s
  if c.count ≤ 1 then
    enqueue { source := 33 + n, subject := some f.source, detail := some c.mode.code }
      (setChannel n { c with source := none, count := 0 } s)
  else setChannel n { c with count := c.count - 1 } s

/-- EVU routes one firing whole (R166): a channel takes it, or it goes on to the queue. -/
def offer (f : Firing) (s : State) : State :=
  match takingChannel f s with
  | some n => channelActs n f s
  | none => enqueue f s

/-- A firing with a subject and a detail. -/
def fire (source subject detail : Nat) : Firing := { source := source, subject := some subject, detail := some detail }

/-- A firing with a detail and no subject. -/
def fireDetail (source detail : Nat) : Firing := { source := source, subject := none, detail := some detail }

/-- Routes firings one after the other, in order. -/
def offerAll (fs : List Firing) (s : State) : State := fs.foldl (fun s f => offer f s) s

/-! ### REST-REPLY entries (R33) -/

/-- The addressee of a REST-REPLY entry. -/
def addresseeOf (e : Entry) : Option Nat :=
  match e.payload with
  | .restReply a _ _ => some a
  | _ => none

/-- SEND_DROPPED for a REST-REPLY pushed out of its full slot (R33). -/
def replyDropped (e : Entry) : Firing := fire 2 4 ((addresseeOf e).getD 0)

/-- A reply joins the slot (R33): in the place of an entry to the same addressee, or as the newest, pushing out the oldest of
four. The answer is the new slot and the entry pushed out. -/
def joinReplies (es : List Entry) (a : Nat) (p : Payload) : List Entry × Option Entry :=
  if es.any (fun e => addresseeOf e == some a) then
    (es.map fun e => if addresseeOf e == some a then replacing (some e) p else e, none)
  else if es.length < 4 then (es ++ [replacing none p], none)
  else (es.tail ++ [replacing none p], es.head?)

/-- A REST-REPLY is entered (R31, R33). -/
def enterReplyFrame (addressee : Nat) (askSeq : Octet) (verdict : Verdict) (s : State) : State :=
  let o := s.frh.outbox
  if keepsEntries s then
    let r := joinReplies o.replies addressee (.restReply addressee askSeq verdict)
    let s := setOutbox { o with replies := r.1 } s
    select (offerAll (r.2.toList.map replyDropped) s)
  else s

end Sys2Proof.Machine
end

