-- ==== Sys2Proof/Machine/Duty.lean ====
section
/-! DEFINITION. The duty unit's shared operations: the setpoint word and the ramp (R88, R89), a change of duty (R102), the trip
set (R90 to R98). -/

namespace Sys2Proof.Machine

/-! ### The setpoint word (R89) -/

/-- Sets what SETPT is doing. -/
def setSetpt (l : SetptLine) (s : State) : State := { s with dtu := { s.dtu with setpt := l } }

/-- A word begins, with its values as they stand now (R89, R192). -/
def startWord (s : State) : State :=
  let octets := setpointOctets s.dtu.setpoint s.dtu.duty s.dtu.runReq
  setSetpt (.sending octets (octets.flatMap serialBits) false) s

/-- A word falls due (R89): it begins, or it waits behind the one being sent; at most one waits. None is sent in OFFLINE or in
another role. -/
def sendWord (s : State) : State :=
  if hasRole s .well && s.frh.lineState != .offline then
    match s.dtu.setpt with
    | .idle => startWord s
    | .sending octets bits _ => setSetpt (.sending octets bits true) s
  else s

/-! ### Target and setpoint (R84 to R88) -/

/-- Sets target and setpoint. -/
def setFlows (target setpoint : Nat) (s : State) : State :=
  { s with dtu := { s.dtu with target := target, setpoint := setpoint } }

/-- One move of the setpoint toward the target, never past it (R88). -/
def ramp (setpoint target up down : Nat) : Nat :=
  if setpoint < target then min (setpoint + up) target else max (setpoint - down) target

/-- One move of the setpoint by the settings: the trip ramp while a trip is in force (R88). -/
def rampedSetpoint (s : State) : Nat :=
  ramp s.dtu.setpoint s.dtu.target s.settings.rampUp
    (if tripInForce s then s.settings.tripRamp else s.settings.rampDown)

/-- A trip step (R92): in ON, ASKING and REFUSED the target is limited to the trip flow, the setpoint moves once toward it and a
word is sent. DESIGN CHOICE (log 41): in the other duties no word is sent. R89 has a word at each trip step, and R92 lists it for
the running duties alone. -/
def tripStep (s : State) : State :=
  if s.dtu.duty.runs then
    let s := setFlows (min s.dtu.target s.settings.tripFlow) s.dtu.setpoint s
    sendWord (setFlows s.dtu.target (rampedSetpoint s) s)
  else s

/-! ### The duty (R102) -/

/-- What the entry of a new duty sets: setpoint, target, RUN_REQ and timers (R103, R106, R107, R113, R114). Every change of duty
stops the recall timer (R104). -/
def enterDuty (new : Duty) (s : State) : State :=
  let d := { s.dtu with duty := new, recallTimer := .stopped }
  match new with
  | .resting =>
    { s with dtu :=
      { d with runReq := false, setpoint := 0, target := 0, startTimer := .stopped, warmTimer := .stopped, stopTimer := .stopped } }
  | .starting =>
    { s with dtu :=
      { d with
        runReq := !s.dtu.runAck, setpoint := 0, target := 0, startTimer := .running (1000 * s.settings.startTimeout)
        warmTimer := .stopped, stopTimer := .stopped } }
  | .on =>
    if s.dtu.duty = .starting then
      { s with dtu := { d with warmTimer := .stopped, normalTarget := s.settings.fMin } }
    else { s with dtu := d }
  | .asking => { s with dtu := d }
  | .refused => { s with dtu := d }
  | .stopping => { s with dtu := d }
  | .fault =>
    { s with dtu :=
      { d with runReq := false, setpoint := 0, target := 0, startTimer := .stopped, warmTimer := .stopped, stopTimer := .stopped } }

/-- The firing of a change of duty (R102). -/
def dutyChange (new old : Duty) : Firing := fire 24 new.code old.code

/-- Sets the ask record. -/
def setAsk (a : AskRecord) (s : State) : State := { s with rng := { s.rng with ask := a } }

/-- Sets the hold-off timer. -/
def setHoldOff (t : Timer) (s : State) : State := { s with rng := { s.rng with holdOff := t } }

/-- The rest negotiator is told of a change of duty (R131, R136, R137, R138): leaving ASKING makes the ask record IDLE, entry to
REFUSED starts the hold-off, leaving REFUSED stops it. The ask of an entry to ASKING is made by `enterAsking`. -/
def tellNegotiator (new old : Duty) (s : State) : State :=
  let s := if old = .asking then setAsk .idle s else s
  if new = .refused then setHoldOff (.running (1000 * s.settings.refusedHoldOff)) s
  else if old = .refused then setHoldOff .stopped s else s

/-- A change of duty with its effects in the order of R102: the new duty with its entry, DUTY_CHANGE (and the firing that the
cause of the change adds, log 9), the STATE entry, a setpoint word when the setpoint changed, the negotiator; an entry to
RESTING ends with the recall test (R104). -/
def takeDuty (new : Duty) (cause : List Firing) (s : State) : State :=
  let t := enterDuty new s
  let t := enterStateFrame (offerAll (dutyChange new s.dtu.duty :: cause) t)
  let t := if (enterDuty new s).dtu.setpoint ≠ s.dtu.setpoint then sendWord t else t
  testRecall (tellNegotiator new s.dtu.duty t)

/-- A drive loss (R108, R112): FAULT with PUMP_LOST, whose detail is the duty before the loss. -/
def driveLoss (s : State) : State := takeDuty .fault [fireDetail 23 s.dtu.duty.code] s

/-- The warm-up ends (R107). -/
def warmUpEnds (s : State) : State := takeDuty .on [] s

/-- The acknowledge (R106): the start timer stops, target and setpoint become F_min, a word is sent and the warm-up starts; a
warm-up of 0 ends at once. -/
def acknowledge (s : State) : State :=
  let s := { s with dtu :=
    { s.dtu with startTimer := .stopped, target := s.settings.fMin, setpoint := s.settings.fMin
                 warmTimer := .running (1000 * s.settings.warmUp) } }
  let s := sendWord s
  if s.settings.warmUp = 0 then warmUpEnds s else s

/-! ### The trip set (R90 to R98) -/

/-- Sets the cause held for a station, absent for a station outside the trip set. -/
def setTripEntry (station : Nat) (cause : Option Nat) (s : State) : State :=
  { s with dtu := { s.dtu with tripSet := slotSet s.dtu.tripSet station cause } }

/-- Sets the pending trip. -/
def setPendingTrip (p : Option Nat) (s : State) : State := { s with dtu := { s.dtu with pendingTrip := p } }

/-- What follows a change of the trip set or the pending trip: the trip step when a trip has come into force (R92), then the
recall test (R90, R104). -/
def afterTripChange (before : Bool) (s : State) : State :=
  testRecall (if !before && tripInForce s then tripStep s else s)

/-- A turbine announces a trip by TRIP or by a DEMAND with a cause (R94, R95). -/
def announceTrip (station cause : Nat) (s : State) : State :=
  match slotGet s.dtu.tripSet station none with
  | none =>
    afterTripChange (tripInForce s) (offer (fire 25 station cause) (setTripEntry station (some cause) s))
  | some old =>
    let t := setTripEntry station (some cause) s
    if old = cause then t else offer (fire 25 station cause) t

/-- A station leaves the trip set, with the detail of TRIP_OUT (R96, R97). -/
def removeTrip (station detail : Nat) (s : State) : State :=
  if inTripSet s station then
    testRecall (offer (fire 27 station detail) (setTripEntry station none s))
  else s

/-- An early trip notice (R91): a sender outside the trip set becomes the pending trip. -/
def earlyNotice (station : Nat) (s : State) : State :=
  if inTripSet s station then s
  else afterTripChange (tripInForce s) (setPendingTrip (some station) s)

/-- A closing report of DUPLICATE (detail 1) or FAILED (detail 2) withdraws the pending trip of its sender (R93). -/
def withdrawTrip (station detail : Nat) (s : State) : State :=
  if s.dtu.pendingTrip = some station then
    testRecall (offer (fire 26 station detail) (setPendingTrip none s))
  else s

/-- A TRIP that has entered its sender ends the pending trip its notice made (R93). -/
def completeTrip (station : Nat) (s : State) : State :=
  if s.dtu.pendingTrip = some station then testRecall (setPendingTrip none s) else s

end Sys2Proof.Machine
end

