-- ==== Sys2Proof/Machine/Rest.lean ====
section
/-! DEFINITION. The rest negotiator (07_rest_negotiation.md): the ask record, the reply roll, the replier's evaluation, the grant
list and the hold-off; with REPLY_WINDOW_EXPIRY, GRANT_HOLD_EXPIRY and HOLD_OFF_EXPIRY. -/

namespace Sys2Proof.Machine

/-! ### Outcomes of an ask (R123, R127, R129, R130) -/

/-- The negotiator reports refusal: ASKING becomes REFUSED (R111). -/
def reportRefusal (s : State) : State := if s.dtu.duty = .asking then takeDuty .refused [] s else s

/-- The negotiator reports agreement: ASKING becomes STOPPING (R111). -/
def reportAgreement (s : State) : State := if s.dtu.duty = .asking then takeDuty .stopping [] s else s

/-- The ask is refused (R127, R129, R130): IDLE, REST_REFUSED, then the report. -/
def refuseAsk (subject : Option Nat) (detail : Nat) (s : State) : State :=
  reportRefusal (offer { source := 29, subject := subject, detail := some detail } (setAsk .idle s))

/-- The ask is agreed (R127, R130): IDLE, REST_AGREED with the number of members, then the report. -/
def agreeAsk (members : Nat) (s : State) : State :=
  reportAgreement (offer (fireDetail 28 members) (setAsk .idle s))

/-- The ask is dropped (R123): IDLE, the report of refusal, then REST_REFUSED with detail 6. -/
def dropAsk (s : State) : State := offer (fireDetail 29 6) (reportRefusal (setAsk .idle s))

/-- FRH's dropped report with the frame's number, if it had one (R122). -/
def reportDropped (number : Option Octet) (s : State) : State :=
  match s.rng.ask with
  | .waiting => if number = none then dropAsk s else s
  | .sending seq _ => if number = some seq then dropAsk s else s
  | _ => s

/-- FRH's report of the number placed (R122). -/
def reportNumber (number : Octet) (s : State) : State :=
  match s.rng.ask with
  | .waiting => setAsk (.sending number (Vector.replicate 32 none)) s
  | _ => s

/-- A REST-ASK is entered; a refused entry is reported as dropped (R31, R121). -/
def enterAskFrame (s : State) : State :=
  let o := s.frh.outbox
  if keepsEntries s then select (setOutbox { o with restAsk := some (replacing o.restAsk (.restAsk (cOwn s))) } s)
  else reportDropped none s

/-- The duty changes from ON to ASKING and the negotiator makes its ask (R110, R121). -/
def enterAsking (s : State) : State := enterAskFrame (setAsk .waiting (takeDuty .asking [] s))

/-! ### The reply roll (R124 to R128) -/

/-- The members of a roll in ascending order of station number, each with its verdict. -/
def rollMembers (roll : Vector (Option (Option Verdict)) 32) : List (Nat × Option Verdict) :=
  (List.range 32).filterMap fun n => (slotGet roll n none).map fun v => (n, v)

/-- The member of lowest number that holds a refusal (R124, R127). -/
def firstRefusal (roll : Vector (Option (Option Verdict)) 32) : Option (Nat × Verdict) :=
  (rollMembers roll).findSome? fun m => match m.2 with
    | some .refuseShort => some (m.1, .refuseShort)
    | some .refuseFull => some (m.1, .refuseFull)
    | _ => none

/-- The first member still holding NONE (R129). -/
def firstUnanswered (roll : Vector (Option (Option Verdict)) 32) : Option Nat :=
  ((rollMembers roll).find? fun m => m.2.isNone).map (·.1)

/-- The roll holds a member and every member holds AGREE (R127). -/
def allAgree (roll : Vector (Option (Option Verdict)) 32) : Bool :=
  !(rollMembers roll).isEmpty && (rollMembers roll).all fun m => m.2 == some .agree

/-- The roll test of R127. -/
def testRoll (s : State) : State :=
  match s.rng.ask with
  | .window _ roll _ =>
    match firstRefusal roll with
    | some r => refuseAsk (some r.1) r.2.code s
    | none => if allAgree roll then agreeAsk (rollMembers roll).length s else s
  | _ => s

/-- The asker's own evaluation (R130). -/
def ownEvaluation (s : State) : State :=
  if fieldDemand s + s.settings.reserve ≤ peerCapacity s then agreeAsk 0 s else refuseAsk none 5 s

/-- A fixed or shortened roll is decided: an empty roll by the own evaluation, another by the roll test (R124, R128). -/
def decideRoll (s : State) : State :=
  match s.rng.ask with
  | .window _ roll _ => if (rollMembers roll).isEmpty then ownEvaluation s else testRoll s
  | _ => s

/-- The roll fixed at the SENT report: every WELL row that is FRESH and counted, with the early verdict held for it (R124). -/
def fixedRoll (s : State) (early : Vector (Option Verdict) 32) : Vector (Option (Option Verdict)) 32 :=
  slotMap (fun n r => if r.condition == .fresh && counted r then some (slotGet early n none) else none) s.pvw.rows

/-- FRH's SENT report (R122, R124). -/
def reportSent (number : Octet) (s : State) : State :=
  match s.rng.ask with
  | .sending seq early =>
    if number = seq then
      decideRoll (setAsk (.window seq (fixedRoll s early) (.running s.settings.replyWindow)) s)
    else s
  | _ => s

/-- An accepted REST-REPLY (R125, R126): an early verdict in SENDING, a member's verdict and the roll test in WINDOW. -/
def takeReply (sender addressee : Nat) (askSeq : Octet) (verdict : Option Verdict) (s : State) : State :=
  match verdict with
  | none => s
  | some v =>
    if addressee = ownNumber s then
      match s.rng.ask with
      | .sending seq early =>
        if askSeq = seq then setAsk (.sending seq (slotSet early sender (some v))) s else s
      | .window seq roll timer =>
        if askSeq = seq ∧ (slotGet roll sender none).isSome then
          testRoll (setAsk (.window seq (slotSet roll sender (some (some v))) timer) s)
        else s
      | _ => s
    else s

/-- A roll member whose row moves to STALE or LOST is struck off (R128). -/
def strikeOff (station : Nat) (s : State) : State :=
  match s.rng.ask with
  | .window seq roll timer =>
    if (slotGet roll station none).isSome then
      decideRoll (setAsk (.window seq (slotSet roll station none) timer) s)
    else s
  | _ => s

/-! ### Grants and replies (R132 to R135) -/

/-- Sets the grant list. -/
def setGrants (g : List Grant) (s : State) : State := { s with rng := { s.rng with grants := g } }

/-- Removes the grant entry held for an asker (R132, R135). -/
def removeGrant (asker : Nat) (s : State) : State :=
  setGrants (s.rng.grants.filter fun g => g.asker != asker) s

/-- The station is a replier (R132). -/
def isReplier (s : State) : Bool := s.frh.lineState == .active && s.dtu.duty.runs

/-- The own part of the evaluation (R133). -/
def ownPart (s : State) : Nat := if s.dtu.duty = .asking then 0 else cOwn s

/-- The asker part of the evaluation: the asker's row capacity when the row is counted (R54, R133). -/
def askerPart (s : State) (asker : Nat) : Nat :=
  if counted (rowOf s asker) then rowCapacity (rowOf s asker) else 0

/-- The capacity that would remain without the asker; it may be negative (R133). -/
def remainingCapacity (s : State) (asker : Nat) : Int :=
  (ownPart s : Int) + peerCapacity s - askerPart s asker - ((s.rng.grants.map (·.capacity)).sum : Nat)

/-- The verdict of R133. -/
def verdictFor (s : State) (asker : Nat) : Verdict :=
  if 4 ≤ s.rng.grants.length then .refuseFull
  else if ((fieldDemand s + s.settings.reserve : Nat) : Int) ≤ remainingCapacity s asker then .agree
  else .refuseShort

/-- The grant entry an AGREE makes (R134). -/
def newGrant (s : State) (asker : Nat) : Grant where
  asker := asker
  capacity := askerPart s asker
  hold := .running (1000 * s.settings.grantHold)

/-- An accepted REST-ASK (R132, R133): an earlier grant of the asker goes; a replier evaluates the ask, makes the grant of an
AGREE and enters its reply. -/
def takeAsk (asker : Nat) (askSeq : Octet) (s : State) : State :=
  let s := removeGrant asker s
  if isReplier s then
    let v := verdictFor s asker
    let s := if v = .agree then setGrants (s.rng.grants ++ [newGrant s asker]) s else s
    enterReplyFrame asker askSeq v s
  else s

/-- A state notice (R46, R135): a duty other than ASKING, an absent one included, ends the sender's grant entry. -/
def stateNotice (station : Nat) (duty : Option Duty) (s : State) : State :=
  if duty = some .asking then s else removeGrant station s

/-- A condition notice (R46, R128, R135): STALE and LOST strike the station off the roll; LOST also ends its grant entry. -/
def conditionNotice (station : Nat) (condition : Condition) (s : State) : State :=
  let s := if condition = .lost then removeGrant station s else s
  strikeOff station s

/-! ### The hold-off (R136, R137) -/

/-- The hold-off ends: the timer stops and REFUSED becomes ON (R136, R137). -/
def endHoldOff (s : State) : State :=
  let s := setHoldOff .stopped s
  if s.dtu.duty = .refused then takeDuty .on [] s else s

/-- A risen-to-ON notice (R137) ends a running hold-off in REFUSED. -/
def risenToOn (s : State) : State :=
  if s.dtu.duty = .refused ∧ s.rng.holdOff ≠ .stopped then endHoldOff s else s

/-! ### The commands of this chapter -/

/-- REPLY_WINDOW_EXPIRY (R129): the ask in the window is refused for its first member still at NONE. -/
def replyWindowEnds (s : State) : State :=
  match s.rng.ask with
  | .window _ roll _ =>
    match firstUnanswered roll with
    | some n => refuseAsk (some n) 4 s
    | none => s
  | _ => s

/-- REPLY_WINDOW_EXPIRY. -/
def execReplyWindowExpiry (s : State) : Host.Outcome State Fault Refusal :=
  .next (if works s then replyWindowEnds s else s)

/-- GRANT_HOLD_EXPIRY (R135): the entry for `asker` is removed. -/
def execGrantHoldExpiry (asker : Nat) (s : State) : Host.Outcome State Fault Refusal :=
  .next (if works s then removeGrant asker s else s)

/-- HOLD_OFF_EXPIRY (R136). -/
def execHoldOffExpiry (s : State) : Host.Outcome State Fault Refusal :=
  .next (if works s && s.rng.holdOff != .stopped then endHoldOff s else s)

end Sys2Proof.Machine
end

