-- ==== Sys2Proof/Machine/PeerView.lean ====
section
/-! DEFINITION. The peer view (03_the_peer_view.md): what an accepted frame writes, the notices, ageing and the view clear. -/

namespace Sys2Proof.Machine

/-- Puts a row into the view. -/
def setRow (station : Nat) (r : PeerRow) (s : State) : State :=
  { s with pvw := { s.pvw with rows := slotSet s.pvw.rows station r } }

/-- A view-change notice (R47): in a WELL station the duty machine tests its recall conditions. -/
def viewChanged (s : State) : State := testRecall s

/-- A condition notice to the negotiator (R46) and the view-change notice of the same move (R47); none in other roles. -/
def conditionMoved (station : Nat) (condition : Condition) (s : State) : State :=
  if hasRole s .well then viewChanged (conditionNotice station condition s) else s

/-! ### Arrival (R41, R42) -/

/-- The role check of R41: a row that holds a role takes frames of that role alone. -/
def roleAgrees (r : PeerRow) (role : Role) : Bool :=
  match r.role with
  | none => true
  | some known => known == role

/-- The row holds the frame's sequence number (R25). -/
def isDuplicate (r : PeerRow) (seq : Octet) : Bool := r.lastSeq == some seq

/-- A frame refreshes its row: age 0, FRESH, and the role fixed by the first frame (R41, R42). -/
def refreshed (r : PeerRow) (role : Role) : PeerRow :=
  { r with condition := .fresh, age := 0, role := some (r.role.getD role) }

/-- The refresh of a row, with PEER_BACK for one that was LOST (R42). -/
def refreshRow (station : Nat) (role : Role) (kind : FrameKind) (s : State) : State :=
  let r := rowOf s station
  let t := setRow station (refreshed r role) s
  if r.condition = .lost then offer (fire 7 station kind.code) t else t

/-- Writes the accepted sequence number (R42). -/
def acceptSeq (station : Nat) (seq : Octet) (s : State) : State :=
  setRow station { rowOf s station with lastSeq := some seq } s

/-! ### What an accepted frame writes (R43 to R45) -/

/-- The silica field of a STATE: above 2000 it is not valid (R43). -/
def silicaField (lo hi : Octet) : Option Nat :=
  match field16 lo hi with
  | some v => if v ≤ 2000 then some v else none
  | none => none

/-- The silica field draws FRAME_MALFORMED with reason 12 (R43). -/
def silicaMalformed (lo hi : Octet) : Bool := decide (2000 < number16 lo hi ∧ number16 lo hi < 65535)

/-- The well part a STATE payload writes (R43). -/
def wellPartOf (p : List Octet) : WellPart where
  duty := dutyOfCode (p.getD 0 0).toNat
  capacity := field16 (p.getD 1 0) (p.getD 2 0)
  flow := field16 (p.getD 3 0) (p.getD 4 0)
  silica := silicaField (p.getD 5 0) (p.getD 6 0)

/-- The FRAME_MALFORMED firings of a STATE payload: reason 11 for a duty code of 7 or more, reason 12 for a silica above 2000
(R43). DESIGN CHOICE (log 40): where one payload draws both, reason 11 is offered first. -/
def statePayloadFirings (p : List Octet) : List Firing :=
  (if (dutyOfCode (p.getD 0 0).toNat).isNone then [fireDetail 1 11] else []) ++
  (if silicaMalformed (p.getD 5 0) (p.getD 6 0) then [fireDetail 1 12] else [])

/-- The duty a row holds, absent without a well part. -/
def rowDuty (r : PeerRow) : Option Duty := r.well.bind (·.duty)

/-- A STATE that writes ON over RESTING, STARTING, STOPPING, FAULT or absent gives the risen-to-ON notice (R47). -/
def risesToOn (old new : Option Duty) : Bool :=
  new == some .on &&
    match old with
    | none => true
    | some d => !d.runs

/-- An accepted STATE (R43, R46, R47): the well part, its events, and in a WELL station the state notice, the view-change notice
and the risen-to-ON notice, whose firings come after those events (DESIGN CHOICE, log 39). -/
def acceptState (station : Nat) (p : List Octet) (s : State) : State :=
  let r := rowOf s station
  let w := wellPartOf p
  let s := offerAll (statePayloadFirings p) (setRow station { r with well := some w } s)
  if hasRole s .well then
    let s := viewChanged (stateNotice station w.duty s)
    if risesToOn (rowDuty r) w.duty then risenToOn s else s
  else s

/-- An accepted DEMAND writes the demand part (R44). -/
def acceptDemand (station : Nat) (p : List Octet) (s : State) : State :=
  let part : DemandPart := { demand := field16 (p.getD 0 0) (p.getD 1 0), cause := (p.getD 2 0).toNat }
  let s := setRow station { rowOf s station with demand := some part } s
  if hasRole s .well then viewChanged s else s

/-- An accepted REST-ASK writes the capacity of the well part (R45). -/
def acceptAsk (station : Nat) (p : List Octet) (s : State) : State :=
  let r := rowOf s station
  let c := field16 (p.getD 0 0) (p.getD 1 0)
  let w : WellPart := match r.well with
    | some w => { w with capacity := c }
    | none => { duty := none, capacity := c, flow := none, silica := none }
  let s := setRow station { r with well := some w } s
  if hasRole s .well then viewChanged s else s

/-- What the peer view writes from an accepted frame of a kind; REST-REPLY, TRIP and CLEAR write nothing beyond the refresh,
which may still have moved the condition (R45, R47). -/
def acceptPayload (kind : FrameKind) (station : Nat) (p : List Octet) (s : State) : State :=
  match kind with
  | .stateReport => acceptState station p s
  | .demand => acceptDemand station p s
  | .restAsk => acceptAsk station p s
  | .restReply => if hasRole s .well then viewChanged s else s
  | .trip => if hasRole s .well then viewChanged s else s
  | .clear => if hasRole s .well then viewChanged s else s

/-! ### Ageing (R48, R49) -/

/-- The age of a row that is still FRESH or STALE grows, saturating at 63 (R48). -/
def olderRow (r : PeerRow) : PeerRow := { r with age := min 63 (r.age + 1) }

/-- The row after it has gone LOST: role and age stay (R49). -/
def lostRow (r : PeerRow) : PeerRow := { r with condition := .lost, well := none, demand := none, lastSeq := none }

/-- The role code of a row, for the detail of PEER_STALE and PEER_LOST. -/
def rowRoleCode (r : PeerRow) : Nat := (r.role.map Role.code).getD 0

/-- The firings of a row that goes LOST: PEER_LOST, and DEMAND_LOST for a TURBINE or EXCHANGE row (R49). -/
def lostFirings (station : Nat) (r : PeerRow) : List Firing :=
  fire 6 station (rowRoleCode r) ::
  (if r.role = some .turbine ∨ r.role = some .exchange then
    [fire 8 station ((r.demand.bind (·.demand)).getD 65535)] else [])

/-- One row at a refresh tick (R48, R49). The firings that the condition notice brings come after PEER_STALE (DESIGN CHOICE,
log 39), and after the events of a row that goes LOST (R49). -/
def ageRow (s : State) (station : Nat) : State :=
  let r := rowOf s station
  match r.condition with
  | .fresh =>
    if s.settings.staleLimit ≤ r.age then
      conditionMoved station .stale
        (offer (fire 5 station (rowRoleCode r)) (setRow station (olderRow { r with condition := .stale }) s))
    else setRow station (olderRow r) s
  | .stale =>
    if s.settings.lostLimit ≤ r.age then
      conditionMoved station .lost (offerAll (lostFirings station r) (setRow station (lostRow r) s))
    else setRow station (olderRow r) s
  | _ => s

/-- Every row at a refresh tick, station 0 first (R48, log 7). -/
def ageView (s : State) : State := (List.range 32).foldl ageRow s

/-- The view clear of R50: every row as after a hard reset, but in a WELL station a row of the trip set keeps role TURBINE. -/
def clearView (s : State) : State :=
  let rows := slotMap (fun n (_ : PeerRow) =>
    if hasRole s .well && inTripSet s n then { PeerRow.empty with role := some .turbine } else PeerRow.empty) s.pvw.rows
  let s := { s with pvw := { s.pvw with rows := rows } }
  if hasRole s .well then viewChanged s else s

/-! ### REFRESH_TICK -/

/-- The refresh count advances, wrapping from 65535 to 0 (R167). -/
def advanceRefreshCount (s : State) : State :=
  { s with evu := { s.evu with refreshCount := (s.evu.refreshCount + 1) % 65536 } }

/-- The demand and cause a TURBINE or EXCHANGE station publishes now (R39, R151). -/
def presentDemand (s : State) : Nat × Nat :=
  match roleOf s with
  | some .turbine => (match s.srg.trip with
    | .normal => s.srg.demand
    | .tripped _ => 0, tripCauseCode s)
  | _ => (if s.xcp.isolated then 0 else s.xcp.demand, 0)

/-- A DEMAND entry of the station's present demand and trip cause (R39, R151, R163). -/
def publishDemand (s : State) : State := enterDemandFrame (presentDemand s).1 (presentDemand s).2 s

/-- The periodic entry of a refresh tick: STATE in a WELL station, DEMAND in the others (R38, R39). -/
def periodicEntry (s : State) : State :=
  match roleOf s with
  | some .well => enterStateFrame s
  | some _ => publishDemand s
  | none => s

/-- REFRESH_TICK (R48, R167, R38, R39): the view is aged, the refresh count advances and the periodic entry is made (log 7). -/
def execRefreshTick (s : State) : Host.Outcome State Fault Refusal :=
  .next (if works s then periodicEntry (advanceRefreshCount (ageView s)) else s)

end Sys2Proof.Machine
end

