-- ==== Sys2Proof/Machine/Send.lean ====
section
/-! DEFINITION. The sending side of FRH and LIF: changes of line state, attempts and their outcomes (01_field_line_signalling.md,
02_frames_and_the_outbox.md), with JOIN_EXPIRY, QUIET_GAP_EXPIRY, ATTEMPT_SENT, ATTEMPT_FAILED and CUT_ATTEMPT_END. -/

namespace Sys2Proof.Machine

/-- Sets the transmit side. -/
def setTx (t : TxSide) (s : State) : State := { s with lif := { s.lif with tx := t } }

/-- Sets the in-flight frame. -/
def setInFlight (f : Option InFlight) (s : State) : State := { s with frh := { s.frh with inFlight := f } }

/-! ### Line state (R12, R29, R30) -/

/-- The transmit side when the line state leaves ACTIVE (R12): a held frame is dropped, an attempt is cut after its cell. -/
def cutTx : TxSide → TxSide
  | .none => .none
  | .waiting _ => .none
  | .sending wave _ failed => .sending (cutWave wave) true failed

/-- The numbers of the REST-ASK frames that emptying the outbox removes, the one in flight first (R30, R37, log 20). -/
def removedAsks (s : State) : List (Option Octet) :=
  (match s.frh.inFlight with
    | some f => if f.entry.payload.kind = .restAsk then [f.entry.seq] else []
    | none => []) ++ (s.frh.outbox.restAsk.toList.map (·.seq))

/-- The outbox emptied on an entry to JOINING, OFFLINE or LISTEN_ONLY, with the last published values (R12, R30). -/
def emptied (l : LineState) (t : Timer) (s : State) : State :=
  { s with
    frh := { s.frh with
      lineState := l, joinTimer := t, outbox := Outbox.empty, inFlight := none, lastC := none, lastDemand := none }
    lif := { s.lif with tx := cutTx s.lif.tx } }

/-- An entry to JOINING or LISTEN_ONLY: the outbox is emptied, removed REST-ASK frames are reported as dropped, and the duty
machine tests its recall conditions (R29, R30, R104). -/
def leaveActive (l : LineState) (t : Timer) (s : State) : State :=
  testRecall ((removedAsks s).foldl (fun s q => reportDropped q s) (emptied l t s))

/-- Entry to JOINING; the join timer starts at 0 (R30, R184). -/
def enterJoining (s : State) : State := leaveActive .joining (.running (joinPeriod s)) s

/-- Entry to LISTEN_ONLY; the join timer stops (R30, R184). -/
def enterListenOnly (s : State) : State := leaveActive .listenOnly .stopped s

/-- Entry to ACTIVE empties nothing and makes a selection (R29, R30, R34). -/
def enterActive (s : State) : State :=
  testRecall (select { s with frh := { s.frh with lineState := .active, joinTimer := .stopped } })

/-- JOIN_EXPIRY (R29, R184). -/
def execJoinExpiry (s : State) : Host.Outcome State Fault Refusal :=
  .next (if works s && s.frh.lineState == .joining then enterActive s else s)

/-! ### The beginning of an attempt (R6, R7, R24, R34, R37) -/

/-- The first entry's attempt begins: it takes the next number if it has none, leaves its slot and becomes the in-flight frame,
and its half-cells stand ready. A REST-ASK that takes a number is reported to the negotiator. -/
def beginAttempt (s : State) : State :=
  match firstEntry s.frh.outbox with
  | none => s
  | some e =>
    let seq := e.seq.getD s.frh.nextSeq
    let s := { s with
      frh := { s.frh with
        outbox := withoutFirst s.frh.outbox
        inFlight := some { entry := { e with seq := some seq }, doomed := false }
        nextSeq := if e.seq.isNone then s.frh.nextSeq + 1 else s.frh.nextSeq }
      lif := { s.lif with
        tx := .sending (attemptWave e.payload.kind (frameOctets (ownNumber s) s.stl.roleCode.toNat e.payload seq)) false none } }
    if e.seq.isNone ∧ e.payload.kind = .restAsk then reportNumber seq s else s

/-- QUIET_GAP_EXPIRY (R7): the attempt begins where the quiet gap of the held frame has been reached. -/
def execQuietGapExpiry (s : State) : Host.Outcome State Fault Refusal :=
  .next (if gapReached s then beginAttempt s else s)

/-! ### The outcome of an attempt (R8, R11, R32, R33, R35, R36, R37) -/

/-- The outcome that is due (R8, R11): of an attempt that has ended and was not cut short, its frame and the point of its
failure, if it failed. -/
def dueOutcome (s : State) : Option (InFlight × Option FailPoint) :=
  match s.lif.tx, s.frh.inFlight with
  | .sending [] false failed, some f => some (f, failed)
  | _, _ => none

/-- The transmit side goes to NONE and the in-flight frame is no longer in flight. -/
def endAttempt (s : State) : State := setInFlight none (setTx .none s)

/-- Settlement of a frame that was SENT (R35, R37). -/
def settleSent (f : InFlight) (s : State) : State :=
  let s := endAttempt s
  select (match f.entry.payload.kind, f.entry.seq with
    | .restAsk, some seq => reportSent seq s
    | _, _ => s)

/-- ATTEMPT_SENT (R11): the release check has ended and no echo check has failed. -/
def execAttemptSent (s : State) : Host.Outcome State Fault Refusal :=
  .next (match works s, dueOutcome s with
    | true, some (f, none) => settleSent f s
    | _, _ => s)

/-- The entry with one failure more; the count of TRIP and CLEAR saturates at 255 (R36). -/
def failedEntry (e : Entry) : Entry :=
  match e.payload.kind with
  | .trip => { e with count := min 255 (e.count + 1) }
  | .clear => { e with count := min 255 (e.count + 1) }
  | _ => { e with count := e.count + 1 }

/-- What a slot of one entry holds after its in-flight frame failed (R35): a newer entry with the carried count, nothing for a
marked CLEAR, the frame itself otherwise. -/
def settledSlot (slot : Option Entry) (f : InFlight) : Option Entry :=
  match slot with
  | some newer => some { newer with count := (failedEntry f.entry).count }
  | none => if f.doomed then none else some (failedEntry f.entry)

/-- What the REST-REPLY slot holds after an in-flight reply failed (R33, R35): a newer entry to the same addressee takes the
count; otherwise the reply returns as the oldest, and is itself the oldest of five that a full slot discards. The answer is the
slot and the entry discarded. -/
def settledReplies (es : List Entry) (f : InFlight) : List Entry × Option Entry :=
  if es.any (fun e => addresseeOf e == addresseeOf f.entry) then
    (es.map fun e =>
      if addresseeOf e == addresseeOf f.entry then { e with count := (failedEntry f.entry).count } else e, none)
  else if es.length < 4 then (failedEntry f.entry :: es, none)
  else (es, some (failedEntry f.entry))

/-- The settlement of a failed frame in its slot (R35), with the firing of R33 for a reply the full slot discards. -/
def settleSlots (f : InFlight) (s : State) : State :=
  let o := s.frh.outbox
  match f.entry.payload.kind with
  | .trip => setOutbox { o with trip := settledSlot o.trip f } s
  | .clear => setOutbox { o with clear := settledSlot o.clear f } s
  | .restReply =>
    let r := settledReplies o.replies f
    offerAll (r.2.toList.map replyDropped) (setOutbox { o with replies := r.1 } s)
  | .restAsk => setOutbox { o with restAsk := settledSlot o.restAsk f } s
  | .demand => setOutbox { o with demand := settledSlot o.demand f } s
  | .stateReport => setOutbox { o with stateReport := settledSlot o.stateReport f } s

/-- An entry has reached the attempt limit (R36). -/
def atLimit (e : Entry) : Bool := decide (8 ≤ e.count)

/-- The attempt-limit check of the slot a failed frame belongs to (R36, R37): an entry with attempt count 8 is removed with
SEND_DROPPED, and a removed REST-ASK is reported as dropped. TRIP and CLEAR have no limit. DESIGN CHOICE (log 39): SEND_DROPPED is
offered before the firings that the dropped report brings, REST_REFUSED and DUTY_CHANGE. -/
def limitCheck (kind : FrameKind) (point : FailPoint) (s : State) : State :=
  let o := s.frh.outbox
  let dropped := fire 2 kind.code (failPointCode point)
  match kind with
  | .trip => s
  | .clear => s
  | .restReply =>
    if o.replies.any atLimit then offer dropped (setOutbox { o with replies := o.replies.eraseP atLimit } s) else s
  | .restAsk =>
    match o.restAsk with
    | some e => if atLimit e then reportDropped e.seq (offer dropped (setOutbox { o with restAsk := none } s)) else s
    | none => s
  | .demand => if o.demand.any atLimit then offer dropped (setOutbox { o with demand := none } s) else s
  | .stateReport => if o.stateReport.any atLimit then offer dropped (setOutbox { o with stateReport := none } s) else s

/-- Settlement of a frame whose attempt FAILED at a point (R35, R36), then a selection (R34). -/
def settleFailed (f : InFlight) (point : FailPoint) (s : State) : State :=
  select (limitCheck f.entry.payload.kind point (settleSlots f (endAttempt s)))

/-- ATTEMPT_FAILED (R8): the cell in which the echo check failed at the point has ended. -/
def execAttemptFailed (point : FailPoint) (s : State) : Host.Outcome State Fault Refusal :=
  .next (match works s, dueOutcome s with
    | true, some (f, some p) => if p = point then settleFailed f point s else s
    | _, _ => s)

/-- CUT_ATTEMPT_END (R12): the cut cell has ended; the transmit side goes to NONE and FRH gets no outcome; an entry kept meanwhile
is handed over as R34 gives. -/
def execCutAttemptEnd (s : State) : Host.Outcome State Fault Refusal :=
  .next (match works s, s.lif.tx with
    | true, .sending [] true _ => select (setTx .none s)
    | _, _ => s)

end Sys2Proof.Machine
end

