-- ==== Sys2Proof/Machine/Receive.lean ====
section
/-! DEFINITION. The receiving side of LIF and FRH (R13 to R15, R20 to R28), with LINE_TRANSITION, MARK_RECESSIVE_TIMEOUT,
HEADER_ARRIVAL, FRAME_COMPLETE and FRAME_MALFORMED. -/

namespace Sys2Proof.Machine

/-! ### The receive side (R13, R17) -/

/-- The receive side enters HUNT, and moves at once to LEAD while the line is dominant, measuring the dominant stretch from then
on (R13). It has nothing of a frame. -/
def rxHunt (s : State) : State :=
  { s with lif :=
    { s.lif with
      rx := if s.pins.lineDominant then .lead else .hunt
      leadFrom := if s.pins.lineDominant then s.pins.lineSince else 0
      cells := RxCells.start, report := none, rxHeader := none, rxStartedSending := false } }

/-- The next state of the receive side at a transition to a level, after a stretch of so many judged half-cells (R13). -/
def rxNext (rx : RxState) (dominant : Bool) (half : Nat) : RxState :=
  match rx, dominant with
  | .hunt, true => .lead
  | .lead, false => if 4 ≤ half then .mark else .hunt
  | .mark, true => if half = 2 then .data else .lead
  | r, _ => r

/-- A filtered transition while the receive side works (R7, R13, R17): the quiet-gap count is cleared or starts, the receive
side moves by the stretch as it has measured it, and a start it accepts begins with no cell, marked with whether the line phase
was SENDING. -/
def lineMoves (dominant : Bool) (stretch : Nat) (s : State) : State :=
  let rx := rxNext s.lif.rx dominant (judgedHalfCells s (stretch - s.lif.leadFrom))
  let accepted := s.lif.rx = .mark ∧ rx = .data
  { s with lif :=
    { s.lif with
      quiet := if dominant then .cleared else .running 0
      rx := rx
      leadFrom := 0
      cells := if accepted then RxCells.start else s.lif.cells
      report := if accepted then none else s.lif.report
      rxHeader := if accepted then none else s.lif.rxHeader
      rxStartedSending := if accepted then isSending s else s.lif.rxStartedSending } }

/-- The level of LINE_RX is followed in every state (log 5). -/
def setLineLevel (dominant : Bool) (s : State) : State :=
  { s with pins := { s.pins with lineDominant := dominant, lineSince := 0 } }

/-- LINE_TRANSITION (R7, R13). A command that repeats the present level is no transition. -/
def execLineTransition (dominant : Bool) (stretch : Nat) (s : State) : Host.Outcome State Fault Refusal :=
  .next
    (if s.pins.lineDominant = dominant then s
     else
      let t := setLineLevel dominant s
      if works s then lineMoves dominant stretch t else t)

/-- MARK_RECESSIVE_TIMEOUT (R13). -/
def execMarkRecessiveTimeout (s : State) : Host.Outcome State Fault Refusal :=
  .next (if works s && s.lif.rx == .mark then rxHunt s else s)

/-! ### The early trip notice (R27, R28) -/

/-- The header conditions of the early trip notice (R27). -/
def givesNotice (s : State) (h0 h1 : Octet) : Bool :=
  !topBitOf h0 && roleCodeOf h0 == 1 && kindCodeOf h1 == 5 && payloadLengthOf h1 == 1 && senderOf h0 != ownNumber s

/-- Sets the sender whose closing report is due. -/
def setNotice (n : Option Nat) (s : State) : State := { s with frh := { s.frh with notice := n } }

/-- A header arrival (R14, R27): LIF keeps the header; in a WELL station a TRIP header gives the early notice. -/
def headerArrives (h0 h1 h2 : Octet) (s : State) : State :=
  let s := { s with lif := { s.lif with rxHeader := some (h0, h1, h2), report := none } }
  if hasRole s .well && givesNotice s h0 h1 then earlyNotice (senderOf h0) (setNotice (some (senderOf h0)) s) else s

/-- LIF is about to hand FRH a report with the octets gathered (R14, R15, log 15). -/
def handsOver (s : State) (r : RxReport) (octets : List Octet) : Bool :=
  works s && s.lif.report == some r && s.lif.cells.octets == octets

/-- HEADER_ARRIVAL (R14): LIF hands over the three octets of the header that is due. -/
def execHeaderArrival (h0 h1 h2 : Octet) (s : State) : Host.Outcome State Fault Refusal :=
  .next (if handsOver s .header [h0, h1, h2] then headerArrives h0 h1 h2 s else s)

/-- The closing report DUPLICATE (1) or FAILED (2) of the notice that is due (R28, R93). -/
def closeNotice (detail : Nat) (s : State) : State :=
  match s.frh.notice with
  | some n => withdrawTrip n detail (setNotice none s)
  | none => s

/-- A malformed frame (R15, R20, R28): FRAME_MALFORMED with the reason, then the closing report FAILED. R28 gives the two no order
and R166 lets firings of different blocks be routed in either order: the model routes TRIP_WITHDRAWN after FRAME_MALFORMED, and
after ROLE_MISMATCH and the other firings of the same frame below (DESIGN CHOICE, log 34). -/
def malformed (reason : Nat) (s : State) : State := closeNotice 2 (offer (fireDetail 1 reason) s)

/-- FRAME_MALFORMED (R15): LIF reports the reason that is due and the receive side goes to HUNT. -/
def execFrameMalformed (reason : Nat) (s : State) : Host.Outcome State Fault Refusal :=
  .next (if works s && s.lif.report == some (.malformed reason) then malformed reason (rxHunt s) else s)

/-! ### A completed frame (R20 to R26) -/

/-- FRH's reasons, in the order of R20, for a frame without its CRC octets. -/
def frhReason (body : List Octet) : Option Nat :=
  let h0 := body.getD 0 0
  let h1 := body.getD 1 0
  if topBitOf h0 then some 6
  else if (roleOfCode (roleCodeOf h0)).isNone then some 7
  else
    match kindOfCode (kindCodeOf h1) with
    | none => some 8
    | some k =>
      if payloadLengthOf h1 ≠ k.payloadLength then some 9
      else if body.length - 3 ≠ payloadLengthOf h1 then some 10
      else none

/-- A station clash (R22): STATION_CLASH, and from JOINING or ACTIVE the line state becomes LISTEN_ONLY. -/
def stationClash (kind : FrameKind) (s : State) : State :=
  let t := offer (fire 3 (ownNumber s) kind.code) s
  if keepsEntries s then enterListenOnly t else t

/-- A DEMAND handed to the duty unit (R26, R95, R96): only one from a TURBINE sender is. -/
def handDemand (sender : Nat) (role : Role) (p : List Octet) (s : State) : State :=
  if role = .turbine then
    let cause := (p.getD 2 0).toNat
    if cause = 0 then removeTrip sender 2 s else announceTrip sender cause s
  else s

/-- The blocks of a WELL station that R26 hands an accepted frame to after the peer view. -/
def handOn (kind : FrameKind) (role : Role) (sender : Nat) (seq : Octet) (p : List Octet) (s : State) : State :=
  match kind with
  | .stateReport => s
  | .demand => handDemand sender role p s
  | .restAsk => takeAsk sender seq s
  | .restReply => takeReply sender (p.getD 0 0).toNat (p.getD 1 0) (verdictOfCode (p.getD 2 0).toNat) s
  | .trip => completeTrip sender (announceTrip sender (p.getD 0 0).toNat s)
  | .clear => removeTrip sender 1 s

/-- The closing report COMPLETED of an accepted TRIP (R28); a notice that some other frame closes has failed. -/
def closeCompleted (kind : FrameKind) (sender : Nat) (s : State) : State :=
  if kind = .trip ∧ s.frh.notice = some sender then setNotice none s else closeNotice 2 s

/-- A valid frame reaches the peer view and is handed on (R25, R26, R41, R42). -/
def validFrame (kind : FrameKind) (role : Role) (sender : Nat) (seq : Octet) (p : List Octet) (s : State) : State :=
  let r := rowOf s sender
  if roleAgrees r role then
    let t := refreshRow sender role kind s
    if isDuplicate r seq then closeNotice 1 (if hasRole t .well then viewChanged t else t)
    else
      let t := closeCompleted kind sender (acceptPayload kind sender p (acceptSeq sender seq t))
      if hasRole t .well then handOn kind role sender seq p t else t
  else closeNotice 2 (offer (fire 4 sender role.code) s)

/-- A well-formed frame (R21, R22, R23): an own echo is discarded; the own number is a clash unless the start was accepted while
SENDING; a kind its role does not send is discarded with ROLE_MISMATCH. -/
def wellFormedFrame (kind : FrameKind) (role : Role) (body : List Octet) (ownEcho startedSending : Bool) (s : State) : State :=
  let sender := senderOf (body.getD 0 0)
  if ownEcho then closeNotice 2 s
  else if sender = ownNumber s then
    if startedSending then closeNotice 2 s else closeNotice 2 (stationClash kind s)
  else if kind.sentBy role then validFrame kind role sender (body.getD 2 0) (body.drop 3) s
  else closeNotice 2 (offer (fire 4 sender kind.code) s)

/-- FRH takes a frame with a passed CRC (R20). -/
def frhFrame (body : List Octet) (ownEcho startedSending : Bool) (s : State) : State :=
  match frhReason body, roleOfCode (roleCodeOf (body.getD 0 0)), kindOfCode (kindCodeOf (body.getD 1 0)) with
  | some r, _, _ => malformed r s
  | none, some role, some kind => wellFormedFrame kind role body ownEcho startedSending s
  | none, _, _ => s

/-- A frame completes (R14, R17): the receive side goes to HUNT, and the octets go to FRH without the two of the CRC. -/
def frameCompletes (octets : List Octet) (ownEcho : Bool) (s : State) : State :=
  frhFrame (octets.take (octets.length - 2)) ownEcho s.lif.rxStartedSending (rxHunt s)

/-- FRAME_COMPLETE (R14, R20): LIF hands over the frame that is due. -/
def execFrameComplete (octets : List Octet) (ownEcho : Bool) (s : State) : Host.Outcome State Fault Refusal :=
  .next (if handsOver s (.complete ownEcho) octets then frameCompletes octets ownEcho s else s)

end Sys2Proof.Machine
end

