-- ==== Sys2Proof/Machine/Measure.lean ====
section
/-! DEFINITION. The measurement unit (04_measurements_saturation_table_and_watch_windows.md): sample link, latches, scan, margins,
windows and the saturation table, with SAMPLE_OCTET, FRAMING_FAULT, PARTIAL_WORD_DISCARD, SMP_IN_RELEASED and SCAN_TICK. -/

namespace Sys2Proof.Machine

/-! ### Channel map (R62) and quantities (R63, R66) -/

/-- The number of mapped channels of a role; channel n feeds quantity n (R62). -/
def mappedChannels : Option Role → Nat
  | some .well => 4
  | some .turbine => 1
  | some .exchange => 5
  | none => 0

/-- The greatest value of a mapped channel's accepted range; every range begins at 0 (R62). -/
def acceptedMax (role : Option Role) (channel : Nat) : Nat :=
  match role, channel with
  | some .well, 2 => 2000
  | some .well, 3 => 4000
  | some .exchange, 2 => 65535
  | some .exchange, _ => 4000
  | _, _ => 65535

/-- The number of quantities of a role (R63). -/
def quantityCount : Option Role → Nat
  | some .well => 10
  | some .turbine => 4
  | some .exchange => 11
  | none => 0

/-- The kind of a quantity (R62, R66). -/
def quantityKind (role : Option Role) (q : Nat) : QuantityKind :=
  if q < mappedChannels role then .measured
  else if role = some .well ∧ q = 4 then .margin
  else if role = some .exchange ∧ q = 8 then .margin
  else .computed

/-! ### Word assembly (R58, R59, R60, R61) -/

/-- Sets the octets gathered. -/
def setGathered (g : List Octet) (s : State) : State := { s with msu := { s.msu with gathered := g } }

/-- A rejection on the sample link, with its reason (R60). -/
def reject (reason : Rejection) (s : State) : State :=
  { s with msu := { s.msu with rejected := min 255 (s.msu.rejected + 1), lastRejection := some reason } }

/-- The latch of a channel. -/
def latchOf (s : State) (channel : Nat) : Latch := slotGet s.msu.latches channel Latch.empty

/-- Puts a latch. -/
def setLatch (channel : Nat) (l : Latch) (s : State) : State :=
  { s with msu := { s.msu with latches := slotSet s.msu.latches channel l } }

/-- What a word's value does to its channel's latch (R61): the fault key refuses first, then the range of a mapped channel. -/
def latchTakes (s : State) (channel value : Nat) (l : Latch) : Latch :=
  if value = s.settings.faultKey then
    { l with refusedCount := min 255 (l.refusedCount + 1), lastRefusal := some .faultKey }
  else if channel < mappedChannels (roleOf s) ∧ acceptedMax (roleOf s) channel < value then
    { l with refusedCount := min 255 (l.refusedCount + 1), lastRefusal := some .range }
  else { l with pending := some value, last := some value }

/-- A completed word is checked and goes to its latch (R60, R61). -/
def sampleWord (c lo hi check : Octet) (s : State) : State :=
  if check ≠ checkOctet c lo hi then reject .checkOctet s
  else if 8 ≤ c.toNat then reject .channelBits s
  else setLatch c.toNat (latchTakes s c.toNat (number16 lo hi) (latchOf s c.toNat)) s

/-- An octet is gathered; the fourth completes the word (R59). -/
def gatherOctet (octet : Octet) (s : State) : State :=
  let s := { s with msu := { s.msu with idleReached := false } }
  match s.msu.gathered with
  | [c, lo, hi] => sampleWord c lo hi octet (setGathered [] s)
  | g => setGathered (g ++ [octet]) s

/-- SAMPLE_OCTET (R58, R59). -/
def execSampleOctet (octet : Octet) (s : State) : Host.Outcome State Fault Refusal :=
  .next (if works s && !s.msu.awaitHigh then gatherOctet octet s else s)

/-- The reason recorded for a framing fault: with a partial word in hand the spec leaves it between 1 and 2 (log 10). -/
def framingReason (g : List Octet) : Rejection :=
  if !g.isEmpty && Config.partialWordReasonWins g then .partialWord else .framing

/-- A framing fault (R58, R59, R60): one rejection, the partial word dropped, and the wait for SMP_IN to read high. -/
def framingFaults (s : State) : State :=
  let s := setGathered [] (reject (framingReason s.msu.gathered) s)
  { s with msu := { s.msu with awaitHigh := true } }

/-- FRAMING_FAULT (R58). -/
def execFramingFault (s : State) : Host.Outcome State Fault Refusal :=
  .next (if works s && !s.msu.awaitHigh then framingFaults s else s)

/-- The twentieth idle bit time ends (R59): a partial word is discarded and counted. -/
def idleEnds (s : State) : State :=
  let s := { s with msu := { s.msu with idleReached := true } }
  if s.msu.gathered.isEmpty then s else setGathered [] (reject .partialWord s)

/-- PARTIAL_WORD_DISCARD (R59). -/
def execPartialWordDiscard (s : State) : Host.Outcome State Fault Refusal :=
  .next (if works s && !s.msu.idleReached then idleEnds s else s)

/-- SMP_IN_RELEASED (R58): the receiver looks for the next start bit again. -/
def execSmpInReleased (s : State) : Host.Outcome State Fault Refusal :=
  .next (if works s then { s with msu := { s.msu with awaitHigh := false } } else s)

/-! ### Scan, stage 1 (R65) -/

/-- The entry of a measured quantity after a scan (R65). -/
def scannedQuantity (invalidLimit : Nat) (sample : Option Nat) (q : Quantity) : Quantity :=
  match sample, q.validity with
  | some v, _ => { validity := .valid, value := v, heldCount := 0 }
  | none, .valid => { q with validity := .held, heldCount := 1 }
  | none, .held =>
    let n := min 255 (q.heldCount + 1)
    { q with validity := if n ≤ invalidLimit then .held else .invalid, heldCount := n }
  | none, .invalid => { q with heldCount := min 255 (q.heldCount + 1) }

/-- The firing of a scanned entry (R65): QUANTITY_HELD on VALID to HELD, QUANTITY_INVALID on HELD to INVALID. -/
def scanFirings (q : Nat) (old new : Quantity) : List Firing :=
  match old.validity, new.validity with
  | .valid, .held => [fire 9 q new.value.toNat]
  | .held, .invalid => [fire 10 q new.value.toNat]
  | _, _ => []

/-- Stage 1 for one channel: a mapped one updates its quantity, and the pending sample is emptied (R61, R65). -/
def scanChannel (s : State) (channel : Nat) : State :=
  let l := latchOf s channel
  let t := setLatch channel { l with pending := none } s
  if channel < mappedChannels (roleOf s) then
    let old := quantityOf s channel
    let new := scannedQuantity s.settings.invalidLimit l.pending old
    offerAll (scanFirings channel old new) (setQuantity channel new t)
  else t

/-! ### Scan, stage 2 (R67, R68) -/

/-- A margin whose input is INVALID: its value stands, HELD once it has been computed (R67, R68). -/
def heldMargin (q : Quantity) : Quantity :=
  { q with validity := if q.validity = .invalid then .invalid else .held }

/-- The calcite margin Q4 of a WELL station (R67). -/
def calciteMargin (s : State) : State :=
  let p := quantityOf s 0
  match p.validity with
  | .invalid => setQuantity 4 (heldMargin (quantityOf s 4)) s
  | v => writeQuantity 4 v (p.value - s.settings.bubblePoint) s

/-- The silica margin Q8 of an EXCHANGE station (R68). -/
def silicaMargin (s : State) : State :=
  let a := quantityOf s 4
  let b := quantityOf s 6
  if a.validity = .invalid ∨ b.validity = .invalid then setQuantity 8 (heldMargin (quantityOf s 8)) s
  else writeQuantity 8 (if a.validity = .valid ∧ b.validity = .valid then .valid else .held) (a.value - b.value) s

/-- The margins of the role (R64, R67, R68). -/
def scanMargins (s : State) : State :=
  match roleOf s with
  | some .well => calciteMargin s
  | some .exchange => silicaMargin s
  | _ => s

/-! ### Scan, stage 3 (R72, R73, R74) -/

/-- The side on which a value lies outside the limits (R73). A value below a low limit and above a high limit that stands below
it is on both sides; the spec leaves which one is shown (log 24). -/
def outside (c : WindowConfig) (v : Int) : Option Side :=
  if v < c.low ∧ c.high < v then some (if Config.crossedLimitsShowHigh c.low c.high v then .high else .low)
  else if v < c.low then some .low
  else if c.high < v then some .high
  else none

/-- A value is well inside: within both limits by the hysteresis (R73). -/
def wellInside (c : WindowConfig) (v : Int) : Bool := decide (c.low + c.hysteresis ≤ v ∧ v ≤ c.high - c.hysteresis)

/-- The state of a window after its evaluation (R73). -/
def evaluated (c : WindowConfig) (q : Quantity) (w : WindowState) : WindowState :=
  match q.validity with
  | .invalid => .unknown
  | _ =>
    match outside c q.value with
    | some side => .alarm side
    | none => if wellInside c q.value then .clear else w

/-- The configuration of a window. -/
def windowConfig (s : State) (n : Nat) : WindowConfig := s.settings.windows.getD n defaultWindow

/-- Puts a window's state. -/
def setWindow (n : Nat) (w : WindowState) (s : State) : State :=
  { s with msu := { s.msu with windows := slotSet s.msu.windows n w } }

/-- Stage 3 for one window: an enabled one is evaluated, and fires WINDOW_n while it stands in ALARM (R73, R74). -/
def scanWindow (s : State) (n : Nat) : State :=
  let c := windowConfig s n
  if c.enabled then
    let w := evaluated c (quantityOf s c.quantity) (slotGet s.msu.windows n .unknown)
    let s := setWindow n w s
    match w with
    | .alarm side => offer (fire (11 + n) n side.code) s
    | _ => s
  else s

/-! ### Scan, stage 4, and the scan (R64, R80) -/

/-- The scan notice at the duty unit (R80): the quiet count grows, and from the recovery span on one derate step is recovered. -/
def scanNotice (s : State) : State :=
  let quiet := min 255 (s.dtu.quietCount + 1)
  if s.settings.recoverySpan ≤ quiet ∧ 0 < s.dtu.derateTotal then
    moveDerate (s.dtu.derateTotal - s.settings.derateStep) quiet s
  else setDerate s.dtu.derateTotal quiet s

/-- One scan, its four stages in order (R64). -/
def scan (s : State) : State :=
  let s := (List.range 8).foldl scanChannel s
  let s := scanMargins s
  let s := (List.range 8).foldl scanWindow s
  if hasRole s .well then scanNotice s else s

/-- SCAN_TICK (R64). -/
def execScanTick (s : State) : Host.Outcome State Fault Refusal := .next (if works s then scan s else s)

/-! ### The saturation table (R69, R70, R71) -/

/-- The straight line from point `a` to point `b`, rounded half up (R70). -/
def interpolate (a b : TablePoint) (silica : Nat) : Int :=
  (a.temperature : Int) +
    (2 * ((silica : Int) - a.silica) * ((b.temperature : Int) - a.temperature) + ((b.silica : Int) - a.silica)) /
      (2 * ((b.silica : Int) - a.silica))

/-- The lookup in the points from `a` on: the segment with S_k ≤ S < S_(k+1), and the last temperature from S_15 on (R70,
R71). -/
def lookupFrom (a : TablePoint) (points : List TablePoint) (silica : Nat) : Nat :=
  match points with
  | [] => a.temperature
  | b :: rest => if silica < b.silica then (interpolate a b silica).toNat else lookupFrom b rest silica

/-- The temperature of a silica value (R70, R71). -/
def lookup (table : List TablePoint) (silica : Nat) : Nat :=
  match table with
  | [] => 0
  | a :: rest => if silica < a.silica then a.temperature else lookupFrom a rest silica

/-- The silica value lies outside [S_0, S_15] (R71). -/
def outsideTable (table : List TablePoint) (silica : Nat) : Bool :=
  match table.head?, table.getLast? with
  | some a, some b => decide (silica < a.silica ∨ b.silica < silica)
  | _, _ => false

end Sys2Proof.Machine
end

