-- ==== Sys2Proof/Machine/Turbine.lean ====
section
/-! DEFINITION. The supply regulator (08_turbine_supply_station.md), with TRIP_IN_ACTIVE and TRIP_IN_INACTIVE. -/

namespace Sys2Proof.Machine

/-- Replaces the regulator's state. -/
def setSrg (r : Srg) (s : State) : State := { s with srg := r }

/-! ### The regulator law (R142 to R144) -/

/-- What one tick of the law computes: the integrator after it, the output u before the clamp, and e. -/
structure LawResult where
  integrator : Nat
  output : Int
  error : Int
  deriving DecidableEq, Repr

/-- The proportional term (R142). -/
def proportionalTerm (c : Settings) (e : Int) : Int := (c.kp : Int) * e / 16

/-- Anti-windup keeps the integrator: the candidate output lies beyond a limit on the side of the error (R143). -/
def windsUp (c : Settings) (u e : Int) : Bool := decide (((c.turbineLimit : Int) < u ∧ 0 < e) ∨ (u < 0 ∧ e < 0))

/-- The integrator clamped to [0, 256 × D_t_max] (R143). -/
def clampIntegrator (c : Settings) (i : Int) : Nat := min i.toNat (256 * c.turbineLimit)

/-- The regulator law for a pressure P_h (R142, R143). -/
def regulatorLaw (c : Settings) (i : Nat) (p : Int) : LawResult :=
  let e := (c.pSet : Int) - p
  let candidate := (i : Int) + (c.ki : Int) * e
  let u := proportionalTerm c e + candidate / 256
  if windsUp c u e then
    { integrator := clampIntegrator c i, output := proportionalTerm c e + (i : Int) / 256, error := e }
  else { integrator := clampIntegrator c candidate, output := u, error := e }

/-- D_t: u clamped to [0, D_t_max] (R144). -/
def clampDemand (c : Settings) (u : Int) : Nat := min u.toNat c.turbineLimit

/-- DEMAND_CLAMPED while the clamp is in force (R144). -/
def clampFirings (c : Settings) (u : Int) : List Firing :=
  if u < 0 then [fireDetail 32 1] else if (c.turbineLimit : Int) < u then [fireDetail 32 2] else []

/-! ### The trip state (R147 to R151) -/

/-- The frames and the event of an announced trip (R148, R149): TRIP, DEMAND carrying 0 and the cause, TRIP_IN. -/
def announceOwnTrip (cause : TripCause) (s : State) : State :=
  offer (fire 25 (ownNumber s) cause.code) (enterDemandFrame 0 cause.code (enterTripFrame cause s))

/-- Entry to TRIPPED (R149): D_t is 0 and the integrator stands. -/
def enterTripped (cause : TripCause) (s : State) : State :=
  announceOwnTrip cause (setSrg { s.srg with demand := 0, trip := .tripped cause } s)

/-- The move from TRIPPED to NORMAL (R150): CLEAR and TRIP_OUT. -/
def leaveTripped (s : State) : State :=
  let s := enterClearFrame (setSrg { s.srg with trip := .normal } s)
  offer (fire 27 (ownNumber s) 4) s

/-- The filtered TRIP_IN becomes active in a working TURBINE station (R147, R148). -/
def tripInActs (s : State) : State :=
  match s.srg.trip with
  | .normal => enterTripped .tripIn s
  | .tripped .headerHigh => announceOwnTrip .tripIn (setSrg { s.srg with trip := .tripped .tripIn } s)
  | .tripped .tripIn => s

/-- TRIP_IN_ACTIVE (R148): the filter works in every role and line state; only a working TURBINE station acts on it. -/
def execTripInActive (s : State) : Host.Outcome State Fault Refusal :=
  .next
    (if s.pins.resetLow || s.srg.tripIn then s
     else
      let t := setSrg { s.srg with tripIn := true } s
      if works s && hasRole s .turbine then tripInActs t else t)

/-- TRIP_IN_INACTIVE (R148): nothing but the level changes at that moment. -/
def execTripInInactive (s : State) : Host.Outcome State Fault Refusal :=
  .next (if s.pins.resetLow then s else setSrg { s.srg with tripIn := false } s)

/-! ### The share tick (R141) -/

/-- P_trip − P_trip_hys or below (R147). -/
def lowEnough (c : Settings) (p : Int) : Bool := decide (p ≤ (c.pTrip : Int) - c.pTripHys)

/-- Stage 2 of a share tick: the trip tests on a VALID P_h (R147, R149, R150). -/
def tripTests (pressure : Quantity) (s : State) : State :=
  match s.srg.trip with
  | .normal =>
    if pressure.validity = .valid ∧ (s.settings.pTrip : Int) < pressure.value then enterTripped .headerHigh s else s
  | .tripped _ =>
    if !s.srg.tripIn && pressure.validity == .valid && lowEnough s.settings pressure.value then leaveTripped s else s

/-- Stage 3 in NORMAL: the law, or the held demand while P_h is INVALID (R142, R144, R145). -/
def regulate (pressure : Quantity) (s : State) : State :=
  match pressure.validity with
  | .invalid => offer (fireDetail 30 s.srg.demand) s
  | _ =>
    let r := regulatorLaw s.settings s.srg.integrator pressure.value
    offerAll (clampFirings s.settings r.output)
      (setSrg { s.srg with integrator := r.integrator, demand := clampDemand s.settings r.output, error := r.error } s)

/-- Stage 3 in TRIPPED: D_t is 0 and the error is followed while P_h is not INVALID (R141, R146). -/
def holdTripped (pressure : Quantity) (s : State) : State :=
  let e := if pressure.validity = .invalid then s.srg.error else (s.settings.pSet : Int) - pressure.value
  setSrg { s.srg with demand := 0, error := e } s

/-- Stage 3 (R141). -/
def setDemand (pressure : Quantity) (s : State) : State :=
  match s.srg.trip with
  | .normal => regulate pressure s
  | .tripped _ => holdTripped pressure s

/-- Stage 4 (R141): the DEMAND of a trip state left at stage 2, or of the step test at a tick that set D_t; the entry to TRIPPED
has made its own. -/
def demandDue (before : TripState) (pressure : Quantity) (s : State) : Bool :=
  match before, s.srg.trip with
  | .tripped _, .normal => true
  | .normal, .tripped _ => false
  | .normal, .normal => pressure.validity != .invalid && publishDue s.srg.demand s.frh.lastDemand s.settings.demandStep
  | .tripped _, .tripped _ => publishDue s.srg.demand s.frh.lastDemand s.settings.demandStep

/-- Stage 5: the quantities Q1, Q2 and Q3 (R146). -/
def writeTurbineQuantities (pressure : Quantity) (s : State) : State :=
  match s.srg.trip, pressure.validity with
  | .normal, .invalid => holdQuantity 3 (holdQuantity 2 (holdQuantity 1 s))
  | .normal, _ =>
    writeQuantity 3 .valid s.srg.error
      (writeQuantity 2 .valid (s.srg.integrator / 256 : Nat) (writeQuantity 1 .valid s.srg.demand s))
  | .tripped _, .invalid => holdQuantity 3 (holdQuantity 2 (writeQuantity 1 .valid 0 s))
  | .tripped _, _ => writeQuantity 3 .valid s.srg.error (holdQuantity 2 (writeQuantity 1 .valid 0 s))

/-- The share tick of a TURBINE station (R141). -/
def turbineShare (s : State) : State :=
  let pressure := quantityOf s 0
  let before := s.srg.trip
  let s := setDemand pressure (tripTests pressure s)
  let s := if demandDue before pressure s then publishDemand s else s
  writeTurbineQuantities pressure s

end Sys2Proof.Machine
end

