-- ==== Sys2Proof/Machine/Exchange.lean ====
section
/-! DEFINITION. The exchange computer (09_heat_exchange_station.md). -/

namespace Sys2Proof.Machine

/-- Replaces the exchange computer's state. -/
def setXcp (x : Xcp) (s : State) : State := { s with xcp := x }

/-- Stage 1: S_mix is computed while the silica terms hold any flow, and held otherwise (R156). -/
def mixSilica (s : State) : State :=
  if 0 < flowSum s then setXcp { s.xcp with sMix := silicaFlowSum s / flowSum s } s else s

/-- Stage 2: T_sat from the table, with TABLE_RANGE outside it, and T_bo_min (R71, R157). -/
def outletLimit (s : State) : State :=
  let t := lookup s.settings.table s.xcp.sMix
  let s' := setXcp { s.xcp with tSat := t, tBoMin := min 4000 (max (t + s.settings.silicaMargin) s.settings.outletFloor) } s
  if outsideTable s.settings.table s.xcp.sMix then offer (fireDetail 19 s.xcp.sMix) s' else s'

/-- The temperature drop ΔT_b of a T_bi that is VALID or HELD (R158). -/
def brineDrop (s : State) (inlet : Option Int) : Option Int := inlet.map fun t => t - s.xcp.tBoMin

/-- Stage 4: the isolation state after the test; it stands while ΔT_b is not computed (R158). -/
def isolationAfter (c : Settings) (isolated : Bool) (drop : Option Int) : Bool :=
  match drop with
  | none => isolated
  | some d =>
    if isolated then decide (d < (c.minimumDrop : Int) + c.dropHysteresis) else decide (d < (c.minimumDrop : Int))

/-- Stage 5: the heat of T_r and m_d (R160). -/
def heatOf (c : Settings) (supplyReturn flow : Int) : Nat :=
  min 1000000 (flow * max 0 ((c.supplySetpoint : Int) - supplyReturn) * 419 / 10000).toNat

/-- The heat of a tick: computed while T_r and m_d are both usable, held otherwise (R160, R162). -/
def heatAfter (c : Settings) (old : Nat) (supplyReturn flow : Option Int) : Nat :=
  match supplyReturn, flow with
  | some r, some m => heatOf c r m
  | _, _ => old

/-- The brine flow u: the ceiling of Q × 10000 / (c_b × ΔT_b) (R161). -/
def brineFlow (c : Settings) (heat : Nat) (drop : Int) : Nat :=
  let divisor := (c.specificHeat : Int) * drop
  (((heat : Int) * 10000 + divisor - 1) / divisor).toNat

/-- The detail of EXCHANGE_NO_MARGIN (R159). -/
def noMarginDetail (drop : Option Int) : Nat :=
  match drop with
  | some d => d.toNat
  | none => 65535

/-- The inputs of stages 3 to 6: T_r, m_d and T_bi, each while VALID or HELD (R155). -/
structure ExchangeInputs where
  supplyReturn : Option Int
  flow : Option Int
  inlet : Option Int
  deriving DecidableEq, Repr

/-- Stage 3 (R155). -/
def exchangeInputs (s : State) : ExchangeInputs where
  supplyReturn := usableValue s 1
  flow := usableValue s 2
  inlet := usableValue s 3

/-- Both heat inputs are usable (R160, R162). -/
def heatComputed (i : ExchangeInputs) : Bool := i.supplyReturn.isSome && i.flow.isSome

/-- D_x is set at this tick: in ISOLATED, or in SERVING with every input usable (R159, R161, R162). -/
def demandComputed (isolated : Bool) (i : ExchangeInputs) : Bool := isolated || (heatComputed i && i.inlet.isSome)

/-- Stage 6: D_x and its events (R159, R161, R162). -/
def exchangeDemand (i : ExchangeInputs) (s : State) : State :=
  let drop := brineDrop s i.inlet
  if s.xcp.isolated then
    offer (fireDetail 31 (noMarginDetail drop)) (setXcp { s.xcp with demand := 0 } s)
  else
    match drop, heatComputed i with
    | some d, true =>
      let u := brineFlow s.settings s.xcp.heat d
      let t := setXcp { s.xcp with demand := min u s.settings.exchangeLimit } s
      if s.settings.exchangeLimit < u then offer (fireDetail 32 2) t else t
    | _, _ => s

/-- Stage 7: the DEMAND of a changed isolation state, or of the step test at a tick that set D_x (R159, R163). -/
def exchangeDemandDue (before : Bool) (i : ExchangeInputs) (s : State) : Bool :=
  s.xcp.isolated != before ||
    (demandComputed s.xcp.isolated i && publishDue s.xcp.demand s.frh.lastDemand s.settings.demandStep)

/-- Stage 8: the quantities Q5, Q6, Q7, Q9 and Q10 (R164). -/
def writeExchangeQuantities (mixed : Bool) (i : ExchangeInputs) (s : State) : State :=
  let v := if mixed then .valid else .held
  let s := writeQuantity 7 v s.xcp.tBoMin (writeQuantity 6 v s.xcp.tSat (writeQuantity 5 v s.xcp.sMix s))
  let s := if heatComputed i then writeQuantity 9 .valid (min 65535 (s.xcp.heat / 10) : Nat) s else holdQuantity 9 s
  if demandComputed s.xcp.isolated i then writeQuantity 10 .valid s.xcp.demand s else holdQuantity 10 s

/-- The share tick of an EXCHANGE station (R155). -/
def exchangeShare (s : State) : State :=
  let mixed := decide (0 < flowSum s)
  let s := outletLimit (mixSilica s)
  let i := exchangeInputs s
  let before := s.xcp.isolated
  let s := setXcp { s.xcp with isolated := isolationAfter s.settings before (brineDrop s i.inlet) } s
  let s := setXcp { s.xcp with heat := heatAfter s.settings s.xcp.heat i.supplyReturn i.flow } s
  let s := exchangeDemand i s
  let s := if exchangeDemandDue before i s then publishDemand s else s
  writeExchangeQuantities mixed i s

end Sys2Proof.Machine
end

