-- ==== Sys2Proof/Machine/Drive.lean ====
section
/-! DEFINITION. The duty machine (06_pump_drive_and_duty_states.md) and the share tick of a WELL station
(05_flow_sharing.md), with the commands of the drive's answers, the duty timers, SHARE_TICK, SETPOINT_WORD_END and
DOSE_PULSE_END. -/

namespace Sys2Proof.Machine

/-! ### RUN_ACK (R100, R101) -/

/-- Sets the filtered RUN_ACK. -/
def setRunAck (level : Bool) (s : State) : State := { s with dtu := { s.dtu with runAck := level } }

/-- Sets RUN_REQ. -/
def setRunReq (level : Bool) (s : State) : State := { s with dtu := { s.dtu with runReq := level } }

/-- RUN_ACK rises (R101, R106): in STARTING with RUN_REQ high and no acknowledge yet it is the acknowledge. -/
def runAckRises (s : State) : State :=
  if hasRole s .well && s.dtu.duty == .starting && s.dtu.runReq && s.dtu.warmTimer == .stopped then acknowledge s else s

/-- RUN_ACK falls (R100, R101, R108, R112, R114). -/
def runAckFalls (s : State) : State :=
  if hasRole s .well then
    match s.dtu.duty, s.dtu.runReq with
    | .starting, false => setRunReq true s
    | .starting, true => if s.dtu.warmTimer = .stopped then s else driveLoss s
    | .on, true => driveLoss s
    | .asking, true => driveLoss s
    | .refused, true => driveLoss s
    | .stopping, true => driveLoss s
    | .stopping, false => takeDuty .resting [] s
    | _, _ => s
  else s

/-- RUN_ACK_RISING: a rise of the filtered level; the filter works in every line state and role (R101). -/
def execRunAckRising (s : State) : Host.Outcome State Fault Refusal :=
  .next
    (if s.pins.resetLow || s.dtu.runAck then s
     else
      let t := setRunAck true s
      if works s then runAckRises t else t)

/-- RUN_ACK_FALLING: a fall of the filtered level (R101). -/
def execRunAckFalling (s : State) : Host.Outcome State Fault Refusal :=
  .next
    (if s.pins.resetLow || !s.dtu.runAck then s
     else
      let t := setRunAck false s
      if works s then runAckFalls t else t)

/-! ### Timers (R105, R107, R108, R114) -/

/-- A duty timer of a working WELL station has reached its limit. -/
def timerEnds (s : State) (t : Timer) : Bool := works s && hasRole s .well && t != .stopped

/-- START_TIMEOUT (R108): FAULT with PUMP_NO_START, detail 1 when RUN_REQ was high and 2 when it was never raised. -/
def execStartTimeout (s : State) : Host.Outcome State Fault Refusal :=
  .next
    (if timerEnds s s.dtu.startTimer then takeDuty .fault [fireDetail 21 (if s.dtu.runReq then 1 else 2)] s else s)

/-- WARM_UP_EXPIRY (R107). -/
def execWarmUpExpiry (s : State) : Host.Outcome State Fault Refusal :=
  .next (if timerEnds s s.dtu.warmTimer then warmUpEnds s else s)

/-- STOP_TIMEOUT (R114): FAULT with PUMP_NO_STOP, no subject and no detail. -/
def execStopTimeout (s : State) : Host.Outcome State Fault Refusal :=
  .next
    (if timerEnds s s.dtu.stopTimer then takeDuty .fault [{ source := 22, subject := none, detail := none }] s else s)

/-- RECALL_EXPIRY (R105). -/
def execRecallExpiry (s : State) : Host.Outcome State Fault Refusal :=
  .next (if timerEnds s s.dtu.recallTimer then takeDuty .starting [] s else s)

/-! ### The share tick of a WELL station (R82) -/

/-- ΣC of a share tick (R83). -/
def totalCapacity (s : State) : Nat := cOwn s + peerCapacity s

/-- The share (R84). -/
def share (s : State) : Nat :=
  if totalCapacity s = 0 then 0 else fieldDemand s * cOwn s / totalCapacity s

/-- The normal target computed in ACTIVE and LISTEN_ONLY (R84). -/
def computedTarget (s : State) : Nat := min (max (share s) s.settings.fMin) (capacityCeiling s)

/-- The normal target held through JOINING (R85). -/
def heldTarget (s : State) : Nat := min (max s.dtu.normalTarget s.settings.fMin) (capacityCeiling s)

/-- The normal target of a tick in ON, ASKING or REFUSED (R84, R85). -/
def tickNormalTarget (s : State) : Nat := if s.frh.lineState = .joining then heldTarget s else computedTarget s

/-- The target of the present duty (R86). -/
def dutyTarget (s : State) : Nat :=
  match s.dtu.duty with
  | .starting => if s.dtu.warmTimer = .stopped then 0 else s.settings.fMin
  | .stopping => s.settings.fMin
  | .resting => 0
  | .fault => 0
  | _ => if tripInForce s then min s.dtu.normalTarget s.settings.tripFlow else s.dtu.normalTarget

/-- Stage 2 (R84, R85, R86). -/
def stageTarget (s : State) : State :=
  let s := if s.dtu.duty.runs then { s with dtu := { s.dtu with normalTarget := tickNormalTarget s } } else s
  setFlows (dutyTarget s) s.dtu.setpoint s

/-- Stage 3: SHORTFALL (R87), on the sums read at stage 1. -/
def stageShortfall (demand total : Nat) (s : State) : State :=
  if s.dtu.duty.runs && s.frh.lineState != .joining && decide (total < demand) then
    offer (fireDetail 20 (min 65535 (demand - total))) s
  else s

/-- The setpoint moves at this tick (R88). -/
def rampMoves (s : State) : Bool :=
  match s.dtu.duty with
  | .starting => s.dtu.warmTimer != .stopped
  | .stopping => s.dtu.runReq
  | .resting => false
  | .fault => false
  | _ => true

/-- Stage 4 (R88). -/
def stageRamp (s : State) : State :=
  if rampMoves s then setFlows s.dtu.target (rampedSetpoint s) s else s

/-- The ramp down of a stop has ended (R114): RUN_REQ falls, the setpoint becomes 0 and the stop timer starts. -/
def stopRampEnds (s : State) : State :=
  { s with dtu :=
    { s.dtu with runReq := false, setpoint := 0, stopTimer := .running (1000 * s.settings.stopTimeout) } }

/-- Stage 5: the duty machine's tests (R104, R110, R114). -/
def stageDuty (s : State) : State :=
  match s.dtu.duty with
  | .on => if s.frh.lineState = .active ∧ cOwn s < s.settings.fMin then enterAsking s else s
  | .stopping => if s.dtu.runReq ∧ s.dtu.setpoint = s.settings.fMin then stopRampEnds s else s
  | .resting => testRecall s
  | _ => s

/-- Stage 6: Q5 to Q9; the target is HELD at the ticks of R85 (R82, R83, R85). -/
def stageQuantities (targetValidity : Validity) (demand total : Nat) (s : State) : State :=
  writeQuantity 9 .valid total (writeQuantity 8 .valid demand (writeQuantity 7 .valid s.dtu.setpoint
    (writeQuantity 6 targetValidity s.dtu.target (writeQuantity 5 .valid (cOwn s) s))))

/-- The share tick of a WELL station, its seven stages in order (R82). -/
def wellShare (s : State) : State :=
  let demand := fieldDemand s
  let total := totalCapacity s
  let targetValidity := if s.dtu.duty.runs && s.frh.lineState == .joining then Validity.held else .valid
  let s := stageDuty (stageRamp (stageShortfall demand total (stageTarget s)))
  sendWord (stageQuantities targetValidity demand total s)

/-- The share tick of the station's role (R82, R141, R155). -/
def shareTick (s : State) : State :=
  match roleOf s with
  | some .well => wellShare s
  | some .turbine => turbineShare s
  | some .exchange => exchangeShare s
  | none => s

/-- SHARE_TICK (R82). -/
def execShareTick (s : State) : Host.Outcome State Fault Refusal := .next (if works s then shareTick s else s)

/-! ### Words and pulses -/

/-- A setpoint word ends (R89): a waiting word begins with its values taken now. While more than the last stop bit is to go, only
a hard reset ends the word, and nothing changes (log 3). -/
def wordEnds (s : State) : State :=
  match s.dtu.setpt with
  | .idle => s
  | .sending _ (_ :: _ :: _) _ => s
  | .sending _ _ true => startWord s
  | .sending _ _ false => setSetpt .idle s

/-- SETPOINT_WORD_END (R89). -/
def execSetpointWordEnd (s : State) : Host.Outcome State Fault Refusal := .next (if works s then wordEnds s else s)

/-- DOSE_PULSE_END (R177): the output goes low. -/
def execDosePulseEnd (output : DoseOutput) (s : State) : Host.Outcome State Fault Refusal :=
  .next
    (if s.pins.resetLow then s
     else
      match output with
      | .dose0 => { s with evu := { s.evu with dose0 := .stopped } }
      | .dose1 => { s with evu := { s.evu with dose1 := .stopped } })

end Sys2Proof.Machine
end

