-- ==== Sys2Proof/Machine/Image.lean ====
section
/-! DEFINITION. The start loader (11_panel_port_configuration_and_start.md, R180 to R184) and the configuration image (R193), with
HARD_RESET, RESET_RELEASE, IMAGE_TRANSFER_DONE, ADDRESS_NOT_ACKNOWLEDGED, HELD_LINE_TIMEOUT and RETRY_WAIT_END. -/

namespace Sys2Proof.Machine

/-! ### Fields of the image (R193) -/

/-- The octet at an offset, as a number. -/
def imageOctet (img : List Octet) (offset : Nat) : Nat := (img.getD offset 0).toNat

/-- The two octets at an offset, least significant first. -/
def imageWord (img : List Octet) (offset : Nat) : Nat := imageOctet img offset + 256 * imageOctet img (offset + 1)

/-- The four octets at an offset, a signed value in two's complement, least significant first. -/
def imageSigned (img : List Octet) (offset : Nat) : Int :=
  (BitVec.ofNat 32 (imageWord img offset + 65536 * imageWord img (offset + 2))).toInt

/-- The saturation table of the image: point k at 84 + 4k (R193). -/
def imageTable (img : List Octet) : List TablePoint :=
  (List.range 16).map fun k => { silica := imageWord img (84 + 4 * k), temperature := imageWord img (86 + 4 * k) }

/-- The watch windows of the image: window n at 148 + 14n (R193). -/
def imageWindows (img : List Octet) : List WindowConfig :=
  (List.range 8).map fun n =>
    let at_ := 148 + 14 * n
    { enabled := imageOctet img at_ != 0, quantity := imageOctet img (at_ + 1), low := imageSigned img (at_ + 2)
      high := imageSigned img (at_ + 6), hysteresis := imageSigned img (at_ + 10) }

/-- The source levels of the image: source s at 275 + s; those of sources 3 and 23 are not read (R165, R193). -/
def imageLevels (img : List Octet) : List Nat :=
  (List.range 36).map fun k => if k = 2 ∨ k = 22 then 7 else imageOctet img (276 + k)

/-- The rank octet: 255 selects the station number (R99). -/
def imageRank (img : List Octet) : Option Nat :=
  if imageOctet img 39 = 255 then none else some (imageOctet img 39)

/-- Every setting as the image holds it, before the clamps (R193). -/
def rawSettings (img : List Octet) : Settings where
  cellTimeCode := imageOctet img 2
  sampleRateCode := imageOctet img 3
  refreshPeriod := imageWord img 4
  scanPeriod := imageWord img 6
  staleLimit := imageOctet img 8
  lostLimit := imageOctet img 9
  invalidLimit := imageOctet img 10
  attentionThreshold := imageOctet img 11
  faultKey := imageWord img 12
  bubblePoint := imageWord img 14
  capacityStep := imageWord img 16
  demandStep := imageWord img 18
  sharePeriod := imageWord img 20
  doseWidth0 := imageOctet img 22
  doseWidth1 := imageOctet img 23
  cRated := imageWord img 24
  derateStep := imageWord img 26
  fMin := imageWord img 28
  tripFlow := imageWord img 30
  rampUp := imageWord img 32
  rampDown := imageWord img 34
  tripRamp := imageWord img 36
  recoverySpan := imageOctet img 38
  rank := imageRank img
  startTimeout := imageOctet img 40
  stopTimeout := imageOctet img 41
  warmUp := imageWord img 42
  recallBase := imageWord img 44
  recallStep := imageOctet img 46
  grantHold := imageOctet img 47
  replyWindow := imageWord img 48
  refusedHoldOff := imageWord img 50
  reserve := imageWord img 52
  pSet := imageWord img 54
  kp := imageWord img 56
  ki := imageWord img 58
  turbineLimit := imageWord img 60
  initialIntegrator := imageWord img 62
  pTrip := imageWord img 64
  pTripHys := imageWord img 66
  supplySetpoint := imageWord img 68
  silicaMargin := imageWord img 70
  outletFloor := imageWord img 72
  minimumDrop := imageWord img 74
  dropHysteresis := imageWord img 76
  specificHeat := imageWord img 78
  exchangeLimit := imageWord img 80
  defaultSilica := imageWord img 82
  table := imageTable img
  windows := imageWindows img
  levels := imageLevels img

/-! ### The clamps (R183 and the settings tables of R77, R99, R119, R139, R153) -/

/-- Clamped to [lo, hi]. -/
def clampTo (lo hi v : Nat) : Nat := max lo (min v hi)

/-- A code outside its range becomes a fixed code (R3, R58). -/
def clampCode (top instead v : Nat) : Nat := if v ≤ top then v else instead

/-- The refresh period: 250..5000 ms, down to a multiple of 50 (R183). -/
def clampRefresh (v : Nat) : Nat := clampTo 250 5000 v / 50 * 50

/-- The settings as clamped: those of R183 first, then each chapter's in the order of its table, each tested against values
already clamped. -/
def clampSettings (r : Settings) : Settings :=
  let refresh := clampRefresh r.refreshPeriod
  let stale := clampTo 2 15 r.staleLimit
  let rated := min r.cRated 65534
  let fMin := min r.fMin rated
  let turbineLimit := min r.turbineLimit 65534
  { r with
    cellTimeCode := clampCode 2 0 r.cellTimeCode
    refreshPeriod := refresh
    staleLimit := stale
    lostLimit := clampTo (stale + 1) 63 r.lostLimit
    scanPeriod := clampTo 100 2000 r.scanPeriod
    invalidLimit := clampTo 1 15 r.invalidLimit
    sampleRateCode := clampCode 3 2 r.sampleRateCode
    capacityStep := clampTo 1 1000 r.capacityStep
    demandStep := clampTo 1 1000 r.demandStep
    table := r.table.map fun p => { p with temperature := min p.temperature 4000 }
    windows := r.windows.map fun w => { w with hysteresis := max w.hysteresis 0 }
    cRated := rated
    derateStep := clampTo 1 1000 r.derateStep
    recoverySpan := max 1 r.recoverySpan
    fMin := fMin
    tripFlow := clampTo fMin 65534 r.tripFlow
    rampUp := clampTo 1 65534 r.rampUp
    rampDown := clampTo 1 65534 r.rampDown
    tripRamp := clampTo 1 65534 r.tripRamp
    sharePeriod := min (clampTo 100 1000 r.sharePeriod) refresh
    startTimeout := clampTo 5 120 r.startTimeout
    stopTimeout := clampTo 5 120 r.stopTimeout
    warmUp := min r.warmUp 600
    recallBase := clampTo 2 600 r.recallBase
    recallStep := clampTo 1 60 r.recallStep
    rank := r.rank.map fun v => min v 31
    replyWindow := clampTo 200 5000 r.replyWindow
    grantHold := clampTo 1 60 r.grantHold
    refusedHoldOff := clampTo 5 600 r.refusedHoldOff
    reserve := min r.reserve 65534
    kp := min r.kp 4095
    ki := min r.ki 4095
    turbineLimit := turbineLimit
    initialIntegrator := min r.initialIntegrator turbineLimit
    pTripHys := min r.pTripHys r.pTrip
    supplySetpoint := min r.supplySetpoint 4000
    silicaMargin := min r.silicaMargin 1000
    outletFloor := min r.outletFloor 4000
    minimumDrop := clampTo 1 1000 r.minimumDrop
    dropHysteresis := min r.dropHysteresis 500
    specificHeat := clampTo 300 450 r.specificHeat
    exchangeLimit := min r.exchangeLimit 65534
    defaultSilica := min r.defaultSilica 2000
    attentionThreshold := clampTo 1 7 r.attentionThreshold
    levels := r.levels.map fun v => min v 7
    doseWidth0 := max 1 r.doseWidth0
    doseWidth1 := max 1 r.doseWidth1 }

/-- The clampable single fields of a settings record. -/
def scalarFields (c : Settings) : List Nat :=
  [c.cellTimeCode, c.refreshPeriod, c.staleLimit, c.lostLimit, c.scanPeriod, c.invalidLimit, c.sampleRateCode, c.capacityStep,
   c.demandStep, c.cRated, c.derateStep, c.recoverySpan, c.fMin, c.tripFlow, c.rampUp, c.rampDown, c.tripRamp, c.sharePeriod,
   c.startTimeout, c.stopTimeout, c.warmUp, c.recallBase, c.recallStep, c.rank.getD 0, c.replyWindow, c.grantHold,
   c.refusedHoldOff, c.reserve, c.kp, c.ki, c.turbineLimit, c.initialIntegrator, c.pTripHys, c.supplySetpoint, c.silicaMargin,
   c.outletFloor, c.minimumDrop, c.dropHysteresis, c.specificHeat, c.exchangeLimit, c.defaultSilica, c.attentionThreshold,
   c.doseWidth0, c.doseWidth1]

/-- Every clampable field of a settings record, as integers: the single ones, each T_k, each hysteresis, each level. -/
def clampableFields (c : Settings) : List Int :=
  (scalarFields c).map (fun n => (n : Int)) ++ c.table.map (fun p => (p.temperature : Int)) ++
    c.windows.map (·.hysteresis) ++ c.levels.map (fun n => (n : Int))

/-- The number of fields that differ. -/
def differences : List Int → List Int → Nat
  | a :: as, b :: bs => (if a = b then 0 else 1) + differences as bs
  | _, _ => 0

/-- The clamped-field count of an image: one for each field a clamp changes, saturating at 255 (R183). -/
def clampCount (raw : Settings) : Nat := min 255 (differences (clampableFields raw) (clampableFields (clampSettings raw)))

/-! ### The checks (R182) -/

/-- The sum of an image's words, each two octets low octet first. -/
def wordSum : List Octet → Nat
  | lo :: hi :: rest => number16 lo hi + wordSum rest
  | [o] => o.toNat
  | [] => 0

/-- The table passes check 7: every S_k at most 2000, strictly rising (R69, R182). -/
def tableGood : List TablePoint → Bool
  | a :: b :: rest => decide (a.silica ≤ 2000 ∧ a.silica < b.silica) && tableGood (b :: rest)
  | [a] => decide (a.silica ≤ 2000)
  | [] => true

/-- A source that no channel can be bound to (R174). -/
def unbindable (source : Nat) : Bool :=
  decide (36 < source) || source == 3 || source == 23 || decide (33 ≤ source ∧ source ≤ 36)

/-- The record of channel n at 260 + 4n passes check 9 (R174, R182). -/
def channelGood (img : List Octet) (role : Option Role) (n : Nat) : Bool :=
  let at_ := 260 + 4 * n
  let source := imageOctet img at_
  source == 0 ||
    (!unbindable source &&
      match modeOfCode (imageOctet img (at_ + 2)) with
      | some m => !(m == .derate && role != some .well)
      | none => false)

/-- The fault code of the image's checks in their order, 0 for a good image (R182). -/
def imageFault (img : List Octet) (roleCode : Nat) : Nat :=
  if wordSum img % 65536 ≠ 0 then 4
  else if imageOctet img 0 ≠ 1 then 5
  else if imageOctet img 1 ≠ roleCode then 6
  else if !tableGood (imageTable img) then 7
  else if !(imageWindows img).all (fun w => decide (w.quantity < quantityCount (roleOfCode roleCode))) then 8
  else if !(List.range 4).all (channelGood img (roleOfCode roleCode)) then 9
  else 0

/-! ### Completion of the load (R184) -/

/-- A subject filter octet: 255 is ANY (R193, R194). -/
def filterOf (v : Nat) : Option Nat := if v = 255 then none else some v

/-- A count octet: 0 means 256 (R174, R179). -/
def countOf (v : Nat) : Nat := if v = 0 then 256 else v

/-- A channel as the image binds it (R174). -/
def imageChannel (img : List Octet) (n : Nat) : Channel :=
  let at_ := 260 + 4 * n
  if imageOctet img at_ = 0 then Channel.unbound
  else
    { source := some (imageOctet img at_), filter := filterOf (imageOctet img (at_ + 1))
      mode := (modeOfCode (imageOctet img (at_ + 2))).getD .count, count := countOf (imageOctet img (at_ + 3)) }

/-- The settings of every block take their loaded values, with the values a load sets (R72, R140, R154, R174, R183, R184; the
normal target, log 13). R184 names no role for the integrator, and 08_turbine_supply_station.md has SRG hold its hard-reset values
in WELL and EXCHANGE stations: the model sets 256 x I0 in every role (DESIGN CHOICE, log 35). -/
def takeSettings (s : State) : State :=
  let raw := rawSettings s.stl.image
  let c := clampSettings raw
  { s with
    settings := c
    stl := { s.stl with loadState := .loaded, clamped := clampCount raw }
    srg := { s.srg with integrator := 256 * c.initialIntegrator }
    xcp := { s.xcp with sMix := c.defaultSilica }
    dtu := { s.dtu with normalTarget := c.fMin }
    evu := { s.evu with channels := slotMap (fun n _ => imageChannel s.stl.image n) s.evu.channels } }

/-- The receive side and the sample link start to work (R7, R13, R59, R72, R184). -/
def startLinks (s : State) : State :=
  let s := rxHunt s
  { s with
    lif := { s.lif with quiet := if s.pins.lineDominant then .cleared else .running 0 }
    msu := { s.msu with
      gathered := [], idleReached := true, awaitHigh := false, windows := slotMap (fun _ _ => .unknown) s.msu.windows } }

/-- The completion of the image load (R184): the settings, the links, JOINING with the join timer, and in a TURBINE station the
test of the filtered TRIP_IN at that entry (R147, R148). -/
def completeLoad (s : State) : State :=
  let s := enterJoining (startLinks (takeSettings s))
  if hasRole s .turbine && s.srg.tripIn then enterTripped .tripIn s else s

/-! ### Reading the image (R180, R181) -/

/-- Replaces the loader. -/
def setStl (l : Loader) (s : State) : State := { s with stl := l }

/-- The load ends with a fault code (R180, R181, R182). -/
def faultLoad (code : Nat) (s : State) : State := setStl { s.stl with loadState := .faulted, faultCode := code } s

/-- A load begins: the straps are read, the fault code and the clamped-field count are 0, and transfer 0 begins, or role code 3
faults with code 1 and no image is read (R180, R182, R183, R189). What the bus still has to finish goes before the transfer. -/
def beginLoad (sn : BitVec 5) (role : BitVec 2) (s : State) : State :=
  let s := { s with
    pins := { s.pins with sn := sn, roleStrap := role }
    stl := { s.stl with
      loadState := .reading, faultCode := 0, station := sn, roleCode := role, clamped := 0, transfer := 0, failedTries := 0
      waitDue := false, retryWait := .stopped, image := [], bus := s.stl.bus ++ (if role = 3 then [] else transferSymbols 0) } }
  if role = 3 then faultLoad 1 s else s

/-- STL is reading the image in OFFLINE (R181). -/
def isReading (s : State) : Bool :=
  !s.pins.resetLow && s.frh.lineState == .offline && s.stl.loadState == .reading

/-- A try of a transfer is under way: no failed try is being ended or waited out. -/
def tryUnderWay (s : State) : Bool := isReading s && s.stl.retryWait == .stopped && !s.stl.waitDue

/-- The bus begins with what is given; a symbol starts in its first phase. -/
def withBus (symbols : List BusSymbol) (l : Loader) : Loader := { l with bus := symbols, busAt := 0 }

/-- The stop condition that ends a try, when CSDA allows it (R181). -/
def stopIf (stopPossible : Bool) : List BusSymbol := if stopPossible then [.stop] else []

/-- A transfer in progress ends with the octet being clocked, and then with a stop condition when CSDA allows it (R189). A start
condition not yet made is not made, and a stop condition being made is finished. -/
def endTransfer (stopPossible : Bool) (l : Loader) : Loader :=
  match l.bus, l.busAt with
  | [], _ => withBus [] l
  | .start :: _, 0 => withBus [] l
  | .stop :: _, _ => { l with bus := [.stop] }
  | b :: _, _ => { l with bus := b :: stopIf stopPossible }

/-- The memory leaves an octet unacknowledged: the ninth clock of an octet STL sends has been given (R181). The octet that a RESTART
lets end, with a stop or a start condition behind it, belongs to no try (R189). -/
def acknowledgeMissing (l : Loader) : Bool :=
  match l.bus with
  | .octet _ :: next :: _ => l.busAt == acknowledgePhase && next != .start && next != .stop
  | _ => false

/-- The 10 ms wait after a failed try begins once nothing of the try is left on the bus: behind its stop condition, or at once
where it has none (R181). -/
def beginWait (l : Loader) : Loader :=
  if l.waitDue && l.bus.isEmpty then { l with waitDue := false, retryWait := .running 10 } else l

/-- The bus moves on by one phase of the symbol being clocked; the wait after a failed try begins behind its last symbol. -/
def busAdvance (l : Loader) : Loader :=
  match l.bus with
  | [] => l
  | b :: rest => if l.busAt + 1 < b.levels.length then { l with busAt := l.busAt + 1 } else beginWait (withBus rest l)

/-- The tenth transfer is done and the image is checked (R182). -/
def checkImage (s : State) : State :=
  let code := imageFault s.stl.image s.stl.roleCode.toNat
  if code = 0 then completeLoad s else faultLoad code s

/-- A transfer succeeds (R181): its octets are taken, and the next transfer begins with three tries. -/
def transferDone (octets : List Octet) (s : State) : State :=
  let l : Loader := { s.stl with image := s.stl.image ++ octets, failedTries := 0, stopSent := true }
  let next := s.stl.transfer + 1
  if s.stl.transfer < 9 then setStl (withBus (transferSymbols next) { l with transfer := next }) s
  else checkImage (setStl (withBus [] l) s)

/-- A try fails (R181): a stop condition if CSDA allows it; the third failure faults with the code, another waits 10 ms once the
stop condition has gone over the bus. -/
def tryFails (code : Nat) (stopPossible : Bool) (s : State) : State :=
  let s := { s with pins := { s.pins with stopPossible := stopPossible } }
  let l : Loader :=
    withBus (stopIf stopPossible) { s.stl with failedTries := s.stl.failedTries + 1, stopSent := stopPossible }
  if 3 ≤ l.failedTries then faultLoad code (setStl l s) else setStl (beginWait { l with waitDue := true }) s

/-! ### The commands of this file -/

/-- HARD_RESET (R190): every block takes its hard-reset state. The input pins keep their levels and the waiting commands wait. -/
def execHardReset (s : State) : Host.Outcome State Fault Refusal :=
  .next { State.reset with pins := { s.pins with resetLow := true }, pending := s.pending }

/-- The panel port at the release of RESET (R186, R190). -/
def releasePanel (s : State) : State :=
  { s with pnp := { s.pnp with phase := if s.pins.pcsLow then .discard else .idle } }

/-- RESET_RELEASE (R180, R190). -/
def execResetRelease (sn : BitVec 5) (role : BitVec 2) (s : State) : Host.Outcome State Fault Refusal :=
  .next
    (if s.pins.resetLow then
      beginLoad sn role (releasePanel { s with pins := { s.pins with resetLow := false } })
     else s)

/-- IMAGE_TRANSFER_DONE (R181, R182, R184): everything of the try has gone over the bus. -/
def execImageTransferDone (octets : List Octet) (s : State) : Host.Outcome State Fault Refusal :=
  .next (if tryUnderWay s && s.stl.bus.isEmpty && octets.length == 32 then transferDone octets s else s)

/-- ADDRESS_NOT_ACKNOWLEDGED (R181): fault code 2 after the third try. -/
def execAddressNotAcknowledged (stopPossible : Bool) (s : State) : Host.Outcome State Fault Refusal :=
  .next (if tryUnderWay s && acknowledgeMissing s.stl then tryFails 2 stopPossible s else s)

/-- HELD_LINE_TIMEOUT (R181): fault code 3 after the third try. DESIGN CHOICE (log 42): a line held while the octet or the stop
condition that a RESTART in OFFLINE ends is still on the bus fails the first try of the new load. R189 gives it no effect. -/
def execHeldLineTimeout (stopPossible : Bool) (s : State) : Host.Outcome State Fault Refusal :=
  .next (if tryUnderWay s && !s.stl.bus.isEmpty then tryFails 3 stopPossible s else s)

/-- RETRY_WAIT_END (R181): the same transfer is tried again from its start. The wait begins behind a stop condition, so nothing is
on the bus. -/
def execRetryWaitEnd (s : State) : Host.Outcome State Fault Refusal :=
  .next (if isReading s && s.stl.retryWait != .stopped && s.stl.bus.isEmpty then
      setStl (withBus (transferSymbols s.stl.transfer) { s.stl with retryWait := .stopped }) s
    else s)

end Sys2Proof.Machine
end

