-- ==== Sys2Proof/WellFormed.lean ====
section
/-! DEFINITION. Which commands the device's sides can deliver. -/

namespace Sys2Proof

/-- The eleven command codes of R194. -/
def panelCodes : List Octet := [0x01, 0x02, 0x03, 0x04, 0x05, 0x06, 0x10, 0x11, 0x12, 0x13, 0x1F]

/-- A command is well formed when its operands lie where the rule of its row puts them:
a transfer has 32 octets (R181), a frame completes with at most 36 octets (R15, reason 4 comes first),
a malformed report has a reason 1..5 (R15), a grant entry's asker is a station number (R134),
an unknown command is none of the eleven codes (R187), and a stretch between two transitions is not empty (R13). -/
def Instr.wellFormed : Instr → Bool
  | .hardReset => true
  | .resetRelease _ _ => true
  | .imageTransferDone octets => octets.length == 32
  | .addressNotAcknowledged _ => true
  | .heldLineTimeout _ => true
  | .retryWaitEnd => true
  | .joinExpiry => true
  | .refreshTick => true
  | .shareTick => true
  | .scanTick => true
  | .quietGapExpiry => true
  | .attemptSent => true
  | .attemptFailed _ => true
  | .headerArrival _ _ _ => true
  | .frameComplete octets _ => decide (octets.length ≤ 36)
  | .frameMalformed reason => decide (1 ≤ reason ∧ reason ≤ 5)
  | .sampleOctet _ => true
  | .framingFault => true
  | .partialWordDiscard => true
  | .runAckRising => true
  | .runAckFalling => true
  | .tripInActive => true
  | .tripInInactive => true
  | .startTimeout => true
  | .warmUpExpiry => true
  | .stopTimeout => true
  | .recallExpiry => true
  | .replyWindowExpiry => true
  | .grantHoldExpiry asker => decide (asker ≤ 31)
  | .holdOffExpiry => true
  | .dosePulseEnd _ => true
  | .setpointWordEnd => true
  | .pcsFall => true
  | .pcsRise => true
  | .status => true
  | .take => true
  | .readRow _ => true
  | .readQuantity _ => true
  | .readChannel _ => true
  | .bind _ _ _ _ _ => true
  | .rest => true
  | .wake => true
  | .faultClear => true
  | .releaseTrip _ => true
  | .restart _ _ _ => true
  | .unknownCommand code => !panelCodes.contains code
  | .lineTransition _ stretch => decide (0 < stretch)
  | .markRecessiveTimeout => true
  | .cutAttemptEnd => true
  | .panelOctetComplete _ => true
  | .smpInReleased => true

end Sys2Proof
end

