-- ==== Sys2Proof/Machine/Panel.lean ====
section
/-! DEFINITION. The panel port (11_panel_port_configuration_and_start.md, R186 to R189; layouts of 12_formats.md, R194 and R195),
with PCS_FALL, PCS_RISE, PANEL_OCTET_COMPLETE, the eleven commands and UNKNOWN_COMMAND. -/

namespace Sys2Proof.Machine

/-! ### The transaction (R186) -/

/-- Replaces the panel port's state. -/
def setPnp (p : Pnp) (s : State) : State := { s with pnp := p }

/-- The argument octets of a command code (R187); a code that is none of the eleven has none. -/
def argumentCount (code : Octet) : Nat :=
  if code = 0x06 then 5 else if code = 0x03 ∨ code = 0x04 ∨ code = 0x05 ∨ code = 0x13 then 1 else 0

/-- A response of fixed length: the result code, its content, and 0 after it (R186, R195). -/
def responseOctets (length : Nat) (r : Result) (content : List Octet) : List Octet :=
  ((octetOf r.code :: content) ++ List.replicate length 0).take length

/-- PNP has formed the whole response and moves to RESPONSE; the turnaround octet is still to be clocked (R186). -/
def respond (response : List Octet) (ending : EndEffect) (s : State) : State :=
  setPnp { phase := .response true response ending, pdo := 0 } s

/-- Answers with a result and its content, and no effect at the end of the transaction. -/
def answer (length : Nat) (r : Result) (content : List Octet) (s : State) : State :=
  respond (responseOctets length r content) .nothing s

/-- The command `code` can be taken now: a transaction is in COMMAND, or in ARGUMENTS of that command (R186, log 17). -/
def takeable (code : Octet) (s : State) : Bool :=
  !s.pins.resetLow &&
    match s.pnp.phase with
    | .command => true
    | .arguments c _ => c == code
    | _ => false

/-- The table of R187: the command is served in the line state. -/
def served (code : Octet) (l : LineState) : Bool :=
  match l with
  | .offline => code == 0x01 || code == 0x02 || code == 0x04 || code == 0x1F
  | .listenOnly => code != 0x10
  | .joining => true
  | .active => true

/-- Step 2 of R187: a command not served in the line state is answered REFUSED_STATE; another goes to its rule. -/
def ifServed (code : Octet) (length : Nat) (s : State) (owner : State → State) : State :=
  if served code s.frh.lineState then owner s else answer length .refusedState [] s

/-! ### STATUS (R170, R188, R195) -/

/-- A field of a role: 0 in a station of another role (R188). -/
def roleField (s : State) (r : Role) (v : Nat) : Nat := if hasRole s r then v else 0

/-- The content of the STATUS response after its result (R195). -/
def statusContent (s : State) : List Octet :=
  [octetOf s.frh.lineState.code, octetOf s.stl.loadState.code, octetOf s.stl.faultCode, octetOf (ownNumber s),
   octetOf s.stl.roleCode.toNat, octetOf s.stl.clamped, octetOf (statusFlags s), octetOf s.evu.queue.length,
   octetOf s.evu.dropped] ++
  octets16 s.evu.refreshCount ++
  [octetOf (roleField s .well s.dtu.duty.code), octetOf (roleField s .well (tripSetSize s)),
   octetOf (roleField s .turbine (if s.srg.trip = .normal then 0 else 1)), octetOf (roleField s .turbine (tripCauseCode s)),
   octetOf (roleField s .exchange (if s.xcp.isolated then 1 else 0))]

/-- STATUS is taken (R188); its whole transaction lowers the dropped count by the value reported (R170). -/
def takeStatus (s : State) : State :=
  respond (responseOctets 17 .done (statusContent s)) (.lowerDropped s.evu.dropped) s

/-- STATUS. -/
def execStatus (s : State) : Host.Outcome State Fault Refusal := .next (if takeable 0x01 s then takeStatus s else s)

/-! ### TAKE (R171, R172) -/

/-- The entry of highest level, the oldest of that level (R171). -/
def mostUrgent : List QueueEntry → Option QueueEntry
  | [] => none
  | e :: es =>
    match mostUrgent es with
    | some best => if e.level < best.level then some best else some e
    | none => some e

/-- The content of the TAKE response after its result (R195). -/
def takeContent (e : QueueEntry) (entries : Nat) : List Octet :=
  [octetOf e.source, octetOf e.level, octetOf (e.subject.getD 0)] ++ octets16 (e.detail.getD 0) ++ [octetOf e.repeatCount] ++
    octets16 e.stamp ++ [octetOf entries, octetOf (flagBit e.subject.isSome 0 + flagBit e.detail.isSome 1)]

/-- Two entries hold the same source and subject; no two of a queue do (law 6). -/
def sameEntry (a b : QueueEntry) : Bool := a.source == b.source && a.subject == b.subject

/-- Marks the chosen entry as in delivery, with late count 0 (R171). -/
def markDelivery (chosen : QueueEntry) (q : List QueueEntry) : List QueueEntry :=
  q.map fun e => if sameEntry e chosen then { e with delivery := some 0 } else e

/-- TAKE is taken (R171). -/
def takeTake (s : State) : State :=
  match mostUrgent s.evu.queue with
  | some e =>
    respond (responseOctets 11 .done (takeContent e s.evu.queue.length)) .settleTake (setQueue (markDelivery e s.evu.queue) s)
  | none => answer 11 .empty [] s

/-- TAKE. -/
def execTake (s : State) : Host.Outcome State Fault Refusal := .next (if takeable 0x02 s then takeTake s else s)

/-- What becomes of an entry when a transaction ends (R172): the mark is cleared, and an entry in delivery whose response was
whole is removed, or left with its late count. -/
def settledEntry (whole : Bool) (e : QueueEntry) : Option QueueEntry :=
  match e.delivery, whole with
  | some 0, true => none
  | some (n + 1), true => some { e with repeatCount := n + 1, delivery := none }
  | _, _ => some { e with delivery := none }

/-- Settles the entry in delivery (R172). -/
def settleDelivery (whole : Bool) (s : State) : State := setQueue (s.evu.queue.filterMap (settledEntry whole)) s

/-! ### READ ROW (R57, R195) -/

/-- Two octets of a field of a present part, 65535 for not valid. -/
def validOr (v : Option Nat) : List Octet := octets16 (v.getD 65535)

/-- The octets of a row's well part: duty, C, F and S; zeros for an absent part (R195). -/
def wellOctets : Option WellPart → List Octet
  | none => List.replicate 7 0
  | some w => [octetOf ((w.duty.map Duty.code).getD 255)] ++ validOr w.capacity ++ validOr w.flow ++ validOr w.silica

/-- The octets of a row's demand part; zeros for an absent part (R195). -/
def demandOctets : Option DemandPart → List Octet
  | none => List.replicate 3 0
  | some d => validOr d.demand ++ [octetOf d.cause]

/-- The content of the READ ROW response after its result (R195). -/
def rowContent (r : PeerRow) : List Octet :=
  [octetOf r.condition.code, octetOf ((r.role.map Role.code).getD 255), octetOf r.age, r.lastSeq.getD 0,
   octetOf (flagBit r.lastSeq.isSome 0 + flagBit r.well.isSome 1 + flagBit r.demand.isSome 2)] ++
    wellOctets r.well ++ demandOctets r.demand

/-- READ ROW is taken (R57). -/
def takeReadRow (station : Octet) (s : State) : State :=
  ifServed 0x03 16 s fun s =>
    if 31 < station.toNat ∨ station.toNat = ownNumber s then answer 16 .badArgument [] s
    else answer 16 .done (rowContent (rowOf s station.toNat)) s

/-- READ_ROW. -/
def execReadRow (station : Octet) (s : State) : Host.Outcome State Fault Refusal :=
  .next (if takeable 0x03 s then takeReadRow station s else s)

/-! ### READ QUANTITY (R75, R195) -/

/-- The content of the READ QUANTITY response after its result (R195); only a measured quantity has a held count. -/
def quantityContent (kind : QuantityKind) (q : Quantity) : List Octet :=
  [octetOf kind.code, octetOf q.validity.code] ++ octets32 q.value ++
    [octetOf (if kind = .measured then q.heldCount else 0)]

/-- READ QUANTITY is taken (R75). -/
def takeReadQuantity (quantity : Octet) (s : State) : State :=
  ifServed 0x04 8 s fun s =>
    if quantity.toNat < quantityCount (roleOf s) then
      answer 8 .done (quantityContent (quantityKind (roleOf s) quantity.toNat) (quantityOf s quantity.toNat)) s
    else answer 8 .badArgument [] s

/-- READ_QUANTITY. -/
def execReadQuantity (quantity : Octet) (s : State) : Host.Outcome State Fault Refusal :=
  .next (if takeable 0x04 s then takeReadQuantity quantity s else s)

/-! ### READ CHANNEL (R76, R195) -/

/-- The content of the READ CHANNEL response after its result (R195). -/
def channelContent (s : State) (channel : Nat) : List Octet :=
  let l := latchOf s channel
  [octetOf (flagBit l.pending.isSome 0 + flagBit l.last.isSome 1 + flagBit (decide (channel < mappedChannels (roleOf s))) 2)] ++
    octets16 (l.pending.getD 0) ++ octets16 (l.last.getD 0) ++
    [octetOf l.refusedCount, octetOf ((l.lastRefusal.map Refused.code).getD 0), octetOf s.msu.rejected,
     octetOf ((s.msu.lastRejection.map Rejection.code).getD 0)]

/-- READ CHANNEL is taken (R76). -/
def takeReadChannel (channel : Octet) (s : State) : State :=
  ifServed 0x05 10 s fun s =>
    if 7 < channel.toNat then answer 10 .badArgument [] s else answer 10 .done (channelContent s channel.toNat) s

/-- READ_CHANNEL. -/
def execReadChannel (channel : Octet) (s : State) : Host.Outcome State Fault Refusal :=
  .next (if takeable 0x05 s then takeReadChannel channel s else s)

/-! ### BIND (R179, R195) -/

/-- A channel's binding as BIND reports it (R195). -/
def bindingOctets (c : Channel) : List Octet :=
  [octetOf (c.source.getD 0), octetOf (c.filter.getD 255), octetOf c.mode.code] ++ octets16 c.count

/-- The table of R179: the result of a BIND and, where it is DONE, what the channel then holds. -/
def bindCase (s : State) (channel source filter mode count : Nat) : Result × Option Channel :=
  if 3 < channel then (.badArgument, none)
  else if source ≠ 0 ∧ unbindable source then (.badArgument, none)
  else
    match modeOfCode mode with
    | none => (.badArgument, none)
    | some m =>
      if m = .derate ∧ !hasRole s .well then (.refusedRole, none)
      else if source = 0 then
        (.done, some { slotGet s.evu.channels channel Channel.unbound with source := none, count := 0 })
      else (.done, some { source := some source, filter := filterOf filter, mode := m, count := countOf count })

/-- What BIND reports: the channel as it stood just before, or zeros where the number names no channel (R179, R195). -/
def formerBinding (s : State) (channel : Nat) : List Octet :=
  if 3 < channel then [] else bindingOctets (slotGet s.evu.channels channel Channel.unbound)

/-- Puts the binding of a BIND that is answered DONE. -/
def rebind (channel : Nat) (new : Option Channel) (s : State) : State :=
  match new with
  | some c => setChannel channel c s
  | none => s

/-- BIND is taken (R179). -/
def takeBind (channel source filter mode count : Octet) (s : State) : State :=
  ifServed 0x06 6 s fun s =>
    let r := bindCase s channel.toNat source.toNat filter.toNat mode.toNat count.toNat
    answer 6 r.1 (formerBinding s channel.toNat) (rebind channel.toNat r.2 s)

/-- BIND. -/
def execBind (channel source filter mode count : Octet) (s : State) : Host.Outcome State Fault Refusal :=
  .next (if takeable 0x06 s then takeBind channel source filter mode count s else s)

/-! ### The operator's commands (R97, R115, R116, R117) -/

/-- REST is taken (R116). -/
def takeRest (s : State) : State :=
  ifServed 0x10 1 s fun s =>
    if !hasRole s .well then answer 1 .refusedRole [] s
    else if s.dtu.duty = .on then answer 1 .done [] (enterAsking s)
    else answer 1 .refusedState [] s

/-- REST. -/
def execRest (s : State) : Host.Outcome State Fault Refusal := .next (if takeable 0x10 s then takeRest s else s)

/-- WAKE is taken (R115). -/
def takeWake (s : State) : State :=
  ifServed 0x11 1 s fun s =>
    if !hasRole s .well then answer 1 .refusedRole [] s
    else if s.dtu.duty = .resting ∧ !s.dtu.runAck then answer 1 .done [] (takeDuty .starting [] s)
    else if s.dtu.duty = .asking then answer 1 .done [] (takeDuty .on [] s)
    else answer 1 .refusedState [] s

/-- WAKE. -/
def execWake (s : State) : Host.Outcome State Fault Refusal := .next (if takeable 0x11 s then takeWake s else s)

/-- FAULT CLEAR is taken (R117). -/
def takeFaultClear (s : State) : State :=
  ifServed 0x12 1 s fun s =>
    if !hasRole s .well then answer 1 .refusedRole [] s
    else if s.dtu.duty = .fault ∧ !s.dtu.runAck then answer 1 .done [] (takeDuty .resting [] s)
    else answer 1 .refusedState [] s

/-- FAULT_CLEAR. -/
def execFaultClear (s : State) : Host.Outcome State Fault Refusal :=
  .next (if takeable 0x12 s then takeFaultClear s else s)

/-- RELEASE TRIP is taken (R97). -/
def takeReleaseTrip (station : Octet) (s : State) : State :=
  ifServed 0x13 1 s fun s =>
    if !hasRole s .well then answer 1 .refusedRole [] s
    else if 31 < station.toNat ∨ station.toNat = ownNumber s then answer 1 .badArgument [] s
    else if inTripSet s station.toNat then answer 1 .done [] (removeTrip station.toNat 3 s)
    else answer 1 .refusedState [] s

/-- RELEASE_TRIP. -/
def execReleaseTrip (station : Octet) (s : State) : Host.Outcome State Fault Refusal :=
  .next (if takeable 0x13 s then takeReleaseTrip station s else s)

/-! ### RESTART (R189) -/

/-- RESTART in OFFLINE: a try under way ends, with a stop condition when CSDA allows it, and the load starts again. -/
def restartOffline (sn : BitVec 5) (role : BitVec 2) (stopPossible : Bool) (s : State) : State :=
  let s := { s with pins := { s.pins with stopPossible := stopPossible } }
  let s := if tryUnderWay s then setStl { s.stl with stopSent := stopPossible } s else s
  beginLoad sn role (setStl (endTransfer stopPossible s.stl) s)

/-- RESTART outside OFFLINE, its four steps in order. -/
def restartOnline (s : State) : State :=
  let s := setGrants [] (setAsk .idle s)
  let s := enterJoining (clearView s)
  if s.dtu.duty = .asking then takeDuty .on [] s else s

/-- RESTART is taken (R189). -/
def takeRestart (sn : BitVec 5) (role : BitVec 2) (stopPossible : Bool) (s : State) : State :=
  answer 1 .done []
    (if s.frh.lineState = .offline then restartOffline sn role stopPossible s else restartOnline s)

/-- RESTART. -/
def execRestart (sn : BitVec 5) (role : BitVec 2) (stopPossible : Bool) (s : State) : Host.Outcome State Fault Refusal :=
  .next (if takeable 0x1F s then takeRestart sn role stopPossible s else s)

/-! ### UNKNOWN_COMMAND and the octets of a transaction (R186, R187) -/

/-- An unknown command octet is answered UNKNOWN_COMMAND (R187). -/
def takeUnknown (s : State) : State := answer 1 .unknownCommand [] s

/-- UNKNOWN_COMMAND. -/
def execUnknownCommand (code : Octet) (s : State) : Host.Outcome State Fault Refusal :=
  .next (if takeable code s && !panelCodes.contains code then takeUnknown s else s)

/-- The command of a code octet is taken with its argument octets (R187). RESTART meets the straps and CSDA as last seen
(log 18). -/
def takeCommand (code : Octet) (arguments : List Octet) (s : State) : State :=
  let a := arguments.getD 0 0
  if code = 0x01 then takeStatus s
  else if code = 0x02 then takeTake s
  else if code = 0x03 then takeReadRow a s
  else if code = 0x04 then takeReadQuantity a s
  else if code = 0x05 then takeReadChannel a s
  else if code = 0x06 then
    takeBind a (arguments.getD 1 0) (arguments.getD 2 0) (arguments.getD 3 0) (arguments.getD 4 0) s
  else if code = 0x10 then takeRest s
  else if code = 0x11 then takeWake s
  else if code = 0x12 then takeFaultClear s
  else if code = 0x13 then takeReleaseTrip a s
  else if code = 0x1F then takeRestart s.pins.sn s.pins.roleStrap s.pins.stopPossible s
  else takeUnknown s

/-- An octet completes (R186): the command octet, an argument octet, the turnaround octet, a response octet, or nothing. -/
def panelOctet (pdi : Octet) (s : State) : State :=
  match s.pnp.phase with
  | .idle => s
  | .discard => s
  | .command =>
    if argumentCount pdi = 0 then takeCommand pdi [] s else setPnp { phase := .arguments pdi [], pdo := 0 } s
  | .arguments code got =>
    if got.length + 1 < argumentCount code then setPnp { phase := .arguments code (got ++ [pdi]), pdo := 0 } s
    else takeCommand code (got ++ [pdi]) s
  | .response true rest ending => setPnp { phase := .response false rest ending, pdo := 0 } s
  | .response false (o :: rest) ending => setPnp { phase := .response false rest ending, pdo := o } s
  | .response false [] ending => setPnp { phase := .response false [] ending, pdo := 0 } s

/-- PANEL_OCTET_COMPLETE (R186); while RESET is low the port ignores its pins (R190). -/
def execPanelOctetComplete (pdi : Octet) (s : State) : Host.Outcome State Fault Refusal :=
  .next (if s.pins.resetLow then s else panelOctet pdi s)

/-! ### PCS (R186) -/

/-- The level of PCS is followed in every state (log 5). -/
def setPcs (low : Bool) (s : State) : State := { s with pins := { s.pins with pcsLow := low } }

/-- PCS_FALL: IDLE moves to COMMAND. -/
def execPcsFall (s : State) : Host.Outcome State Fault Refusal :=
  let t := setPcs true s
  .next (if !s.pins.resetLow && s.pnp.phase == .idle then setPnp { phase := .command, pdo := 0 } t else t)

/-- What the end of a transaction does (R170, R172, R186): a TAKE settles its entry, a whole STATUS lowers the dropped count. -/
def endTransaction (s : State) : State :=
  match s.pnp.phase with
  | .response turnaroundDue rest .settleTake => settleDelivery (!turnaroundDue && rest.isEmpty) s
  | .response false [] (.lowerDropped reported) => { s with evu := { s.evu with dropped := s.evu.dropped - reported } }
  | _ => s

/-- PCS_RISE: the transaction ends, the phase returns to IDLE and the pending response is emptied. -/
def execPcsRise (s : State) : Host.Outcome State Fault Refusal :=
  let t := setPcs false s
  .next (if s.pins.resetLow then t else setPnp { phase := .idle, pdo := 0 } (endTransaction t))

end Sys2Proof.Machine
end

