-- ==== Sys2Proof/Machine/Dispatch.lean ====
section
/-! DEFINITION. The dispatch: one arm for each command. -/

namespace Sys2Proof.Machine

def exec (i : Instr) (s : State) : Host.Outcome State Fault Refusal :=
  match i with
  | .hardReset => Sys2Proof.Machine.execHardReset s
  | .resetRelease sn role => Sys2Proof.Machine.execResetRelease sn role s
  | .imageTransferDone octets => Sys2Proof.Machine.execImageTransferDone octets s
  | .addressNotAcknowledged stopPossible => Sys2Proof.Machine.execAddressNotAcknowledged stopPossible s
  | .heldLineTimeout stopPossible => Sys2Proof.Machine.execHeldLineTimeout stopPossible s
  | .retryWaitEnd => Sys2Proof.Machine.execRetryWaitEnd s
  | .joinExpiry => Sys2Proof.Machine.execJoinExpiry s
  | .refreshTick => Sys2Proof.Machine.execRefreshTick s
  | .shareTick => Sys2Proof.Machine.execShareTick s
  | .scanTick => Sys2Proof.Machine.execScanTick s
  | .quietGapExpiry => Sys2Proof.Machine.execQuietGapExpiry s
  | .attemptSent => Sys2Proof.Machine.execAttemptSent s
  | .attemptFailed point => Sys2Proof.Machine.execAttemptFailed point s
  | .headerArrival h0 h1 h2 => Sys2Proof.Machine.execHeaderArrival h0 h1 h2 s
  | .frameComplete octets ownEcho => Sys2Proof.Machine.execFrameComplete octets ownEcho s
  | .frameMalformed reason => Sys2Proof.Machine.execFrameMalformed reason s
  | .sampleOctet octet => Sys2Proof.Machine.execSampleOctet octet s
  | .framingFault => Sys2Proof.Machine.execFramingFault s
  | .partialWordDiscard => Sys2Proof.Machine.execPartialWordDiscard s
  | .runAckRising => Sys2Proof.Machine.execRunAckRising s
  | .runAckFalling => Sys2Proof.Machine.execRunAckFalling s
  | .tripInActive => Sys2Proof.Machine.execTripInActive s
  | .tripInInactive => Sys2Proof.Machine.execTripInInactive s
  | .startTimeout => Sys2Proof.Machine.execStartTimeout s
  | .warmUpExpiry => Sys2Proof.Machine.execWarmUpExpiry s
  | .stopTimeout => Sys2Proof.Machine.execStopTimeout s
  | .recallExpiry => Sys2Proof.Machine.execRecallExpiry s
  | .replyWindowExpiry => Sys2Proof.Machine.execReplyWindowExpiry s
  | .grantHoldExpiry asker => Sys2Proof.Machine.execGrantHoldExpiry asker s
  | .holdOffExpiry => Sys2Proof.Machine.execHoldOffExpiry s
  | .dosePulseEnd output => Sys2Proof.Machine.execDosePulseEnd output s
  | .setpointWordEnd => Sys2Proof.Machine.execSetpointWordEnd s
  | .pcsFall => Sys2Proof.Machine.execPcsFall s
  | .pcsRise => Sys2Proof.Machine.execPcsRise s
  | .status => Sys2Proof.Machine.execStatus s
  | .take => Sys2Proof.Machine.execTake s
  | .readRow station => Sys2Proof.Machine.execReadRow station s
  | .readQuantity quantity => Sys2Proof.Machine.execReadQuantity quantity s
  | .readChannel channel => Sys2Proof.Machine.execReadChannel channel s
  | .bind channel source filter mode count => Sys2Proof.Machine.execBind channel source filter mode count s
  | .rest => Sys2Proof.Machine.execRest s
  | .wake => Sys2Proof.Machine.execWake s
  | .faultClear => Sys2Proof.Machine.execFaultClear s
  | .releaseTrip station => Sys2Proof.Machine.execReleaseTrip station s
  | .restart sn role stopPossible => Sys2Proof.Machine.execRestart sn role stopPossible s
  | .unknownCommand code => Sys2Proof.Machine.execUnknownCommand code s
  | .lineTransition dominant stretch => Sys2Proof.Machine.execLineTransition dominant stretch s
  | .markRecessiveTimeout => Sys2Proof.Machine.execMarkRecessiveTimeout s
  | .cutAttemptEnd => Sys2Proof.Machine.execCutAttemptEnd s
  | .panelOctetComplete pdi => Sys2Proof.Machine.execPanelOctetComplete pdi s
  | .smpInReleased => Sys2Proof.Machine.execSmpInReleased s

end Sys2Proof.Machine
end

