-- ==== Sys2Proof/Machine/Idle.lean ====
section
/-! DEFINITION. The step on an empty queue (log 2): the end of one half-cell on the field line, with LIF's echo check and the cells
of its receive side (01_field_line_signalling.md), one bit of SETPT and one phase of the configuration memory's bus. -/

namespace Sys2Proof.Machine

/-! ### Sending (R8 to R11) -/

/-- The point of a mismatch in a half-cell of a transmit state (R8). -/
def failPointOf : TxState → FailPoint
  | .data => .data
  | .check => .check
  | _ => .leadMark

/-- The echo check at the end of a half-cell (R8): a recessive half mismatches a dominant line. -/
def echoMismatch (h : HalfCell) (lineDominant : Bool) : Bool := !h.dominant && lineDominant

/-- The half-cell being sent ends (R6, R8, R12): a first mismatch leaves the attempt the rest of its cell, as does a cut. -/
def sendHalf (lineDominant : Bool) : TxSide → TxSide
  | .sending (h :: wave) cut none =>
    if echoMismatch h lineDominant then .sending (cutWave (h :: wave)).tail cut (some (failPointOf h.phase))
    else .sending wave cut none
  | .sending (_ :: wave) cut failed => .sending wave cut failed
  | t => t

/-- The attempt has ended, and its outcome or the end of its cut is due. -/
def attemptEnded : TxSide → Bool
  | .sending [] _ _ => true
  | _ => false

/-! ### Receiving (R14, R15) -/

/-- LIF's reasons at a completion (R14, R15): fewer than 5 octets, a failed CRC. -/
def lifReason (octets : List Octet) : Option Nat :=
  if octets.length < 5 then some 3
  else if crcPasses octets then none
  else some 5

/-- A data cell ends (R14, R15): after the 36th octet it is malformed; the eighth bit completes an octet, and the third octet is
the header's last. -/
def dataCellEnds (bit : Bool) (c : RxCells) : RxCells × Option RxReport :=
  if 36 ≤ c.octets.length then (c, some (.malformed 4))
  else if c.bits.length < 7 then ({ c with bits := c.bits ++ [bit] }, none)
  else
    ({ c with bits := [], octets := c.octets ++ [octetOfBits (c.bits ++ [bit])] },
      if c.octets.length = 2 then some .header else none)

/-- The report of a violation cell (R14, R15): a dominant one at an octet boundary is the closer. -/
def violationReport (dominant ownEcho : Bool) (c : RxCells) : RxReport :=
  if c.bits ≠ [] then .malformed 1
  else if !dominant then .malformed 2
  else
    match lifReason c.octets with
    | some r => .malformed r
    | none => .complete ownEcho

/-- A cell ends with its two halves (R4, R14). The first cell after the acceptance is the mark's, and is not counted (log 36). -/
def cellEnds (first second ownEcho : Bool) (c : RxCells) : RxCells × Option RxReport :=
  let c := { c with firstHalf := none }
  if c.markDue then ({ c with markDue := false }, none)
  else if first = second then (c, some (violationReport first ownEcho c))
  else dataCellEnds first c

/-- A half-cell ends on the line at a level (R14). -/
def hearHalf (dominant ownEcho : Bool) (c : RxCells) : RxCells × Option RxReport :=
  match c.firstHalf with
  | none => ({ c with firstHalf := some dominant }, none)
  | some first => cellEnds first dominant ownEcho c

/-! ### The half-cell -/

/-- The quiet-gap count at the end of a half-cell: a running one grows (R7). -/
def quietGrows : QuietCount → QuietCount
  | .running halfCells => .running (halfCells + 1)
  | q => q

/-- The receive side at the end of a half-cell: in DATA it hears it, and a frame that completes is an own echo when the transmit
side is in CLOSE (R14). -/
def hear (s : State) : RxCells × Option RxReport :=
  if works s && s.lif.rx == .data then hearHalf s.pins.lineDominant (txState s == .close) s.lif.cells
  else (s.lif.cells, s.lif.report)

/-- The field line at the end of a half-cell. -/
def halfCellEnds (s : State) : State :=
  { s with
    pins := { s.pins with lineSince := s.pins.lineSince + cellClocks s / 2 }
    lif := { s.lif with
      tx := sendHalf s.pins.lineDominant s.lif.tx, quiet := quietGrows s.lif.quiet, cells := (hear s).1, report := (hear s).2 } }

/-- An event of LIF is due at this moment, a report, an outcome or the beginning of an attempt: its command comes before the next
half-cell (log 37). -/
def lifEventDue (s : State) : Bool := s.lif.report.isSome || attemptEnded s.lif.tx || gapReached s

/-- The field line moves on by one half-cell, unless an event of LIF is due. -/
def lineAdvance (s : State) : State := if lifEventDue s then s else halfCellEnds s

/-- SETPT moves on to the next bit of its word; the last stop bit stands until SETPOINT_WORD_END. -/
def advanceSetpt : SetptLine → SetptLine
  | .sending octets (_ :: b :: bits) waiting => .sending octets (b :: bits) waiting
  | l => l

/-- What the block does while no command waits (log 2). -/
def idle (s : State) : State :=
  let t := lineAdvance s
  { t with dtu := { t.dtu with setpt := advanceSetpt t.dtu.setpt }, stl := busAdvance t.stl }

end Sys2Proof.Machine
end

