-- ==== Sys2Proof/Safety.lean ====
section
/-! DEFINITION. What counts as a safe state: the laws of R1, as predicates of one state, each with the conditions beside it that
make it survive every command. -/

namespace Sys2Proof.Machine

/-- Law 1: the setpoint never exceeds C_rated and is 0 in RESTING and FAULT (R88, R113). -/
abbrev Law1 (s : State) : Prop :=
  s.dtu.setpoint ≤ s.settings.cRated ∧ (s.dtu.duty = .resting ∨ s.dtu.duty = .fault → s.dtu.setpoint = 0)

/-- Law 2: C_own lies within 0..C_rated and equals C_rated minus the derate total (R78). -/
abbrev Law2 (s : State) : Prop :=
  s.dtu.derateTotal ≤ s.settings.cRated ∧ cOwn s + s.dtu.derateTotal = s.settings.cRated

/-- Law 3: in ON, ASKING and REFUSED the target lies within F_min..max(C_own, F_min), and does not exceed the trip flow while a
trip is in force (R81, R86). -/
abbrev Law3 (s : State) : Prop :=
  s.dtu.duty.runs = true →
    s.settings.fMin ≤ s.dtu.target ∧ s.dtu.target ≤ capacityCeiling s ∧
      (tripInForce s = true → s.dtu.target ≤ s.settings.tripFlow)

/-- The order that the clamps keep in every loaded image (R77): F_min ≤ trip flow and F_min ≤ C_rated. -/
abbrev FlowOrder (c : Settings) : Prop := c.fMin ≤ c.tripFlow ∧ c.fMin ≤ c.cRated

/-- No flow has been asked of the pump in OFFLINE, where nothing runs (R88, R102). -/
abbrev OfflineAtRest (s : State) : Prop :=
  s.frh.lineState = .offline →
    s.dtu.duty = .resting ∧ s.dtu.setpoint = 0 ∧ s.dtu.target = 0 ∧ s.dtu.derateTotal = 0 ∧ s.dtu.warmTimer = .stopped

/-- The handshake with the drive: which timers can run in which duty, and where RUN_REQ stands (R100, R104, R106, R114). -/
abbrev Handshake (s : State) : Prop :=
  (s.dtu.warmTimer ≠ .stopped →
    s.dtu.duty = .starting ∧ s.dtu.runReq = true ∧ s.dtu.startTimer = .stopped ∧ s.dtu.target = s.settings.fMin) ∧
  (s.dtu.startTimer ≠ .stopped → s.dtu.duty = .starting) ∧
  (s.dtu.stopTimer ≠ .stopped → s.dtu.duty = .stopping ∧ s.dtu.runReq = false) ∧
  (s.dtu.recallTimer ≠ .stopped → s.dtu.duty = .resting) ∧
  (s.dtu.duty.runs = true → s.dtu.runReq = true) ∧
  (s.dtu.duty = .resting ∨ s.dtu.duty = .fault → s.dtu.runReq = false)

/-- The drive side of a safe state: laws 1 to 3 with what carries them from step to step. -/
abbrev DriveSafe (s : State) : Prop :=
  FlowOrder s.settings ∧ OfflineAtRest s ∧ Handshake s ∧ Law1 s ∧ Law2 s ∧ Law3 s ∧ s.dtu.target ≤ s.settings.cRated ∧
    (s.dtu.duty = .resting ∨ s.dtu.duty = .fault → s.dtu.target = 0)

/-- The payload of a slot has the slot's kind. -/
def slotHolds (k : FrameKind) (e : Option Entry) : Bool := e.all fun x => x.payload.kind == k

/-- Law 5 and the attempt counts (R31, R32, R33, R36): one entry of its own kind in each slot, at most four replies to different
addressees, counts below the limit of 8 but for TRIP and CLEAR, whose counts go to 255, and no CLEAR in flight beside a waiting
TRIP that could return to its slot, since it was entered before that TRIP. -/
abbrev Law5 (s : State) : Prop :=
  let o := s.frh.outbox
  slotHolds .trip o.trip = true ∧ slotHolds .clear o.clear = true ∧ slotHolds .restAsk o.restAsk = true ∧
  slotHolds .demand o.demand = true ∧ slotHolds .stateReport o.stateReport = true ∧
  o.replies.length ≤ 4 ∧ (o.replies.all fun e => e.payload.kind == .restReply) = true ∧
  (o.replies.map addresseeOf).Nodup ∧
  ((o.replies ++ o.restAsk.toList ++ o.demand.toList ++ o.stateReport.toList).all fun e => decide (e.count < 8)) = true ∧
  ((o.trip.toList ++ o.clear.toList).all fun e => decide (e.count ≤ 255)) = true ∧
  (s.frh.inFlight.all fun f =>
    decide (if f.entry.payload.kind = .trip ∨ f.entry.payload.kind = .clear then f.entry.count ≤ 255
      else f.entry.count < 8)) = true ∧
  (o.trip.isSome = true → (s.frh.inFlight.all fun f => f.entry.payload.kind != .clear || f.doomed) = true)

/-- Law 6: at most 32 entries in the event queue, never two with the same source and subject (R167). -/
abbrev Law6 (s : State) : Prop :=
  s.evu.queue.length ≤ 32 ∧ (s.evu.queue.map fun e => (e.source, e.subject)).Nodup

/-- Law 8: at most four grants, no two for the same asker, none for the own number (R134). The own number changes in OFFLINE
alone, where the list is empty. -/
abbrev Law8 (s : State) : Prop :=
  s.rng.grants.length ≤ 4 ∧ (s.rng.grants.map (·.asker)).Nodup ∧ (s.rng.grants.all fun g => g.asker != ownNumber s) = true ∧
    (s.frh.lineState = .offline → s.rng.grants = []) ∧ (s.pins.resetLow = true → s.frh.lineState = .offline)

/-- Law 12: the trip set holds only stations whose rows have role TURBINE (R50, R90); it is empty in OFFLINE and outside the role
WELL. -/
abbrev Law12 (s : State) : Prop :=
  (∀ n, n < 32 → inTripSet s n = true → (rowOf s n).role = some .turbine ∧ hasRole s .well = true) ∧
    (s.frh.lineState = .offline → ∀ n, n < 32 → inTripSet s n = false) ∧
    (s.pins.resetLow = true → s.frh.lineState = .offline)

/-- Every law of R1 that one state can show (laws 1, 2, 3, 5, 6, 8 and 12). -/
abbrev Safe (s : State) : Prop := DriveSafe s ∧ Law5 s ∧ Law6 s ∧ Law8 s ∧ Law12 s

/-! ### Words of the statements -/

/-- The entries that the slot of a kind holds. -/
def slotEntries (k : FrameKind) (o : Outbox) : List Entry :=
  match k with
  | .trip => o.trip.toList
  | .clear => o.clear.toList
  | .restReply => o.replies
  | .restAsk => o.restAsk.toList
  | .demand => o.demand.toList
  | .stateReport => o.stateReport.toList

/-- What the transmit side holds after a selection made with no attempt under way (R7, R34). -/
def selectedTx (s : State) (o : Outbox) : TxSide :=
  match firstEntry o with
  | some e => .waiting (if e.count = 0 then 8 else 8 + 2 * (ownNumber s + 1))
  | none => .none

/-- A payload whose fields lie in the ranges of R18 and R191. The F of a STATE is any measured value, 65535 included. -/
def Payload.inRange : Payload → Prop
  | .trip _ => True
  | .clear => True
  | .restReply addressee _ _ => addressee ≤ 31
  | .restAsk capacity => capacity ≤ 65534
  | .demand flow cause => flow ≤ 65534 ∧ cause ≤ 2
  | .stateReport _ capacity flow silica =>
    capacity ≤ 65534 ∧ (∀ f, flow = some f → f ≤ 65535) ∧ (∀ x, silica = some x → x ≤ 2000)

/-- The value a receiver reads for a measured value sent in a 16-bit field: 65534 in place of 65535 (R19). -/
def sentValue (v : Nat) : Nat := if v = 65535 then 65534 else v

/-- The fields a receiver reads from a payload's octets are those the sender placed (R19, R43, R44, R45, R191). -/
def readsBack (p : Payload) (octets : List Octet) : Prop :=
  match p with
  | .trip cause => octets = [octetOf cause.code]
  | .clear => octets = []
  | .restReply addressee askSeq verdict =>
    (octets.getD 0 0).toNat = addressee ∧ octets.getD 1 0 = askSeq ∧ verdictOfCode (octets.getD 2 0).toNat = some verdict
  | .restAsk capacity => field16 (octets.getD 0 0) (octets.getD 1 0) = some capacity
  | .demand flow cause => field16 (octets.getD 0 0) (octets.getD 1 0) = some flow ∧ (octets.getD 2 0).toNat = cause
  | .stateReport duty capacity flow silica =>
    wellPartOf octets = { duty := some duty, capacity := some capacity, flow := flow.map sentValue, silica := silica }

/-- A peer row after a refresh tick (R48, R49). -/
def agedRow (c : Settings) (r : PeerRow) : PeerRow :=
  match r.condition with
  | .fresh => { r with condition := if c.staleLimit ≤ r.age then .stale else .fresh, age := min 63 (r.age + 1) }
  | .stale =>
    if c.lostLimit ≤ r.age then { r with condition := .lost, well := none, demand := none, lastSeq := none }
    else { r with age := min 63 (r.age + 1) }
  | _ => r

/-- One move of the setpoint toward a target, never past it (R88). -/
def movedSetpoint (setpoint target up down : Nat) : Nat :=
  if setpoint ≤ target then setpoint + min up (target - setpoint) else setpoint - min down (setpoint - target)

/-- What SETPT is doing once a word has fallen due (R89, R192): on an idle line a word of the values given begins, and behind a word
being sent one waits. -/
def dueWord (s : State) (setpoint : Nat) (duty : Duty) (runReq : Bool) : SetptLine :=
  match s.dtu.setpt with
  | .idle =>
    let word := setpointOctets setpoint duty runReq
    .sending word (word.flatMap fun o => false :: ((List.range 8).map o.getLsbD ++ [true])) false
  | .sending octets bits _ => .sending octets bits true

/-- LIF is about to hand FRH a complete frame of these octets, the CRC octets included, with its own-echo mark (R14). -/
def frameDue (s : State) (octets : List Octet) (ownEcho : Bool) : Prop :=
  works s = true ∧ s.lif.report = some (.complete ownEcho) ∧ s.lif.cells.octets = octets

/-- LIF after its receive side has gone to HUNT, and at once to LEAD on a dominant line, with nothing of a frame (R13). -/
def huntingLif (s : State) : Lif :=
  { s.lif with
    rx := if s.pins.lineDominant then .lead else .hunt
    leadFrom := if s.pins.lineDominant then s.pins.lineSince else 0
    cells := { markDue := true, firstHalf := none, bits := [], octets := [] }
    report := none, rxHeader := none, rxStartedSending := false }

/-- A kind that a role sends, by the column "Sent by role" (R18, R23). -/
def roleSends (role : Role) (kind : FrameKind) : Prop :=
  (role = .well ∧ (kind = .stateReport ∨ kind = .restAsk ∨ kind = .restReply)) ∨
    (role = .turbine ∧ (kind = .demand ∨ kind = .trip ∨ kind = .clear)) ∨ (role = .exchange ∧ kind = .demand)

/-- What the receive side makes of line levels heard half-cell after half-cell: the cells gathered, and its reports in order
(R14). -/
def heard (ownEcho : Bool) (c : RxCells) (levels : List Bool) : RxCells × List RxReport :=
  levels.foldl (fun r level => ((hearHalf level ownEcho r.1).1, r.2 ++ (hearHalf level ownEcho r.1).2.toList)) (c, [])

/-- No channel is bound. -/
def noChannelBound (s : State) : Prop := ∀ n, n < 4 → (slotGet s.evu.channels n Channel.unbound).source = none

/-- The frame of a change of duty: nothing moves but the duty unit, the negotiator, the event unit, the panel port, the STATE slot
with the last published C, the transmit side where a selection sets what waits, and Q5 when a firing brings a derate step; and
without a channel to take its firings, the event unit changes in its queue alone. -/
def OnlyDriveMoves (s t : State) : Prop :=
  t = { s with
    dtu := t.dtu, rng := t.rng, evu := t.evu, pnp := t.pnp
    frh := { s.frh with
      outbox := { s.frh.outbox with stateReport := t.frh.outbox.stateReport }, lastC := t.frh.lastC }
    lif := { s.lif with tx := t.lif.tx }
    msu := { s.msu with quantities := t.msu.quantities } } ∧
  (∀ q, q < 11 → q ≠ 5 → quantityOf t q = quantityOf s q) ∧
  (t.lif.tx = if s.frh.lineState = .active ∧ isSending s = false then selectedTx s t.frh.outbox else s.lif.tx) ∧
  t.evu.refreshCount = s.evu.refreshCount ∧
  (noChannelBound s →
    t.evu = { s.evu with queue := t.evu.queue, dropped := t.evu.dropped } ∧ t.msu = s.msu ∧
      t.dtu.derateTotal = s.dtu.derateTotal ∧ t.dtu.quietCount = s.dtu.quietCount)

/-- The STATE slot holds an entry of a duty that waits for its first attempt's number, as every change of duty leaves it. -/
def statePublished (duty : Duty) (t : State) : Prop :=
  ∃ e c f x, t.frh.outbox.stateReport = some e ∧ e.payload = .stateReport duty c f x ∧ e.seq = none

/-- The target stands, or has come down to the capacity that derate steps left (R81). -/
def targetLowered (s t : State) : Prop :=
  t.dtu.target = s.dtu.target ∨ t.dtu.target = min s.dtu.target (capacityCeiling t)

end Sys2Proof.Machine
end

