-- ==== Sys2Proof/Certificates/Slice0/Obligations.lean ====
section
/-! DEFINITION. The statements about the block, each a proposition without its proof. -/

open Sys2Proof Sys2Proof.Machine

/-! ### The step -/

/-- A step takes the command at the front of the queue and executes it with the queue's rest. -/
def Obligations.StepTakesFrontCommand : Prop :=
  ∀ (c : Instr) (rest : List Instr) (s : State),
    step { s with pending := c :: rest } = exec c { s with pending := rest }

/-- With no command waiting, the time of one half-cell passes (the model's choice, log 2, 37 and 43): unless a report of LIF, the
outcome of an attempt or the end of a quiet gap is due, LINE_RX has held its level for half a cell longer, a running quiet-gap
count grows by a half-cell (R7), and the transmit side and the cells of the receive side may move; SETPT moves on by one bit and
the bus of the configuration memory by one phase, and behind the stop condition of a failed try the 10 ms wait begins (R181);
nothing else changes. -/
def Obligations.EmptyQueueIdles : Prop :=
  ∀ s : State, s.pending = [] →
    let due := s.lif.report ≠ none ∨ (∃ cut failed, s.lif.tx = .sending [] cut failed) ∨ gapReached s = true
    ∃ t, step s = .next t ∧
      t = { s with
        pins := { s.pins with lineSince := t.pins.lineSince }
        lif := { s.lif with tx := t.lif.tx, quiet := t.lif.quiet, cells := t.lif.cells, report := t.lif.report }
        stl := { s.stl with
          bus := t.stl.bus, busAt := t.stl.busAt, waitDue := t.stl.waitDue, retryWait := t.stl.retryWait }
        dtu := { s.dtu with setpt := t.dtu.setpt } } ∧
      (due → t.lif = s.lif ∧ t.pins = s.pins) ∧
      (¬ due → t.pins.lineSince = s.pins.lineSince + 64 * 2 ^ s.settings.cellTimeCode) ∧
      (¬ due → t.lif.quiet = match s.lif.quiet with
        | .running halfCells => .running (halfCells + 1)
        | q => q) ∧
      (isSending s = false → t.lif.tx = s.lif.tx) ∧
      (s.lif.rx ≠ .data → t.lif.cells = s.lif.cells ∧ t.lif.report = s.lif.report) ∧
      (∀ o b b' bits w, s.dtu.setpt = .sending o (b :: b' :: bits) w → t.dtu.setpt = .sending o (b' :: bits) w) ∧
      ((∀ o b b' bits w, s.dtu.setpt ≠ .sending o (b :: b' :: bits) w) → t.dtu.setpt = s.dtu.setpt) ∧
      (s.stl.bus = [] → t.stl = s.stl) ∧
      (∀ b rest, s.stl.bus = b :: rest →
        (s.stl.busAt + 1 < b.levels.length → t.stl = { s.stl with busAt := s.stl.busAt + 1 }) ∧
        (b.levels.length ≤ s.stl.busAt + 1 → rest ≠ [] ∨ s.stl.waitDue = false →
          t.stl = { s.stl with bus := rest, busAt := 0 }) ∧
        (b.levels.length ≤ s.stl.busAt + 1 → rest = [] → s.stl.waitDue = true →
          t.stl = { s.stl with bus := [], busAt := 0, waitDue := false, retryWait := .running 10 }))

/-- Every command, in every state, answers a next state, and none touches the queue of waiting commands. -/
def Obligations.EveryCommandCompletes : Prop :=
  ∀ (c : Instr) (s : State), ∃ t, exec c s = .next t ∧ t.pending = s.pending

/-! ### Reset and the image load -/

/-- HARD_RESET in any state: every block takes its hard-reset state, by the table of R190, and every output its reset level (R2,
R185, R190). The input pins and the waiting commands stay (the model's choice, log 5), and before the straps are read the load
state is READING with station and role code 0 (the model's choice, log 6). RESET_RELEASE: the straps are read once, role code 3
faults with code 1 and reads no image, another role begins transfer 0, and the panel port is in DISCARD when PCS is low (R180,
R181, R186). -/
def Obligations.HardResetTakesEveryBlock : Prop :=
  (∀ s : State,
    let t := { State.reset with pins := { s.pins with resetLow := true }, pending := s.pending }
    exec .hardReset s = .next t ∧ lineTx t = true ∧ driveEn t = false ∧ t.dtu.runReq = false ∧ attn t = false ∧
      doseLevel t .dose0 = false ∧ doseLevel t .dose1 = false ∧ setptLevel t = true ∧ faultOut t = true ∧
      pdoDriven t = false ∧ csclReleased t = true ∧ csdaReleased t = true) ∧
  (let s := State.reset;
    s.lif.tx = .none ∧ s.lif.rx = .hunt ∧ linePhase s = .idle ∧ s.lif.quiet = .held ∧
    s.frh.lineState = .offline ∧ s.frh.outbox = Outbox.empty ∧ s.frh.inFlight = none ∧ s.frh.nextSeq = 0 ∧
    (∀ n, n < 32 → (rowOf s n).condition = .absent ∧ (rowOf s n).role = none) ∧
    (∀ q, q < 11 → (quantityOf s q).validity = .invalid ∧ (quantityOf s q).value = 0) ∧
    (∀ c, c < 8 → (latchOf s c).pending = none ∧ (latchOf s c).last = none) ∧
    (∀ w, w < 8 → slotGet s.msu.windows w .clear = .unknown) ∧
    s.dtu.duty = .resting ∧ s.dtu.runReq = false ∧ s.dtu.setpoint = 0 ∧ s.dtu.target = 0 ∧ s.dtu.derateTotal = 0 ∧
    tripInForce s = false ∧ s.rng.ask = .idle ∧ s.rng.grants = [] ∧ s.rng.holdOff = .stopped ∧
    s.srg.trip = .normal ∧ s.srg.integrator = 0 ∧ s.srg.demand = 0 ∧ s.xcp.isolated = false ∧ s.xcp.sMix = 0 ∧
    s.evu.queue = [] ∧ s.evu.refreshCount = 0 ∧ s.evu.dropped = 0 ∧
    (∀ c, c < 4 → (slotGet s.evu.channels c { Channel.unbound with source := some 1 }).source = none) ∧
    s.pnp.phase = .idle ∧ s.stl.loadState = .reading ∧ s.stl.station = 0 ∧ s.stl.roleCode = 0 ∧ s.stl.faultCode = 0 ∧
    s.stl.clamped = 0) ∧
  (∀ (sn : BitVec 5) (role : BitVec 2) (s : State), s.pins.resetLow = true →
    exec (.resetRelease sn role) s = .next
      { s with
        pins := { s.pins with resetLow := false, sn := sn, roleStrap := role }
        stl := { s.stl with
          loadState := if role = 3 then .faulted else .reading, faultCode := if role = 3 then 1 else 0, station := sn
          roleCode := role, clamped := 0, transfer := 0, failedTries := 0, waitDue := false, retryWait := .stopped, image := []
          bus := s.stl.bus ++ (if role = 3 then [] else transferSymbols 0) }
        pnp := { s.pnp with phase := if s.pins.pcsLow then .discard else .idle } })

/-- Reading the image (R181, R182). A transfer goes over the bus as R181 orders it, each octet most significant bit first with
CSDA changing while CSCL is low alone, and each start and stop condition as a fall and a rise of CSDA under a high CSCL (phases:
the model's choice, log 22). IMAGE_TRANSFER_DONE before the tenth transfer takes its 32 octets and begins the next transfer with
three tries; the tenth of an image that fails a check faults with the check's code and takes no setting. After
ADDRESS_NOT_ACKNOWLEDGED and HELD_LINE_TIMEOUT a stop condition follows where CSDA allows it; the first and second failed try then
wait 10 ms, behind the stop condition where there is one, and the third faults with code 2 or 3. While the stop condition goes
over the bus, no command of the try and no RETRY_WAIT_END cuts it; RETRY_WAIT_END begins the same transfer again. A line held
while a RESTART is still ending the old transfer counts as a try of the new load (the model's choice, log 42). -/
def Obligations.ImageReadHasThreeTries : Prop :=
  (∀ (k : Nat) (o : Octet),
    let bit (csda : Bool) : List (Bool × Bool) := [(false, csda), (true, csda), (false, csda)]
    k < 10 →
    transferSymbols k =
      [.start, .octet 0x58, .octet (if k < 8 then 0 else 1), .octet (octetOf (32 * k)), .again, .octet 0x59] ++
        List.replicate 31 (.data false) ++ [.data true, .stop] ∧
    (BusSymbol.octet o).levels = (List.range 8).flatMap (fun i => bit (o.getMsbD i)) ++ bit true ∧
    (∀ last, (BusSymbol.data last).levels = (List.range 8).flatMap (fun _ => bit true) ++ bit last) ∧
    BusSymbol.start.levels = [(true, true), (true, false), (false, false)] ∧
    BusSymbol.again.levels = (false, true) :: BusSymbol.start.levels ∧
    BusSymbol.stop.levels = [(false, false), (true, false), (true, true)]) ∧
  (∀ (octets : List Octet) (s : State), tryUnderWay s = true → s.stl.bus = [] → octets.length = 32 →
    let image := s.stl.image ++ octets
    (s.stl.transfer < 9 → exec (.imageTransferDone octets) s = .next
      { s with stl := { s.stl with
        image := image, failedTries := 0, stopSent := true, transfer := s.stl.transfer + 1
        bus := transferSymbols (s.stl.transfer + 1), busAt := 0 } }) ∧
    (s.stl.transfer = 9 → imageFault image s.stl.roleCode.toNat ≠ 0 → exec (.imageTransferDone octets) s = .next
      { s with stl :=
        { s.stl with
          image := image, failedTries := 0, stopSent := true, bus := [], busAt := 0, loadState := .faulted
          faultCode := imageFault image s.stl.roleCode.toNat } })) ∧
  (∀ (stop : Bool) (s : State), tryUnderWay s = true →
    let stopped := if stop then [BusSymbol.stop] else []
    let waits := { s with
      pins := { s.pins with stopPossible := stop }
      stl := { s.stl with
        failedTries := s.stl.failedTries + 1, stopSent := stop, bus := stopped, busAt := 0, waitDue := stop
        retryWait := if stop then .stopped else .running 10 } }
    let faults (code : Nat) := { s with
      pins := { s.pins with stopPossible := stop }
      stl := { s.stl with
        failedTries := s.stl.failedTries + 1, stopSent := stop, bus := stopped, busAt := 0, loadState := .faulted
        faultCode := code } }
    (∀ o next rest, s.stl.bus = .octet o :: next :: rest → next ≠ .start → next ≠ .stop → s.stl.busAt = 26 →
      (s.stl.failedTries < 2 → exec (.addressNotAcknowledged stop) s = .next waits) ∧
      (2 ≤ s.stl.failedTries → exec (.addressNotAcknowledged stop) s = .next (faults 2))) ∧
    (s.stl.bus ≠ [] →
      (s.stl.failedTries < 2 → exec (.heldLineTimeout stop) s = .next waits) ∧
      (2 ≤ s.stl.failedTries → exec (.heldLineTimeout stop) s = .next (faults 3)))) ∧
  (∀ s : State, isReading s = true → s.stl.retryWait ≠ .stopped → s.stl.bus = [] →
    exec .retryWaitEnd s = .next
      { s with stl := { s.stl with retryWait := .stopped, bus := transferSymbols s.stl.transfer, busAt := 0 } }) ∧
  (∀ (octets : List Octet) (stop : Bool) (s : State), s.stl.waitDue = true → s.stl.bus ≠ [] →
    exec .retryWaitEnd s = .next s ∧ exec (.imageTransferDone octets) s = .next s ∧
      exec (.addressNotAcknowledged stop) s = .next s ∧ exec (.heldLineTimeout stop) s = .next s)

/-- The tenth transfer of a good image completes the load: the clamped settings, the values a load sets, the links at work, and
JOINING with the join timer of three refresh periods (R7, R13, R59, R72, R154, R174, R183, R184); a TURBINE station whose filtered
TRIP_IN is active is TRIPPED at once, with TRIP and DEMAND entered (R147, R148, R149). The model's choices: the normal target at
the loaded F_min (log 13), the count of the clamped fields (log 32), the integrator at 256 x I0 in every role (log 35). -/
def Obligations.GoodImageJoins : Prop :=
  ∀ (octets : List Octet) (s : State), tryUnderWay s = true → s.stl.bus = [] → octets.length = 32 →
    s.stl.transfer = 9 → imageFault (s.stl.image ++ octets) s.stl.roleCode.toNat = 0 → s.rng.ask = .idle →
    let image := s.stl.image ++ octets
    let c := clampSettings (rawSettings image)
    let tripsAtOnce := hasRole s .turbine && s.srg.tripIn
    let joined := { s with
      settings := c
      stl := { s.stl with
        image := image, failedTries := 0, stopSent := true, bus := [], busAt := 0, loadState := .loaded
        clamped := clampCount (rawSettings image) }
      srg := { s.srg with integrator := 256 * c.initialIntegrator }
      xcp := { s.xcp with sMix := c.defaultSilica }
      dtu := { s.dtu with
        normalTarget := c.fMin
        recallTimer := if hasRole s .well = true ∧ s.dtu.duty = .resting then .stopped else s.dtu.recallTimer }
      evu := { s.evu with channels := Vector.ofFn fun n : Fin 4 => imageChannel image n }
      lif := { huntingLif s with
        tx := cutTx s.lif.tx, quiet := if s.pins.lineDominant then .cleared else .running 0 }
      msu := { s.msu with
        gathered := [], idleReached := true, awaitHigh := false, windows := Vector.ofFn fun _ : Fin 8 => .unknown }
      frh := { s.frh with
        lineState := .joining, joinTimer := .running (3 * c.refreshPeriod), outbox := Outbox.empty, inFlight := none
        lastC := none, lastDemand := none } }
    (tripsAtOnce = false → exec (.imageTransferDone octets) s = .next joined) ∧
    (tripsAtOnce = true → ∃ t, exec (.imageTransferDone octets) s = .next t ∧
      t = { joined with
        srg := { joined.srg with demand := 0, trip := .tripped .tripIn }
        evu := t.evu
        frh := { joined.frh with
          outbox := { Outbox.empty with
            trip := some { payload := .trip .tripIn, count := 0, seq := none }
            demand := some { payload := .demand 0 1, count := 0, seq := none } }
          lastDemand := some 0 } })

/-- The ranges in which the clamps leave a loaded image's settings (R77, R99, R119, R139, R153, R165, R177, R183). -/
def Obligations.ClampsKeepRanges : Prop :=
  ∀ r : Settings,
    let c := clampSettings r
    c.cellTimeCode ≤ 2 ∧ c.sampleRateCode ≤ 3 ∧
    (250 ≤ c.refreshPeriod ∧ c.refreshPeriod ≤ 5000 ∧ c.refreshPeriod % 50 = 0) ∧
    (2 ≤ c.staleLimit ∧ c.staleLimit ≤ 15 ∧ c.staleLimit + 1 ≤ c.lostLimit ∧ c.lostLimit ≤ 63) ∧
    (100 ≤ c.scanPeriod ∧ c.scanPeriod ≤ 2000) ∧ (1 ≤ c.invalidLimit ∧ c.invalidLimit ≤ 15) ∧
    (1 ≤ c.capacityStep ∧ c.capacityStep ≤ 1000 ∧ 1 ≤ c.demandStep ∧ c.demandStep ≤ 1000) ∧
    (100 ≤ c.sharePeriod ∧ c.sharePeriod ≤ 1000 ∧ c.sharePeriod ≤ c.refreshPeriod) ∧
    (c.fMin ≤ c.cRated ∧ c.cRated ≤ 65534 ∧ c.fMin ≤ c.tripFlow ∧ c.tripFlow ≤ 65534) ∧
    (1 ≤ c.derateStep ∧ c.derateStep ≤ 1000 ∧ 1 ≤ c.recoverySpan) ∧
    (1 ≤ c.rampUp ∧ c.rampUp ≤ 65534 ∧ 1 ≤ c.rampDown ∧ c.rampDown ≤ 65534 ∧ 1 ≤ c.tripRamp ∧ c.tripRamp ≤ 65534) ∧
    (5 ≤ c.startTimeout ∧ c.startTimeout ≤ 120 ∧ 5 ≤ c.stopTimeout ∧ c.stopTimeout ≤ 120 ∧ c.warmUp ≤ 600) ∧
    (2 ≤ c.recallBase ∧ c.recallBase ≤ 600 ∧ 1 ≤ c.recallStep ∧ c.recallStep ≤ 60 ∧ ∀ k, c.rank = some k → k ≤ 31) ∧
    (200 ≤ c.replyWindow ∧ c.replyWindow ≤ 5000 ∧ 1 ≤ c.grantHold ∧ c.grantHold ≤ 60) ∧
    (5 ≤ c.refusedHoldOff ∧ c.refusedHoldOff ≤ 600 ∧ c.reserve ≤ 65534) ∧
    (c.kp ≤ 4095 ∧ c.ki ≤ 4095 ∧ c.turbineLimit ≤ 65534 ∧ c.initialIntegrator ≤ c.turbineLimit ∧ c.pTripHys ≤ c.pTrip) ∧
    (c.supplySetpoint ≤ 4000 ∧ c.silicaMargin ≤ 1000 ∧ c.outletFloor ≤ 4000 ∧ c.dropHysteresis ≤ 500) ∧
    (1 ≤ c.minimumDrop ∧ c.minimumDrop ≤ 1000 ∧ 300 ≤ c.specificHeat ∧ c.specificHeat ≤ 450) ∧
    (c.exchangeLimit ≤ 65534 ∧ c.defaultSilica ≤ 2000) ∧
    (1 ≤ c.attentionThreshold ∧ c.attentionThreshold ≤ 7 ∧ (∀ l ∈ c.levels, l ≤ 7)) ∧
    (1 ≤ c.doseWidth0 ∧ 1 ≤ c.doseWidth1) ∧
    (∀ p ∈ c.table, p.temperature ≤ 4000) ∧ (∀ w ∈ c.windows, 0 ≤ w.hysteresis)

/-! ### The field line -/

/-- A frame that a station builds has on the line the cells that R5 counts for its kind, passes LIF's and FRH's checks at every
receiver, and each of its fields is read back as it was placed, a measured F of 65535 as the 65534 that is sent in its place (R5,
R16, R18, R19, R20, R191). -/
def Obligations.SentFrameReadsBack : Prop :=
  (∀ (station role : Nat) (p : Payload) (seq : Octet),
    (attemptWave p.kind (frameOctets station role p seq)).length = 2 *
      (match p.kind with
        | .stateReport => 104
        | .demand => 72
        | .restAsk => 66
        | .restReply => 76
        | .trip => 62
        | .clear => 54)) ∧
  (∀ (station : Nat) (role : Role) (p : Payload) (seq : Octet), station ≤ 31 → p.inRange →
    let octets := frameOctets station role.code p seq
    let body := octets.take (octets.length - 2)
    lifReason octets = none ∧ frhReason body = none ∧ senderOf (body.getD 0 0) = station ∧
      roleOfCode (roleCodeOf (body.getD 0 0)) = some role ∧ kindOfCode (kindCodeOf (body.getD 1 0)) = some p.kind ∧
      body.getD 2 0 = seq ∧ readsBack p (body.drop 3))

/-- The end of each half-cell in an attempt (R6, R8, R9, R10, R11, R12). While no half-cell has mismatched, a dominant half and a
recessive half on a recessive line go on to the next half-cell; a recessive half on a dominant line fails the attempt at the point
of its cell, and nothing is sent after that cell: its second half follows where the first mismatched, dominant in a data 0. A
failed attempt goes on to the end of that cell. A cut attempt whose cell has ended is over at CUT_ATTEMPT_END, with no outcome.
LINE_TX is low and DRIVE_EN high during each dominant half-cell that is sent, and LINE_TX is high and DRIVE_EN low otherwise (R2);
a lead-in and a closer are dominant, and a release check is not. -/
def Obligations.EchoCheckEndsAttempt : Prop :=
  (∀ s : State,
    (∀ h wave cut failed, s.lif.tx = .sending (h :: wave) cut failed →
      (h.dominant = true → lineTx s = false ∧ driveEn s = true) ∧
      (h.dominant = false → lineTx s = true ∧ driveEn s = false)) ∧
    ((∀ h wave cut failed, s.lif.tx ≠ .sending (h :: wave) cut failed) → lineTx s = true ∧ driveEn s = false)) ∧
  (∀ (kind : FrameKind) (octets : List Octet), ∀ h ∈ attemptWave kind octets,
    (h.phase = .lead ∨ h.phase = .close → h.dominant = true) ∧ (h.phase = .check → h.dominant = false)) ∧
  (∀ (s : State) (h : HalfCell) (wave : List HalfCell) (cut : Bool), s.pending = [] → s.lif.report = none →
    (s.lif.tx = .sending (h :: wave) cut none →
      ∃ t, step s = .next t ∧
        (h.dominant = true ∨ s.pins.lineDominant = false → t.lif.tx = .sending wave cut none) ∧
        (h.dominant = false → s.pins.lineDominant = true →
          ∀ (kind : FrameKind) (octets : List Octet) (sent : List HalfCell),
            attemptWave kind octets = sent ++ h :: wave →
            ∃ p left, t.lif.tx = .sending left cut (some p) ∧
              ((h.phase = .mark ∧ p = .leadMark) ∨ (h.phase = .data ∧ p = .data) ∨ (h.phase = .check ∧ p = .check)) ∧
              (sent.length % 2 = 1 → left = []) ∧
              (sent.length % 2 = 0 → left = [{ phase := h.phase, dominant := h.phase == .data }] ∧
                ∃ rest, wave = left ++ rest))) ∧
    (∀ p, s.lif.tx = .sending (h :: wave) cut (some p) → ∃ t, step s = .next t ∧ t.lif.tx = .sending wave cut (some p))) ∧
  (∀ (s : State) (failed : Option FailPoint), works s = true → s.lif.tx = .sending [] true failed →
    exec .cutAttemptEnd s = .next
      { s with lif := { s.lif with tx := if s.frh.lineState = .active then selectedTx s s.frh.outbox else .none } })

/-- The end of each half-cell in DATA (R4, R14, R15): the first half of a cell is kept; the mark's cell is not counted (log 36); a
data cell adds its bit, the eighth completes an octet with the first bit lowest, the third octet is a header arrival, and one
after 36 octets is malformed with reason 4; a violation cell off an octet boundary has reason 1, a recessive one at a boundary
reason 2; a dominant one there completes the frame, with reason 3 below 5 octets, reason 5 for a failed CRC, and the own-echo mark
of an attempt in CLOSE otherwise. -/
def Obligations.ReceiverReadsCells : Prop :=
  ∀ s : State, s.pending = [] → works s = true → s.lif.rx = .data → s.lif.report = none →
    (∀ cut failed, s.lif.tx ≠ .sending [] cut failed) → gapReached s = false →
    let c := s.lif.cells
    let level := s.pins.lineDominant
    ∃ t, step s = .next t ∧
      (c.firstHalf = none → t.lif.cells = { c with firstHalf := some level } ∧ t.lif.report = none) ∧
      (∀ first, c.firstHalf = some first →
        (c.markDue = true → t.lif.cells = { c with firstHalf := none, markDue := false } ∧ t.lif.report = none) ∧
        (c.markDue = false → first ≠ level →
          (36 ≤ c.octets.length → t.lif.report = some (.malformed 4)) ∧
          (c.octets.length < 36 → c.bits.length < 7 →
            t.lif.cells = { c with firstHalf := none, bits := c.bits ++ [first] } ∧ t.lif.report = none) ∧
          (c.octets.length < 36 → c.bits.length = 7 →
            ∃ o : Octet, t.lif.cells = { c with firstHalf := none, bits := [], octets := c.octets ++ [o] } ∧
              (∀ i, i < 8 → o.getLsbD i = (c.bits ++ [first]).getD i false) ∧
              t.lif.report = if c.octets.length = 2 then some .header else none)) ∧
        (c.markDue = false → first = level →
          t.lif.cells.octets = c.octets ∧
          t.lif.report = some (
            if c.bits ≠ [] then .malformed 1
            else if level = false then .malformed 2
            else if c.octets.length < 5 then .malformed 3
            else if crcPasses c.octets = false then .malformed 5
            else .complete (txState s == .close))))

/-- What every receiver hears of a frame that a station sends (R4, R5, R14): of the half-cells from the mark's dominant cell on,
the 50th ends the third octet and brings the header arrival with the three header octets, and the last of the closer's dominant
cell completes the frame with all its octets; nothing else is reported on the way. -/
def Obligations.SentFrameIsHeard : Prop :=
  ∀ (station : Nat) (role : Role) (p : Payload) (seq : Octet) (ownEcho : Bool), station ≤ 31 → p.inRange →
    let octets := frameOctets station role.code p seq
    let levels := (attemptWave p.kind octets).map (·.dominant)
    let fromMark := (levels.drop (2 * p.kind.leadIn + 2)).take (16 * octets.length + 4)
    let begun : RxCells := { markDue := true, firstHalf := none, bits := [], octets := [] }
    let gathered (os : List Octet) : RxCells := { markDue := false, firstHalf := none, bits := [], octets := os }
    fromMark.length = 16 * octets.length + 4 ∧
    (heard ownEcho begun (fromMark.take 49)).2 = [] ∧
    heard ownEcho begun (fromMark.take 50) = (gathered (octets.take 3), [.header]) ∧
    (heard ownEcho begun (fromMark.take (16 * octets.length + 3))).2 = [.header] ∧
    heard ownEcho begun fromMark = (gathered octets, [.header, .complete ownEcho])

/-- JOIN_EXPIRY (R29, R34, R184): the line state becomes ACTIVE, the join timer stops, and the first entry is handed over unless a
cut attempt is still finishing its cell; the recall conditions are tested. They are the six of R104: ACTIVE, an empty trip set, no
pending trip, C_own not below F_min, D above the peers' capacity, and no peer starting. -/
def Obligations.JoinExpiryGoesActive : Prop :=
  (∀ s : State, recallConditions s = true ↔
    s.frh.lineState = .active ∧ (∀ n, n < 32 → inTripSet s n = false) ∧ s.dtu.pendingTrip = none ∧
      s.settings.fMin ≤ cOwn s ∧ peerCapacity s < fieldDemand s ∧ peerStarting s = false) ∧
  ∀ s : State, works s = true → s.frh.lineState = .joining →
    ∃ t, exec .joinExpiry s = .next t ∧
      t = { s with
        frh := { s.frh with lineState := .active, joinTimer := .stopped }
        lif := { s.lif with tx := if isSending s then s.lif.tx else selectedTx s s.frh.outbox }
        dtu := { s.dtu with recallTimer := t.dtu.recallTimer } } ∧
      t.dtu.recallTimer =
        if hasRole s .well = true ∧ s.dtu.duty = .resting then
          if recallConditions t then .running (1000 * recallTime s) else .stopped
        else s.dtu.recallTimer

/-- QUIET_GAP_EXPIRY (R7, R24, R34, R37), once the cells of the gap that the held frame requires have been counted, at two
half-cells each (the model's choice, log 43), and nothing before: the first entry leaves its slot with its number, or with the
next number, which then advances; it is in flight, its cells stand ready, and a waiting ask learns the number. Law 4 (R1, R12,
R30): an attempt begins in ACTIVE alone, at QUIET_GAP_EXPIRY alone, with the gap reached. -/
def Obligations.AttemptTakesNextNumber : Prop :=
  (∀ s : State, gapReached s = true ↔ works s = true ∧ s.frh.lineState = .active ∧
    ∃ gap halfCells, s.lif.tx = .waiting gap ∧ s.lif.quiet = .running halfCells ∧ 2 * gap ≤ halfCells) ∧
  (∀ s : State, gapReached s = false → exec .quietGapExpiry s = .next s) ∧
  (∀ (s : State) (e : Entry) (gap halfCells : Nat), works s = true → s.frh.lineState = .active → s.lif.tx = .waiting gap →
    s.lif.quiet = .running halfCells → 2 * gap ≤ halfCells →
    firstEntry s.frh.outbox = some e →
    let q := e.seq.getD s.frh.nextSeq
    exec .quietGapExpiry s = .next
      { s with
        frh := { s.frh with
          outbox := withoutFirst s.frh.outbox, inFlight := some { entry := { e with seq := some q }, doomed := false }
          nextSeq := if e.seq = none then s.frh.nextSeq + 1 else s.frh.nextSeq }
        lif := { s.lif with
          tx := .sending (attemptWave e.payload.kind (frameOctets (ownNumber s) s.stl.roleCode.toNat e.payload q)) false none }
        rng := { s.rng with ask :=
          if e.seq = none ∧ e.payload.kind = .restAsk ∧ s.rng.ask = .waiting then .sending q (Vector.replicate 32 none)
          else s.rng.ask } }) ∧
  (∀ (c : Instr) (s t : State), exec c s = .next t → isSending s = false → isSending t = true →
    c = .quietGapExpiry ∧ s.frh.lineState = .active ∧ gapReached s = true)

/-- ATTEMPT_SENT after an attempt that no echo check failed (R11, R35, R122, R124): a frame whose number no ask waits for is
forgotten, waiting entries stand, and the next selection is made. The REST-ASK an ask waits for, with no early verdict held and a
FRESH counted WELL row in the view, starts the reply window, with exactly the FRESH counted rows on the roll, each at NONE. -/
def Obligations.SentFrameSettles : Prop :=
  ∀ (s : State) (f : InFlight), works s = true → s.lif.tx = .sending [] false none →
    s.frh.inFlight = some f →
    let gone := { s with
      frh := { s.frh with inFlight := none }
      lif := { s.lif with tx := if s.frh.lineState = .active then selectedTx s s.frh.outbox else .none } }
    ((f.entry.payload.kind = .restAsk → ∀ q early, s.rng.ask = .sending q early → f.entry.seq ≠ some q) →
      exec .attemptSent s = .next gone) ∧
    (∀ q m, f.entry.payload.kind = .restAsk → f.entry.seq = some q → s.rng.ask = .sending q (Vector.replicate 32 none) →
      m < 32 → (rowOf s m).condition = .fresh → counted (rowOf s m) = true →
      ∃ roll : Vector (Option (Option Verdict)) 32,
        exec .attemptSent s = .next
          { gone with rng := { s.rng with ask := .window q roll (.running s.settings.replyWindow) } } ∧
        (∀ n, n < 32 → slotGet roll n none =
          if (rowOf s n).condition = .fresh ∧ counted (rowOf s n) = true then some none else none))

/-- ATTEMPT_FAILED after an attempt whose echo check failed at a point, with no newer entry of the frame's slot (R35, R36): the
frame returns to its slot with its number and one failure more, the oldest of its slot; no other slot changes, and no other block.
At its eighth failure a STATE or a DEMAND is gone from the outbox instead, and SEND_DROPPED is offered with the kind code and the
point of the last failure, which with no channel bound to it reaches the queue. -/
def Obligations.FailedFrameReturnsOrDrops : Prop :=
  ∀ (s : State) (f : InFlight) (p : FailPoint), works s = true →
    s.lif.tx = .sending [] false (some p) → s.frh.inFlight = some f → f.doomed = false →
    (if f.entry.payload.kind = .restReply then
        s.frh.outbox.replies.length < 4 ∧
          (s.frh.outbox.replies.all fun e => addresseeOf e != addresseeOf f.entry && decide (e.count < 8)) = true
      else slotEntries f.entry.payload.kind s.frh.outbox = []) →
    ((if f.entry.payload.kind = .trip ∨ f.entry.payload.kind = .clear then f.entry.count < 255 else f.entry.count < 7) →
      ∃ t, exec (.attemptFailed p) s = .next t ∧
        slotEntries f.entry.payload.kind t.frh.outbox =
          { f.entry with count := f.entry.count + 1 } :: slotEntries f.entry.payload.kind s.frh.outbox ∧
        (∀ k, k ≠ f.entry.payload.kind → slotEntries k t.frh.outbox = slotEntries k s.frh.outbox) ∧
        t = { s with
          frh := { s.frh with outbox := t.frh.outbox, inFlight := none }
          lif := { s.lif with tx := if s.frh.lineState = .active then selectedTx s t.frh.outbox else .none } }) ∧
    (f.entry.payload.kind = .stateReport ∨ f.entry.payload.kind = .demand → f.entry.count = 7 →
      takingChannel (fire 2 f.entry.payload.kind.code (failPointCode p)) s = none →
      exec (.attemptFailed p) s = .next
        { s with
          frh := { s.frh with inFlight := none }
          lif := { s.lif with tx := if s.frh.lineState = .active then selectedTx s s.frh.outbox else .none }
          evu := (enqueue (fire 2 f.entry.payload.kind.code (failPointCode p)) s).evu })

/-- LINE_TRANSITION (R7, R13, R17): the receive side moves by the table of R13, with the stretch in periods of CLK, from the
moment it entered LEAD where it did so on a dominant line (log 38), against cells of 128, 256 or 512 periods; the quiet-gap count
is cleared or starts from 0, and a start that is accepted begins with no cell. MARK_RECESSIVE_TIMEOUT (R13): MARK goes back to
HUNT, or to LEAD at once on a dominant line. -/
def Obligations.TransitionMovesReceiver : Prop :=
  (∀ (dominant : Bool) (stretch : Nat) (s : State), works s = true → s.pins.lineDominant ≠ dominant →
    let cell := 128 * 2 ^ s.settings.cellTimeCode
    let measured := stretch - s.lif.leadFrom
    let oneCell := decide (3 * cell ≤ 4 * measured ∧ 4 * measured < 5 * cell)
    let accepted := s.lif.rx == .mark && dominant && oneCell
    exec (.lineTransition dominant stretch) s = .next
      { s with
        pins := { s.pins with lineDominant := dominant, lineSince := 0 }
        lif := { s.lif with
          quiet := if dominant then .cleared else .running 0
          rx := match s.lif.rx, dominant with
            | .hunt, true => .lead
            | .lead, false => if 7 * cell ≤ 4 * measured then .mark else .hunt
            | .mark, true => if oneCell then .data else .lead
            | r, _ => r
          leadFrom := 0
          cells := if accepted then { markDue := true, firstHalf := none, bits := [], octets := [] } else s.lif.cells
          report := if accepted then none else s.lif.report
          rxHeader := if accepted then none else s.lif.rxHeader
          rxStartedSending := if accepted then isSending s else s.lif.rxStartedSending } }) ∧
  (∀ s : State, works s = true → s.lif.rx = .mark →
    exec .markRecessiveTimeout s = .next { s with lif := huntingLif s })

/-- HEADER_ARRIVAL (R14, R27, R91, R92): LIF keeps the header. In a WELL station a TRIP header from another station gives the
early notice: a sender outside the trip set becomes the pending trip, and when that brings a trip into force a running well's
target is limited to the trip flow, its setpoint falls once by the trip ramp and a setpoint word falls due. In another duty
nothing of the drive moves and no word falls due (the model's choice, log 41). -/
def Obligations.HeaderGivesEarlyNotice : Prop :=
  ∀ (h0 h1 h2 : Octet) (s : State), works s = true → s.lif.report = some .header → s.lif.cells.octets = [h0, h1, h2] →
    let kept := { s with lif := { s.lif with rxHeader := some (h0, h1, h2), report := none } }
    let noticed := { kept with frh := { s.frh with notice := some (senderOf h0) } }
    (¬ (hasRole s .well = true ∧ givesNotice s h0 h1 = true) → exec (.headerArrival h0 h1 h2) s = .next kept) ∧
    (hasRole s .well = true → givesNotice s h0 h1 = true → inTripSet s (senderOf h0) = true →
      exec (.headerArrival h0 h1 h2) s = .next noticed) ∧
    (hasRole s .well = true → givesNotice s h0 h1 = true → inTripSet s (senderOf h0) = false →
      let timer := if s.dtu.duty = .resting then .stopped else s.dtu.recallTimer
      (s.dtu.duty.runs = true → tripInForce s = false →
        let target := min s.dtu.target s.settings.tripFlow
        let setpoint := movedSetpoint s.dtu.setpoint target s.settings.rampUp s.settings.tripRamp
        exec (.headerArrival h0 h1 h2) s = .next
          { noticed with dtu :=
            { s.dtu with
              pendingTrip := some (senderOf h0), target := target, setpoint := setpoint
              setpt := dueWord s setpoint s.dtu.duty s.dtu.runReq, recallTimer := timer } }) ∧
      (s.dtu.duty.runs = false ∨ tripInForce s = true →
        exec (.headerArrival h0 h1 h2) s = .next
          { noticed with dtu := { s.dtu with pendingTrip := some (senderOf h0), recallTimer := timer } }))

/-- FRAME_MALFORMED (R13, R15, R28, R93): the receive side goes back to HUNT, an early notice that was due fails and its pending
trip is withdrawn; with no notice due and no channel bound to the firing, FRAME_MALFORMED reaches the queue with no subject and
the reason as detail. With a notice due whose pending trip stands, and no channel bound, TRIP_WITHDRAWN reaches the queue after
FRAME_MALFORMED (the model's choice, log 34). -/
def Obligations.MalformedFrameIsReported : Prop :=
  ∀ (reason : Nat) (s : State), works s = true → s.lif.report = some (.malformed reason) →
    let firing : Firing := { source := 1, subject := none, detail := some reason }
    let hunting := huntingLif s
    ∃ t, exec (.frameMalformed reason) s = .next t ∧
      t = { s with
        lif := { hunting with tx := t.lif.tx }, evu := t.evu, msu := { s.msu with quantities := t.msu.quantities }
        frh := { s.frh with
          notice := none, outbox := { s.frh.outbox with stateReport := t.frh.outbox.stateReport }, lastC := t.frh.lastC }
        dtu := { s.dtu with
          pendingTrip := t.dtu.pendingTrip, derateTotal := t.dtu.derateTotal, quietCount := t.dtu.quietCount
          target := t.dtu.target, recallTimer := t.dtu.recallTimer } } ∧
      t.dtu.pendingTrip =
        (if s.frh.notice ≠ none ∧ s.dtu.pendingTrip = s.frh.notice then none else s.dtu.pendingTrip) ∧
      (s.frh.notice = none → takingChannel firing s = none → t = { s with lif := hunting, evu := (enqueue firing s).evu }) ∧
      (∀ n, s.frh.notice = some n → s.dtu.pendingTrip = some n → noChannelBound s →
        t.evu = (enqueue (fire 26 n 2) (enqueue firing s)).evu)

/-- FRAME_COMPLETE of a peer's STATE, not a duplicate and not from a row of another role (R26, R41, R42, R43, R135): the row is
FRESH with age 0, role WELL, the frame's number and the four fields, and no other row moves. At a TURBINE or EXCHANGE station, for
a row that was not LOST and with no notice due, nothing else moves but the receive side; at a WELL station a duty other than
ASKING ends the sender's grant and no other grant. -/
def Obligations.StateFrameWritesRow : Prop :=
  ∀ (s : State) (n : Nat) (d : Duty) (capacity : Nat) (flow silica : Option Nat) (q : Octet),
    let octets := frameOctets n 0 (.stateReport d capacity flow silica) q
    frameDue s octets false → n ≤ 31 → n ≠ ownNumber s →
    (Payload.stateReport d capacity flow silica).inRange →
    (rowOf s n).role = none ∨ (rowOf s n).role = some .well → (rowOf s n).lastSeq ≠ some q →
    ∃ t, exec (.frameComplete octets false) s = .next t ∧
      rowOf t n =
        { rowOf s n with
          condition := .fresh, role := some .well, age := 0, lastSeq := some q
          well := some { duty := some d, capacity := some capacity, flow := flow.map sentValue, silica := silica } } ∧
      (∀ m, m < 32 → m ≠ n → rowOf t m = rowOf s m) ∧ t.settings = s.settings ∧ t.srg = s.srg ∧ t.xcp = s.xcp ∧
      t.frh.lineState = s.frh.lineState ∧ t.frh.nextSeq = s.frh.nextSeq ∧ t.dtu.setpoint = s.dtu.setpoint ∧
      (hasRole s .well = false → s.frh.notice = none → (rowOf s n).condition ≠ .lost →
        t = { s with pvw := t.pvw, lif := huntingLif s }) ∧
      (hasRole s .well = true →
        t.rng.grants = if d = .asking then s.rng.grants else s.rng.grants.filter fun g => g.asker != n)

/-- FRAME_COMPLETE of a frame that bears the own number, is no own echo and began while the line phase was not SENDING, in JOINING
or ACTIVE (R12, R22, R29, R30): the line state becomes LISTEN_ONLY, the outbox is empty, an attempt is cut and no row is written.
-/
def Obligations.OwnNumberIsAClash : Prop :=
  ∀ (s : State) (role : Role) (p : Payload) (q : Octet),
    let octets := frameOctets (ownNumber s) role.code p q
    frameDue s octets false → keepsEntries s = true → s.lif.rxStartedSending = false →
    ∃ t, exec (.frameComplete octets false) s = .next t ∧
      t = { s with
        frh := { s.frh with
          lineState := .listenOnly, joinTimer := .stopped, outbox := Outbox.empty, inFlight := none, lastC := none
          lastDemand := none, notice := none }
        lif := { huntingLif s with tx := cutTx s.lif.tx }
        dtu := t.dtu, evu := t.evu, rng := { s.rng with ask := t.rng.ask, holdOff := t.rng.holdOff }
        msu := { s.msu with quantities := t.msu.quantities } } ∧
      t.dtu.setpoint = s.dtu.setpoint ∧ t.dtu.runReq = s.dtu.runReq ∧ t.dtu.tripSet = s.dtu.tripSet ∧ faultOut t = true

/-- FRAME_COMPLETE of a frame that goes no further, with no notice due. An own echo, and a frame with the own number whose start
was accepted while SENDING, are discarded (R21, R22). A kind that its role does not send, and a role other than the row's, are
discarded with ROLE_MISMATCH, with the kind code or the role code as detail, and the row stands (R23, R41). A duplicate makes its
row FRESH with age 0 and does nothing else but test the recall conditions of a WELL station (R25, R42, R104); from a row that was
LOST it brings PEER_BACK (R42). The firings stand for no channel bound to them. -/
def Obligations.DiscardedAndRepeatedFrames : Prop :=
  ∀ (s : State) (n : Nat) (role : Role) (p : Payload) (q : Octet) (ownEcho : Bool), n ≤ 31 → p.inRange →
    let octets := frameOctets n role.code p q
    frameDue s octets ownEcho → s.frh.notice = none →
    let complete := exec (.frameComplete octets ownEcho) s
    let hunting := { s with lif := huntingLif s }
    let r := rowOf s n
    (ownEcho = true ∨ (n = ownNumber s ∧ s.lif.rxStartedSending = true) → complete = .next hunting) ∧
    (ownEcho = false → n ≠ ownNumber s →
      (¬ roleSends role p.kind → takingChannel (fire 4 n p.kind.code) s = none →
        complete = .next { hunting with evu := (enqueue (fire 4 n p.kind.code) s).evu }) ∧
      (∀ known, roleSends role p.kind → r.role = some known → known ≠ role → takingChannel (fire 4 n role.code) s = none →
        complete = .next { hunting with evu := (enqueue (fire 4 n role.code) s).evu }) ∧
      (roleSends role p.kind → r.role = none ∨ r.role = some role → r.lastSeq = some q →
        (r.condition = .lost → takingChannel (fire 7 n p.kind.code) s = none) →
        ∃ t, complete = .next t ∧
          t = { hunting with
            pvw := t.pvw, dtu := { s.dtu with recallTimer := t.dtu.recallTimer }
            evu := if r.condition = .lost then (enqueue (fire 7 n p.kind.code) s).evu else s.evu } ∧
          t.dtu.recallTimer =
            (if hasRole s .well = true ∧ s.dtu.duty = .resting then
              if recallConditions t then .running (1000 * recallTime s) else .stopped
            else s.dtu.recallTimer) ∧
          rowOf t n = { r with condition := .fresh, age := 0, role := some role } ∧
          (∀ m, m < 32 → m ≠ n → rowOf t m = rowOf s m)))

/-- FRAME_COMPLETE of an accepted frame, with no notice due (R26, R42, R43, R44, R45): its row is FRESH with age 0, the sender's
role, the frame's number and what the kind carries, and no other row moves. A row that was LOST brings PEER_BACK; a TURBINE or
EXCHANGE station does nothing else. In a WELL station (R94, R95, R96, R132) a REST-REPLY and a REST-ASK go to the negotiator; a
turbine's DEMAND with a cause enters it in the trip set with TRIP_IN, or moves its cause, and steps a running well down when no
trip was in force (R92; no word in another duty is the model's choice, log 41); its DEMAND without a cause, with detail 2, or its
CLEAR, with detail 1, removes it with TRIP_OUT; another DEMAND or CLEAR does nothing more. The firings stand for no channel bound
to them. -/
def Obligations.AcceptedFrameIsHandedOn : Prop :=
  ∀ (s : State) (n : Nat) (role : Role) (p : Payload) (q : Octet), n ≤ 31 → n ≠ ownNumber s → p.inRange →
    let octets := frameOctets n role.code p q
    frameDue s octets false → s.frh.notice = none → roleSends role p.kind →
    let r := rowOf s n
    r.role = none ∨ r.role = some role → r.lastSeq ≠ some q →
    let fresh := { r with condition := .fresh, age := 0, role := some role, lastSeq := some q }
    let back := if r.condition = .lost then (enqueue (fire 7 n p.kind.code) s).evu else s.evu
    ∃ t, exec (.frameComplete octets false) s = .next t ∧
      rowOf t n = (match p with
        | .stateReport d capacity flow silica =>
          let w : WellPart := { duty := some d, capacity := some capacity, flow := flow.map sentValue, silica := silica }
          { fresh with well := some w }
        | .demand d cause => { fresh with demand := some { demand := some d, cause := cause } }
        | .restAsk capacity =>
          let old := r.well.getD { duty := none, capacity := none, flow := none, silica := none }
          { fresh with well := some { old with capacity := some capacity } }
        | _ => fresh) ∧
      (∀ m, m < 32 → m ≠ n → rowOf t m = rowOf s m) ∧
      ((r.condition = .lost → takingChannel (fire 7 n p.kind.code) s = none) →
        let seen (timer : Timer) : State := { s with
          pvw := t.pvw, lif := huntingLif s, evu := back, dtu := { s.dtu with recallTimer := timer } }
        let after (u : Timer → State) : Prop := ∃ timer, (s.dtu.duty ≠ .resting → timer = s.dtu.recallTimer) ∧ t = u timer
        let left (detail : Nat) (timer : Timer) : State := { seen timer with
          evu := (enqueue (fire 27 n detail) { s with evu := back }).evu
          dtu := { s.dtu with tripSet := slotSet s.dtu.tripSet n none, recallTimer := timer } }
        (hasRole s .well = false → t = seen s.dtu.recallTimer) ∧
        (hasRole s .well = true →
          (∀ a k v, p = .restReply a k v → after fun timer => takeReply n a k (some v) (seen timer)) ∧
          (∀ c, p = .restAsk c → after fun timer => takeAsk n q (seen timer)) ∧
          (p = .clear → inTripSet s n = true → takingChannel (fire 27 n 1) s = none → after (left 1)) ∧
          (p = .clear → inTripSet s n = false → after seen) ∧
          (∀ d cause, p = .demand d cause →
            (role = .exchange ∨ (cause = 0 ∧ inTripSet s n = false) ∨ slotGet s.dtu.tripSet n none = some cause →
              role = .exchange ∨ cause ≠ 0 ∨ inTripSet s n = false → after seen) ∧
            (role = .turbine → cause = 0 → inTripSet s n = true → takingChannel (fire 27 n 2) s = none → after (left 2)) ∧
            (role = .turbine → cause ≠ 0 → slotGet s.dtu.tripSet n none ≠ some cause →
              takingChannel (fire 25 n cause) s = none →
              let steps := s.dtu.duty.runs && !tripInForce s
              let target := if steps then min s.dtu.target s.settings.tripFlow else s.dtu.target
              let setpoint :=
                if steps then movedSetpoint s.dtu.setpoint target s.settings.rampUp s.settings.tripRamp
                else s.dtu.setpoint
              after fun timer => { seen timer with
                evu := (enqueue (fire 25 n cause) { s with evu := back }).evu
                dtu := { s.dtu with
                  tripSet := slotSet s.dtu.tripSet n (some cause), target := target, setpoint := setpoint
                  setpt := if steps then dueWord s setpoint s.dtu.duty s.dtu.runReq else s.dtu.setpt
                  recallTimer := timer } }))))

/-! ### The peer view -/

/-- REFRESH_TICK (R38, R39, R48, R49, R167): every row ages as R48 and R49 give, the refresh count advances by one and wraps, and
in JOINING and ACTIVE the periodic entry of the role stands in its slot with what the station then holds; law 11: the DEMAND of a
TRIPPED turbine carries 0 and a cause, that of an ISOLATED exchange 0. -/
def Obligations.RefreshTickAgesRows : Prop :=
  ∀ s : State, works s = true →
    ∃ t, exec .refreshTick s = .next t ∧ (∀ n, n < 32 → rowOf t n = agedRow s.settings (rowOf s n)) ∧
      t.evu.refreshCount = (s.evu.refreshCount + 1) % 65536 ∧
      t = { s with
        pvw := t.pvw, rng := t.rng, evu := t.evu, msu := { s.msu with quantities := t.msu.quantities }
        frh := { s.frh with
          outbox := { s.frh.outbox with stateReport := t.frh.outbox.stateReport, demand := t.frh.outbox.demand }
          lastC := t.frh.lastC, lastDemand := t.frh.lastDemand }
        lif := { s.lif with tx := t.lif.tx }
        dtu := { s.dtu with
          duty := t.dtu.duty, derateTotal := t.dtu.derateTotal, quietCount := t.dtu.quietCount, target := t.dtu.target
          normalTarget := t.dtu.normalTarget, recallTimer := t.dtu.recallTimer } } ∧
      (keepsEntries s = true → hasRole s .well = true →
        ∃ e, t.frh.outbox.stateReport = some e ∧ e.payload = statePayload t ∧ e.seq = none) ∧
      (keepsEntries s = true → roleOf s = some .turbine ∨ roleOf s = some .exchange →
        ∃ e, t.frh.outbox.demand = some e ∧ e.payload = .demand (presentDemand s).1 (presentDemand s).2 ∧ e.seq = none) ∧
      (hasRole s .turbine = true →
        presentDemand s = if s.srg.trip = .normal then (s.srg.demand, 0) else (0, tripCauseCode s)) ∧
      (hasRole s .turbine = true → s.srg.trip ≠ .normal → tripCauseCode s ≠ 0) ∧
      (hasRole s .exchange = true → presentDemand s = (if s.xcp.isolated then 0 else s.xcp.demand, 0))

/-- R52: when a row contributes, and what it adds. -/
def Obligations.RowContributes : Prop :=
  ∀ (r : PeerRow) (d : Nat),
    contribution r = some d ↔
      (r.role = some .turbine ∨ r.role = some .exchange) ∧ (r.condition = .fresh ∨ r.condition = .stale) ∧
        ∃ p, r.demand = some p ∧ p.demand = some d

/-- The sums of the peer view (R51, R53, R54, R55, R56): D adds the demands of the rows that contribute, the peer capacity the
capacities of the counted WELL rows, and the two silica sums F x S and F of the counted rows in which both are valid; the
peer-starting flag stands while some WELL row that is FRESH or STALE is STARTING. Law 10 (R1, R49): the sums of two views are
equal when they differ in rows that are LOST or ABSENT in both. -/
def Obligations.SumsFollowTheRows : Prop :=
  (∀ s : State,
    let sum (f : PeerRow → Nat) : Nat := ((List.range 32).map fun n => f (rowOf s n)).sum
    let heard (r : PeerRow) : Bool := r.condition == .fresh || r.condition == .stale
    let well (r : PeerRow) : WellPart := r.well.getD { duty := none, capacity := none, flow := none, silica := none }
    let running (r : PeerRow) : Bool := r.role == some .well && heard r &&
      ((well r).duty == some .on || (well r).duty == some .asking || (well r).duty == some .refused)
    let both (r : PeerRow) : Bool := running r && (well r).flow.isSome && (well r).silica.isSome
    fieldDemand s = sum (fun r => (contribution r).getD 0) ∧
    peerCapacity s = sum (fun r => if running r then (well r).capacity.getD 0 else 0) ∧
    silicaFlowSum s = sum (fun r => if both r then (well r).flow.getD 0 * (well r).silica.getD 0 else 0) ∧
    flowSum s = sum (fun r => if both r then (well r).flow.getD 0 else 0) ∧
    (peerStarting s = true ↔
      ∃ n, n < 32 ∧ (rowOf s n).role = some .well ∧ heard (rowOf s n) = true ∧
        (well (rowOf s n)).duty = some .starting)) ∧
  (∀ s s' : State,
    (∀ n, n < 32 → rowOf s n = rowOf s' n ∨
      ((rowOf s n).condition ≠ .fresh ∧ (rowOf s n).condition ≠ .stale ∧
        (rowOf s' n).condition ≠ .fresh ∧ (rowOf s' n).condition ≠ .stale)) →
    fieldDemand s = fieldDemand s' ∧ peerCapacity s = peerCapacity s' ∧ silicaFlowSum s = silicaFlowSum s' ∧
      flowSum s = flowSum s' ∧ peerStarting s = peerStarting s')

/-! ### Measurements -/

/-- SAMPLE_OCTET (R59, R60, R61): the first three octets of a word are gathered; a fourth that is the check octet brings the value
to the latch of its channel, which refuses the fault key, then a value outside a mapped channel's range, and takes any other. -/
def Obligations.SampleWordReachesLatch : Prop :=
  ∀ (octet : Octet) (s : State), works s = true → s.msu.awaitHigh = false →
    (s.msu.gathered.length < 3 →
      exec (.sampleOctet octet) s = .next
        { s with msu := { s.msu with idleReached := false, gathered := s.msu.gathered ++ [octet] } }) ∧
    (∀ c lo hi : Octet, s.msu.gathered = [c, lo, hi] → octet = c ^^^ lo ^^^ hi ^^^ 0x5A → c.toNat < 8 →
      ∃ t l, exec (.sampleOctet octet) s = .next t ∧
        t = { s with msu := { s.msu with idleReached := false, gathered := [], latches := t.msu.latches } } ∧
        latchOf t c.toNat = l ∧ (∀ n, n < 8 → n ≠ c.toNat → latchOf t n = latchOf s n) ∧
        (let v := lo.toNat + 256 * hi.toNat
         let old := latchOf s c.toNat
         let refused (why : Refused) := { old with refusedCount := min 255 (old.refusedCount + 1), lastRefusal := some why }
         if v = s.settings.faultKey then l = refused .faultKey
         else if c.toNat < mappedChannels (roleOf s) ∧ acceptedMax (roleOf s) c.toNat < v then l = refused .range
         else l = { old with pending := some v, last := some v }))

/-- What the sample link rejects (R58, R59, R60): a wrong check octet with reason 3, also where the upper channel bits are not
zero (the model's choice, log 25), and non-zero upper channel bits with reason 4 (SAMPLE_OCTET), a framing fault (FRAMING_FAULT),
whose reason with a partial word in hand is 1 or 2 (log 10), and a partial word at the end of the twentieth idle bit time with
reason 2 (PARTIAL_WORD_DISCARD); SMP_IN_RELEASED ends the wait for a high level. -/
def Obligations.LinkRejections : Prop :=
  ∀ s : State, works s = true →
    let more := min 255 (s.msu.rejected + 1)
    (∀ c lo hi check : Octet, s.msu.awaitHigh = false → s.msu.gathered = [c, lo, hi] →
      (check ≠ c ^^^ lo ^^^ hi ^^^ 0x5A → exec (.sampleOctet check) s = .next
        { s with msu :=
          { s.msu with idleReached := false, gathered := [], rejected := more, lastRejection := some .checkOctet } }) ∧
      (check = c ^^^ lo ^^^ hi ^^^ 0x5A → 8 ≤ c.toNat → exec (.sampleOctet check) s = .next
        { s with msu :=
          { s.msu with idleReached := false, gathered := [], rejected := more, lastRejection := some .channelBits } })) ∧
    (s.msu.awaitHigh = false → ∃ r, exec .framingFault s = .next
        { s with msu := { s.msu with gathered := [], rejected := more, lastRejection := some r, awaitHigh := true } } ∧
      (s.msu.gathered = [] → r = .framing) ∧ (r = .framing ∨ r = .partialWord)) ∧
    (s.msu.idleReached = false → s.msu.gathered ≠ [] → exec .partialWordDiscard s = .next
      { s with msu :=
        { s.msu with idleReached := true, gathered := [], rejected := more, lastRejection := some .partialWord } }) ∧
    (s.msu.idleReached = false → s.msu.gathered = [] → exec .partialWordDiscard s = .next
      { s with msu := { s.msu with idleReached := true } }) ∧
    exec .smpInReleased s = .next { s with msu := { s.msu with awaitHigh := false } }

/-- SCAN_TICK (R61, R65, R67, R68, R73, R74): every latch's pending sample is emptied, every mapped quantity moves by the table of
R65, the margins Q4 of a WELL and Q8 of an EXCHANGE station follow their inputs, and every enabled window stands as its table
gives for its quantity (Q5, which a derate step may write later in the scan, left aside); a disabled one stands. With no channel
bound, QUANTITY_HELD and QUANTITY_INVALID by channel and then WINDOW_n of every enabled window in ALARM, by number, reach the
queue. The window table (R73): outside, well inside, between, and INVALID; a value below the low limit of a window and above its
high limit, which then stands below the low one, is ALARM on one of the two sides (log 24). -/
def Obligations.ScanUpdatesMeasured : Prop :=
  (∀ s : State, works s = true →
    ∃ t, exec .scanTick s = .next t ∧
      (∀ c, c < 8 → latchOf t c = { latchOf s c with pending := none }) ∧
      (∀ c, c < mappedChannels (roleOf s) →
        let old := quantityOf s c
        let new := quantityOf t c
        match (latchOf s c).pending, old.validity with
        | some v, _ => new = { validity := .valid, value := v, heldCount := 0 }
        | none, .valid => new = { old with validity := .held, heldCount := 1 }
        | none, .held =>
          new.value = old.value ∧ new.heldCount = min 255 (old.heldCount + 1) ∧
            new.validity = if new.heldCount ≤ s.settings.invalidLimit then .held else .invalid
        | none, .invalid => new = { old with heldCount := min 255 (old.heldCount + 1) }) ∧
      (∀ n, n < 8 →
        let c := windowConfig s n
        let before := slotGet s.msu.windows n .unknown
        (c.enabled = false → slotGet t.msu.windows n .unknown = before) ∧
        (c.enabled = true → c.quantity ≠ 5 →
          slotGet t.msu.windows n .unknown = evaluated c (quantityOf t c.quantity) before)) ∧
      (hasRole s .well = true →
        let p := quantityOf t 0
        let old := quantityOf s 4
        quantityOf t 4 =
          if p.validity = .invalid then { old with validity := if old.validity = .invalid then .invalid else .held }
          else { validity := p.validity, value := p.value - s.settings.bubblePoint, heldCount := 0 }) ∧
      (hasRole s .exchange = true →
        let a := quantityOf t 4
        let b := quantityOf t 6
        let old := quantityOf s 8
        quantityOf t 8 =
          if a.validity = .invalid ∨ b.validity = .invalid then
            { old with validity := if old.validity = .invalid then .invalid else .held }
          else
            { validity := if a.validity = .valid ∧ b.validity = .valid then .valid else .held
              value := a.value - b.value, heldCount := 0 }) ∧
      (noChannelBound s →
        let ofChannel (c : Nat) : List Firing :=
          if c < mappedChannels (roleOf s) then
            match (quantityOf s c).validity, (quantityOf t c).validity with
            | .valid, .held => [fire 9 c (quantityOf t c).value.toNat]
            | .held, .invalid => [fire 10 c (quantityOf t c).value.toNat]
            | _, _ => []
          else []
        let ofWindow (n : Nat) : List Firing :=
          match (windowConfig s n).enabled, slotGet t.msu.windows n .unknown with
          | true, .alarm .low => [fire (11 + n) n 1]
          | true, .alarm .high => [fire (11 + n) n 2]
          | _, _ => []
        t.evu = (((List.range 8).flatMap ofChannel ++ (List.range 8).flatMap ofWindow).foldl
          (fun u f => enqueue f u) s).evu) ∧
      t = { s with
        evu := t.evu
        msu := { s.msu with latches := t.msu.latches, quantities := t.msu.quantities, windows := t.msu.windows }
        dtu := { s.dtu with
          derateTotal := t.dtu.derateTotal, quietCount := t.dtu.quietCount, target := t.dtu.target
          recallTimer := t.dtu.recallTimer }
        frh := { s.frh with
          outbox := { s.frh.outbox with stateReport := t.frh.outbox.stateReport }, lastC := t.frh.lastC }
        lif := { s.lif with tx := t.lif.tx } }) ∧
  (∀ (c : WindowConfig) (q : Quantity) (before : WindowState),
    (q.validity = .invalid → evaluated c q before = .unknown) ∧
    (q.validity ≠ .invalid →
      (q.value < c.low → ¬ c.high < q.value → evaluated c q before = .alarm .low) ∧
      (c.high < q.value → ¬ q.value < c.low → evaluated c q before = .alarm .high) ∧
      (q.value < c.low → c.high < q.value → ∃ side, evaluated c q before = .alarm side) ∧
      (c.low ≤ q.value → q.value ≤ c.high →
        (c.low + c.hysteresis ≤ q.value ∧ q.value ≤ c.high - c.hysteresis → evaluated c q before = .clear) ∧
        (¬ (c.low + c.hysteresis ≤ q.value ∧ q.value ≤ c.high - c.hysteresis) → evaluated c q before = before))))

/-- R70 and R71: the lookup of a silica value in a strictly rising table finds its segment and computes the formula; the value at
a point is the point's temperature; the result lies between the segment's ends, so within 0..4000 where they do, and is the
straight line rounded half up; below the first point and from the last point on it is that point's temperature. -/
def Obligations.LookupInterpolates : Prop :=
  (∀ (front back : List TablePoint) (a b : TablePoint) (silica : Nat),
    tableGood (front ++ a :: b :: back) = true → a.silica ≤ silica → silica < b.silica →
    lookup (front ++ a :: b :: back) silica =
      ((a.temperature : Int) + (2 * ((silica : Int) - a.silica) * ((b.temperature : Int) - a.temperature) +
        ((b.silica : Int) - a.silica)) / (2 * ((b.silica : Int) - a.silica))).toNat ∧
    min a.temperature b.temperature ≤ lookup (front ++ a :: b :: back) silica ∧
    lookup (front ++ a :: b :: back) silica ≤ max a.temperature b.temperature ∧
    (a.temperature ≤ 4000 → b.temperature ≤ 4000 → lookup (front ++ a :: b :: back) silica ≤ 4000) ∧
    (silica = a.silica → lookup (front ++ a :: b :: back) silica = a.temperature) ∧
    (let exact := ((silica : Int) - a.silica) * ((b.temperature : Int) - a.temperature)
     let rounded := (lookup (front ++ a :: b :: back) silica : Int) - a.temperature
     let width := (b.silica : Int) - a.silica
     2 * exact - width < 2 * rounded * width ∧ 2 * rounded * width ≤ 2 * exact + width)) ∧
  (∀ (front : List TablePoint) (b : TablePoint) (silica : Nat),
    tableGood (front ++ [b]) = true → b.silica ≤ silica → lookup (front ++ [b]) silica = b.temperature) ∧
  (∀ (a : TablePoint) (back : List TablePoint) (silica : Nat), silica < a.silica → lookup (a :: back) silica = a.temperature)

/-! ### The duty unit -/

/-- R79, R80 and R81: a derate step lowers C_own by the step, not below 0, and sets the quiet count to 0; a scan without one lets
the quiet count grow and, from the recovery span on, gives one step back. A change of C_own writes Q5, brings the target of a
running well down to max(C_own, F_min), and makes a STATE entry where the publish step is reached. -/
def Obligations.DerateMovesCapacity : Prop :=
  ∀ s : State,
    let c := s.settings
    let quiet := min 255 (s.dtu.quietCount + 1)
    let recovers := c.recoverySpan ≤ quiet ∧ 0 < s.dtu.derateTotal
    let moved (total quiet : Nat) (t : State) : Prop :=
      t.dtu.derateTotal = total ∧ t.dtu.quietCount = quiet ∧ t.dtu.setpoint = s.dtu.setpoint ∧ t.dtu.duty = s.dtu.duty ∧
      t.evu = s.evu ∧ t.pvw = s.pvw ∧ t.rng = s.rng ∧ t.settings = s.settings ∧
      (∀ q, q < 11 → q ≠ 5 → quantityOf t q = quantityOf s q) ∧
      (total = s.dtu.derateTotal → t = { s with dtu := { s.dtu with quietCount := quiet } }) ∧
      (total ≠ s.dtu.derateTotal →
        quantityOf t 5 = { validity := .valid, value := (c.cRated - total : Nat), heldCount := 0 } ∧
        t.dtu.target = (if s.dtu.duty.runs then min s.dtu.target (max (c.cRated - total) c.fMin) else s.dtu.target) ∧
        (∀ p, s.frh.lastC = some p → distance (c.cRated - total) p < c.capacityStep → t.frh = s.frh ∧ t.lif = s.lif) ∧
        (keepsEntries s = true → (∀ p, s.frh.lastC = some p → c.capacityStep ≤ distance (c.cRated - total) p) →
          t.frh.lastC = some (c.cRated - total) ∧
          ∃ e, t.frh.outbox.stateReport = some e ∧ e.seq = none ∧
            e.payload = .stateReport s.dtu.duty (c.cRated - total) ((usableValue s 1).map Int.toNat)
              ((usableValue s 2).map Int.toNat)))
    moved (min c.cRated (s.dtu.derateTotal + c.derateStep)) 0 (derateStep s) ∧
    moved (if recovers then s.dtu.derateTotal - c.derateStep else s.dtu.derateTotal) quiet (scanNotice s)

/-- SHARE_TICK of a running WELL (R82, R83, R84, R85, R86, R87, R88, R89, R110): the share in proportion to capacity, or in
JOINING the normal target held; the target, one move of the setpoint, the setpoint word that falls due, and the quantities Q5 to
Q9. With no shortfall, and with a capacity that in ACTIVE and ON is not below F_min, the duty and every other block stand. Outside
JOINING a demand above the capacity sum offers SHORTFALL with the part not covered, and in ACTIVE an ON with C_own below F_min
becomes ASKING with its REST-ASK, both said for no channel bound. -/
def Obligations.RunningWellTakesShare : Prop :=
  ∀ s : State, works s = true → hasRole s .well = true → s.dtu.duty.runs = true →
    let short := s.frh.lineState ≠ .joining ∧ cOwn s + peerCapacity s < fieldDemand s
    let asks := s.frh.lineState = .active ∧ s.dtu.duty = .on ∧ cOwn s < s.settings.fMin
    let shortfall : Firing := fireDetail 20 (min 65535 (fieldDemand s - (cOwn s + peerCapacity s)))
    let share := if cOwn s + peerCapacity s = 0 then 0 else fieldDemand s * cOwn s / (cOwn s + peerCapacity s)
    let normal := min (max (if s.frh.lineState = .joining then s.dtu.normalTarget else share) s.settings.fMin)
      (max (cOwn s) s.settings.fMin)
    let target := if tripInForce s then min normal s.settings.tripFlow else normal
    let setpoint := movedSetpoint s.dtu.setpoint target s.settings.rampUp
      (if tripInForce s then s.settings.tripRamp else s.settings.rampDown)
    ∃ t, exec .shareTick s = .next t ∧
      ((¬ short ∧ ¬ asks) ∨ noChannelBound s →
      (¬ asks →
        t = { s with
          dtu := { s.dtu with
            normalTarget := normal, target := target, setpoint := setpoint
            setpt := dueWord s setpoint s.dtu.duty s.dtu.runReq }
          evu := if short then (enqueue shortfall s).evu else s.evu
          msu := { s.msu with quantities := t.msu.quantities } }) ∧
      (asks →
        t = { s with
          dtu := { s.dtu with
            duty := .asking, normalTarget := normal, target := target, setpoint := setpoint, recallTimer := .stopped
            setpt := dueWord s setpoint .asking s.dtu.runReq }
          rng := { s.rng with ask := .waiting }, lif := { s.lif with tx := t.lif.tx }
          frh := { s.frh with
            outbox := { s.frh.outbox with
              restAsk := some (replacing s.frh.outbox.restAsk (.restAsk (cOwn s)))
              stateReport := t.frh.outbox.stateReport }
            lastC := some (cOwn s) }
          evu := (enqueue (fire 24 3 2) (if short then enqueue shortfall s else s)).evu
          msu := { s.msu with quantities := t.msu.quantities } } ∧ statePublished .asking t) ∧
      quantityOf t 5 = { validity := .valid, value := cOwn s, heldCount := 0 } ∧
      quantityOf t 6 =
        { validity := if s.frh.lineState = .joining then .held else .valid, value := target, heldCount := 0 } ∧
      quantityOf t 7 = { validity := .valid, value := setpoint, heldCount := 0 } ∧
      quantityOf t 8 = { validity := .valid, value := fieldDemand s, heldCount := 0 } ∧
      quantityOf t 9 = { validity := .valid, value := (cOwn s + peerCapacity s : Nat), heldCount := 0 } ∧
      (∀ q, q < 11 → q < 5 ∨ 9 < q → quantityOf t q = quantityOf s q))

/-- RECALL_EXPIRY in a WELL station, and WAKE in RESTING with RUN_ACK low (R102, R105, R106, R115): STARTING, with setpoint and
target 0 and the start timer running; RUN_REQ is high exactly when the filtered RUN_ACK is low; a STATE carrying STARTING is kept.
RUN_ACK_RISING (R89, R101, R106): the filtered level rises in every station; in STARTING with RUN_REQ high and no acknowledge yet
it is the acknowledge, after which the pump runs at F_min for the warm-up, or is ON at once where the warm-up is 0. -/
def Obligations.RecallAndWakeStartThePump : Prop :=
  (∀ s : State, works s = true → hasRole s .well = true →
    (∀ c : Instr,
      (c = .recallExpiry ∧ s.dtu.recallTimer ≠ .stopped ∧ s.dtu.duty = .resting) ∨
        (c = .wake ∧ takeable 0x11 s = true ∧ s.dtu.duty = .resting ∧ s.dtu.runAck = false) →
      ∃ t, exec c s = .next t ∧ OnlyDriveMoves s t ∧
        t.dtu = { s.dtu with
          duty := .starting, setpoint := 0, target := 0, runReq := !s.dtu.runAck
          startTimer := .running (1000 * s.settings.startTimeout), warmTimer := .stopped, stopTimer := .stopped
          recallTimer := .stopped
          setpt := if s.dtu.setpoint = 0 then s.dtu.setpt else dueWord s 0 .starting (!s.dtu.runAck)
          derateTotal := t.dtu.derateTotal, quietCount := t.dtu.quietCount } ∧
        t.rng = s.rng ∧ (keepsEntries s = true → statePublished .starting t) ∧
        t.pnp = if c = .wake then { phase := .response true [0] .nothing, pdo := 0 } else s.pnp)) ∧
  (∀ s : State, s.pins.resetLow = false → s.dtu.runAck = false →
    (¬ (works s = true ∧ hasRole s .well = true ∧ s.dtu.duty = .starting ∧ s.dtu.runReq = true ∧
        s.dtu.warmTimer = .stopped) →
      exec .runAckRising s = .next { s with dtu := { s.dtu with runAck := true } }) ∧
    (works s = true → hasRole s .well = true → s.dtu.duty = .starting → s.dtu.runReq = true → s.dtu.warmTimer = .stopped →
      let acknowledged := { s with dtu :=
        { s.dtu with
          runAck := true, startTimer := .stopped, target := s.settings.fMin, setpoint := s.settings.fMin
          warmTimer := .running (1000 * s.settings.warmUp), setpt := dueWord s s.settings.fMin .starting true } }
      (s.settings.warmUp ≠ 0 → exec .runAckRising s = .next acknowledged) ∧
      (s.settings.warmUp = 0 → ∃ t, exec .runAckRising s = .next t ∧ OnlyDriveMoves acknowledged t ∧
        t.dtu = { acknowledged.dtu with
          duty := .on, warmTimer := .stopped, normalTarget := s.settings.fMin, recallTimer := .stopped
          target := t.dtu.target, derateTotal := t.dtu.derateTotal, quietCount := t.dtu.quietCount } ∧
        targetLowered acknowledged t ∧ t.rng = s.rng ∧ t.pnp = s.pnp ∧ (keepsEntries s = true → statePublished .on t))))

/-- RUN_ACK_FALLING by duty (R100, R101, R108, R112, R113, R114): RUN_REQ rises in a STARTING that held it; a running pump is
lost, and the duty is FAULT with RUN_REQ low, setpoint and target 0 and the duty timers stopped; the stop a STOPPING asked for is
complete, and the duty is RESTING (R103), with the target 0 at that entry (the model's choice, log 8); in the other cases, and
outside a working WELL station, only the filtered level falls. -/
def Obligations.FallingAckByDuty : Prop :=
  ∀ s : State, s.pins.resetLow = false → s.dtu.runAck = true →
    let fallen := { s with dtu := { s.dtu with runAck := false } }
    let halted (duty : Duty) (t : State) : Dtu :=
      { fallen.dtu with
        duty := duty, runReq := false, setpoint := 0, target := 0, startTimer := .stopped, warmTimer := .stopped
        stopTimer := .stopped, recallTimer := t.dtu.recallTimer
        setpt := if s.dtu.setpoint = 0 then s.dtu.setpt else dueWord s 0 duty false
        derateTotal := t.dtu.derateTotal, quietCount := t.dtu.quietCount }
    (¬ (works s = true ∧ hasRole s .well = true) → exec .runAckFalling s = .next fallen) ∧
    (works s = true → hasRole s .well = true →
      (s.dtu.duty = .starting → s.dtu.runReq = false →
        exec .runAckFalling s = .next { fallen with dtu := { fallen.dtu with runReq := true } }) ∧
      (s.dtu.duty = .starting → s.dtu.runReq = true → s.dtu.warmTimer = .stopped → exec .runAckFalling s = .next fallen) ∧
      (s.dtu.duty.runs = true ∨ s.dtu.duty = .stopping ∨ (s.dtu.duty = .starting ∧ s.dtu.warmTimer ≠ .stopped) →
        s.dtu.runReq = true →
        ∃ t, exec .runAckFalling s = .next t ∧ OnlyDriveMoves fallen t ∧ t.dtu = halted .fault t ∧
          t.dtu.recallTimer = .stopped ∧
          t.rng = (if s.dtu.duty = .asking then { s.rng with ask := .idle }
            else if s.dtu.duty = .refused then { s.rng with holdOff := .stopped } else s.rng) ∧
          t.pnp = s.pnp ∧ faultOut t = true ∧ (keepsEntries s = true → statePublished .fault t)) ∧
      (s.dtu.duty = .stopping → s.dtu.runReq = false →
        ∃ t, exec .runAckFalling s = .next t ∧ OnlyDriveMoves fallen t ∧ t.dtu = halted .resting t ∧
          t.dtu.recallTimer = (if recallConditions t then .running (1000 * recallTime s) else .stopped) ∧
          t.rng = s.rng ∧ t.pnp = s.pnp ∧ (keepsEntries s = true → statePublished .resting t)) ∧
      (s.dtu.duty = .resting ∨ s.dtu.duty = .fault → exec .runAckFalling s = .next fallen))

/-- START_TIMEOUT and STOP_TIMEOUT end in FAULT, WARM_UP_EXPIRY in ON with the normal target at F_min; the share tick that brings
the setpoint of a STOPPING to F_min ends its ramp: RUN_REQ falls, the setpoint is 0 and the stop timer runs (R107, R108, R113,
R114). At every other share tick in a duty that does not run (R82, R83, R86, R88, R89, R104) the target is F_min in STARTING from
the acknowledge on and in STOPPING, and 0 otherwise; the setpoint moves toward it from the acknowledge on and in a STOPPING that
holds RUN_REQ, and stands otherwise; a setpoint word falls due, RESTING tests the recall conditions, and Q5 to Q9 are written. -/
def Obligations.DutyTimersEnd : Prop :=
  ∀ s : State, works s = true → hasRole s .well = true →
    (∀ c : Instr,
      (c = .startTimeout ∧ s.dtu.startTimer ≠ .stopped ∧ s.dtu.duty = .starting) ∨
        (c = .stopTimeout ∧ s.dtu.stopTimer ≠ .stopped ∧ s.dtu.duty = .stopping) →
      ∃ t, exec c s = .next t ∧ OnlyDriveMoves s t ∧
        t.dtu = { s.dtu with
          duty := .fault, runReq := false, setpoint := 0, target := 0, startTimer := .stopped, warmTimer := .stopped
          stopTimer := .stopped, recallTimer := .stopped
          setpt := if s.dtu.setpoint = 0 then s.dtu.setpt else dueWord s 0 .fault false
          derateTotal := t.dtu.derateTotal, quietCount := t.dtu.quietCount } ∧
        t.rng = s.rng ∧ t.pnp = s.pnp ∧ faultOut t = true ∧ (keepsEntries s = true → statePublished .fault t)) ∧
    (s.dtu.warmTimer ≠ .stopped → s.dtu.duty = .starting →
      ∃ t, exec .warmUpExpiry s = .next t ∧ OnlyDriveMoves s t ∧
        t.dtu = { s.dtu with
          duty := .on, warmTimer := .stopped, normalTarget := s.settings.fMin, recallTimer := .stopped
          target := t.dtu.target, derateTotal := t.dtu.derateTotal, quietCount := t.dtu.quietCount } ∧
        targetLowered s t ∧ t.rng = s.rng ∧ t.pnp = s.pnp ∧ (keepsEntries s = true → statePublished .on t)) ∧
    (s.dtu.duty = .stopping → s.dtu.runReq = true →
      movedSetpoint s.dtu.setpoint s.settings.fMin s.settings.rampUp
        (if tripInForce s then s.settings.tripRamp else s.settings.rampDown) = s.settings.fMin →
      ∃ t, exec .shareTick s = .next t ∧
        t = { s with
          msu := { s.msu with quantities := t.msu.quantities }
          dtu := { s.dtu with
            target := s.settings.fMin, setpoint := 0, runReq := false, stopTimer := .running (1000 * s.settings.stopTimeout)
            setpt := dueWord s 0 .stopping false } } ∧
        quantityOf t 7 = { validity := .valid, value := 0, heldCount := 0 }) ∧
    (s.dtu.duty.runs = false →
      let acknowledged := s.dtu.duty = .starting ∧ s.dtu.warmTimer ≠ .stopped
      let stops := s.dtu.duty = .stopping ∧ s.dtu.runReq = true
      let target := if acknowledged ∨ s.dtu.duty = .stopping then s.settings.fMin else 0
      let setpoint := if acknowledged ∨ stops then
          movedSetpoint s.dtu.setpoint target s.settings.rampUp
            (if tripInForce s then s.settings.tripRamp else s.settings.rampDown)
        else s.dtu.setpoint
      ¬ (stops ∧ setpoint = s.settings.fMin) →
      ∃ t, exec .shareTick s = .next t ∧
        t = { s with
          msu := { s.msu with quantities := t.msu.quantities }
          dtu := { s.dtu with
            target := target, setpoint := setpoint, setpt := dueWord s setpoint s.dtu.duty s.dtu.runReq
            recallTimer :=
              if s.dtu.duty = .resting then
                if recallConditions s then .running (1000 * recallTime s) else .stopped
              else s.dtu.recallTimer } } ∧
        quantityOf t 5 = { validity := .valid, value := cOwn s, heldCount := 0 } ∧
        quantityOf t 6 = { validity := .valid, value := target, heldCount := 0 } ∧
        quantityOf t 7 = { validity := .valid, value := setpoint, heldCount := 0 } ∧
        quantityOf t 8 = { validity := .valid, value := fieldDemand s, heldCount := 0 } ∧
        quantityOf t 9 = { validity := .valid, value := (cOwn s + peerCapacity s : Nat), heldCount := 0 } ∧
        (∀ q, q < 11 → q < 5 ∨ 9 < q → quantityOf t q = quantityOf s q))

/-- SETPOINT_WORD_END, when nothing but the last stop bit of a word is left: a waiting word begins with its values taken then, and
SETPT is idle otherwise. A word with more to go is not cut short, and an idle line stays idle (the model's choice, log 3).
DOSE_PULSE_END: the output goes low (R89, R177, R192). -/
def Obligations.SerialWordAndPulseEnd : Prop :=
  (∀ (s : State) (octets : List Octet) (last : Bool), works s = true →
    (∀ b b' bits waiting, s.dtu.setpt = .sending octets (b :: b' :: bits) waiting → exec .setpointWordEnd s = .next s) ∧
    (s.dtu.setpt = .idle → exec .setpointWordEnd s = .next s) ∧
    (s.dtu.setpt = .sending octets [last] false →
      exec .setpointWordEnd s = .next { s with dtu := { s.dtu with setpt := .idle } }) ∧
    (s.dtu.setpt = .sending octets [last] true →
      let word := setpointOctets s.dtu.setpoint s.dtu.duty s.dtu.runReq
      let levels := word.flatMap fun o => false :: ((List.range 8).map o.getLsbD ++ [true])
      exec .setpointWordEnd s = .next { s with dtu := { s.dtu with setpt := .sending word levels false } })) ∧
  (∀ s : State, s.pins.resetLow = false →
    exec (.dosePulseEnd .dose0) s = .next { s with evu := { s.evu with dose0 := .stopped } } ∧
    exec (.dosePulseEnd .dose1) s = .next { s with evu := { s.evu with dose1 := .stopped } })

/-- Law 9 (R1, R111, R124, R126, R127, R128, R130): a station enters STOPPING from ASKING alone, by one of three commands, and the
ask is then over. At ATTEMPT_SENT of the REST-ASK every FRESH counted WELL row holds an early verdict AGREE, or there is no such
row and the own evaluation passes. At FRAME_COMPLETE the frame is an AGREE, to this station and this ask, of a member of the roll,
and every other member holds AGREE. At REFRESH_TICK a member whose row moves is struck off: every member left on the roll then
holds AGREE, or none is left and the own evaluation passes in the view with the rows up to that member's aged. That the rows are
aged, and members struck off, in ascending order of station number is the model's choice (log 7): R48 gives no order. -/
def Obligations.StoppingOnlyFromAsking : Prop :=
  ∀ (c : Instr) (s t : State), exec c s = .next t → t.dtu.duty = .stopping → s.dtu.duty ≠ .stopping →
    let passes (u : State) : Prop := fieldDemand u + u.settings.reserve ≤ peerCapacity u
    let agreed := some (some Verdict.agree)
    s.dtu.duty = .asking ∧ t.rng.ask = .idle ∧
    ((∃ q early f, c = .attemptSent ∧ s.rng.ask = .sending q early ∧ s.frh.inFlight = some f ∧
        f.entry.payload.kind = .restAsk ∧ f.entry.seq = some q ∧
        let member (n : Nat) : Prop := (rowOf s n).condition = .fresh ∧ counted (rowOf s n) = true
        (∀ n, n < 32 → member n → slotGet early n none = some .agree) ∧ ((∃ n, n < 32 ∧ member n) ∨ passes s)) ∨
      (∃ q roll timer n octets own, c = .frameComplete octets own ∧ s.rng.ask = .window q roll timer ∧
        n = senderOf (octets.getD 0 0) ∧ kindCodeOf (octets.getD 1 0) = 4 ∧ (octets.getD 3 0).toNat = ownNumber s ∧
        octets.getD 4 0 = q ∧ octets.getD 5 0 = 1 ∧
        (slotGet roll n none).isSome = true ∧
        (∀ m, m < 32 → m ≠ n → slotGet roll m none = none ∨ slotGet roll m none = agreed)) ∨
      (∃ q roll timer k, c = .refreshTick ∧ s.rng.ask = .window q roll timer ∧ k < 32 ∧
        let moves (n : Nat) : Prop := (agedRow s.settings (rowOf s n)).condition ≠ (rowOf s n).condition
        let left (n : Nat) : Prop := n < 32 ∧ (slotGet roll n none).isSome = true ∧ ¬ (n ≤ k ∧ moves n)
        (slotGet roll k none).isSome = true ∧ moves k ∧ (∀ n, left n → slotGet roll n none = agreed) ∧
        ((∃ n, left n) ∨ ∃ u, u.settings = s.settings ∧ passes u ∧
          ∀ n, n < 32 → rowOf u n = if n ≤ k then agedRow s.settings (rowOf s n) else rowOf s n)))

/-- Laws 1, 2 and 3 with the handshake (R1, R77, R78, R81, R84, R86, R88, R100): every command keeps them, from every state that
meets them. -/
def Obligations.DriveStaysSafe : Prop :=
  ∀ (s t : State), DriveSafe s → step s = .next t → DriveSafe t

/-! ### Trips -/

/-- FRAME_COMPLETE of a turbine's TRIP at a WELL station that does not hold it (R26, R42, R90, R92, R93, R94), with no channel
bound to its firing: the row is FRESH, the turbine enters the trip set with its cause, TRIP_IN is offered and its early notice is
over; when no trip was in force, a running well takes one trip step; that no setpoint word is sent in another duty is the model's
choice (log 41). -/
def Obligations.TripFrameEntersSet : Prop :=
  ∀ (s : State) (n : Nat) (cause : TripCause) (q : Octet),
    let octets := frameOctets n 1 (.trip cause) q
    frameDue s octets false → hasRole s .well = true → n ≤ 31 →
    n ≠ ownNumber s → s.frh.notice = none ∨ s.frh.notice = some n →
    (rowOf s n).role = none ∨ (rowOf s n).role = some .turbine → (rowOf s n).condition ≠ .lost →
    (rowOf s n).lastSeq ≠ some q → inTripSet s n = false → takingChannel (fire 25 n cause.code) s = none →
    let steps := s.dtu.duty.runs && !tripInForce s
    let target := if steps then min s.dtu.target s.settings.tripFlow else s.dtu.target
    let setpoint :=
      if steps then movedSetpoint s.dtu.setpoint target s.settings.rampUp s.settings.tripRamp else s.dtu.setpoint
    ∃ t, exec (.frameComplete octets false) s = .next t ∧
      t = { s with
        pvw := t.pvw, evu := (enqueue (fire 25 n cause.code) s).evu, frh := { s.frh with notice := none }
        lif := huntingLif s
        dtu := { s.dtu with
          tripSet := slotSet s.dtu.tripSet n (some cause.code), target := target, setpoint := setpoint
          pendingTrip := if s.dtu.pendingTrip = some n then none else s.dtu.pendingTrip
          setpt := if steps then dueWord s setpoint s.dtu.duty s.dtu.runReq else s.dtu.setpt
          recallTimer := if s.dtu.duty = .resting then .stopped else s.dtu.recallTimer } } ∧
      rowOf t n = { rowOf s n with condition := .fresh, role := some .turbine, age := 0, lastSeq := some q } ∧
      (∀ m, m < 32 → m ≠ n → rowOf t m = rowOf s m)

/-- Law 12 (R1, R50, R90): every command keeps the trip set within the rows of role TURBINE. -/
def Obligations.TripSetStaysLawful : Prop :=
  ∀ (s t : State), Law12 s → step s = .next t → Law12 t

/-! ### Rest negotiation -/

/-- R132 and R133: what a replier answers to an ask. The capacity that would remain without the asker is compared with the demand
and the reserve, a full grant list comes first, an AGREE makes a grant, and the reply to the asker stands in the outbox. -/
def Obligations.ReplierAnswersAsk : Prop :=
  ∀ (s : State) (asker : Nat) (q : Octet), s.frh.lineState = .active → s.dtu.duty.runs = true →
    (s.frh.outbox.replies.length < 4 ∨ (s.frh.outbox.replies.any fun e => addresseeOf e == some asker) = true) →
    let grants := s.rng.grants.filter fun g => g.asker != asker
    let askerCapacity := if counted (rowOf s asker) then rowCapacity (rowOf s asker) else 0
    let remaining : Int :=
      (if s.dtu.duty = .asking then 0 else (cOwn s : Int)) + peerCapacity s - askerCapacity - (grants.map (·.capacity)).sum
    let verdict : Verdict :=
      if grants.length ≥ 4 then .refuseFull
      else if remaining ≥ fieldDemand s + s.settings.reserve then .agree else .refuseShort
    ∃ t, takeAsk asker q s = t ∧
      t.rng = { s.rng with grants :=
        if verdict = .agree then
          grants ++ [{ asker := asker, capacity := askerCapacity, hold := .running (1000 * s.settings.grantHold) }]
        else grants } ∧
      (∃ e ∈ t.frh.outbox.replies, e.payload = .restReply asker q verdict ∧ e.seq = none) ∧
      t = { s with
        rng := t.rng
        frh := { s.frh with outbox := { s.frh.outbox with replies := t.frh.outbox.replies } }
        lif := { s.lif with tx := t.lif.tx } }

/-- The roll of an ask in WINDOW (R111, R114, R126, R127, R128, R130), and the early verdicts in SENDING (R125). The test of a
roll refuses the ask for its member of lowest number that holds a refusal, agrees it when all of one member or more hold AGREE,
and lets the window run otherwise. A reply to this station and this ask sets the verdict of its sender on the roll, and the roll
is tested; any other is ignored. A member struck off leaves the roll; the rest is tested, and an empty roll is decided by the own
evaluation. A decision brings its event and the duty REFUSED or STOPPING, and the ask is over. Its firings may bring derate steps,
which lower the target to max(C_own, F_min) while the well still runs, and move none in STOPPING (R81). -/
def Obligations.RollDecidesTheAsk : Prop :=
  (∀ (s : State) (q : Octet) (roll : Vector (Option (Option Verdict)) 32) (timer : Timer),
    s.rng.ask = .window q roll timer → s.dtu.duty = .asking →
    let decided (duty : Duty) (firing : Firing) (t : State) : Prop :=
      OnlyDriveMoves s t ∧
        t.dtu = { s.dtu with
          duty := duty, recallTimer := .stopped, target := t.dtu.target, derateTotal := t.dtu.derateTotal
          quietCount := t.dtu.quietCount } ∧
        (duty = .refused → targetLowered s t) ∧
        min s.dtu.target (capacityCeiling t) ≤ t.dtu.target ∧ t.dtu.target ≤ s.dtu.target ∧
        t.pnp = s.pnp ∧ (keepsEntries s = true → statePublished duty t) ∧
        t.rng = { s.rng with
          ask := .idle
          holdOff := if duty = .refused then .running (1000 * s.settings.refusedHoldOff) else s.rng.holdOff } ∧
        (noChannelBound s →
          t.dtu.target = s.dtu.target ∧ t.evu = (enqueue (fire 24 duty.code 3) (enqueue firing s)).evu)
    let entry (n : Nat) : Option (Option Verdict) := slotGet roll n none
    let holding (r : Vector (Option (Option Verdict)) 32) : State :=
      { s with rng := { s.rng with ask := .window q r timer } }
    (∀ n v, n < 32 → entry n = some (some v) → v ≠ .agree →
      (∀ m, m < n → entry m = none ∨ entry m = some none ∨ entry m = some (some .agree)) →
      decided .refused (fire 29 n v.code) (testRoll s)) ∧
    ((∃ n, n < 32 ∧ entry n ≠ none) → (∀ n, n < 32 → entry n = none ∨ entry n = some (some .agree)) →
      decided .stopping (fireDetail 28 ((List.range 32).countP fun n => (entry n).isSome)) (testRoll s)) ∧
    ((∀ n, n < 32 → entry n = none ∨ entry n = some none ∨ entry n = some (some .agree)) →
      (∃ n, n < 32 ∧ entry n = some none) → testRoll s = s) ∧
    (∀ n a k v, n < 32 →
      takeReply n a k v s =
        match v with
        | some verdict =>
          if a = ownNumber s ∧ k = q ∧ entry n ≠ none then testRoll (holding (slotSet roll n (some (some verdict)))) else s
        | none => s) ∧
    (∀ n, n < 32 → entry n = none → strikeOff n s = s) ∧
    (∀ n, n < 32 → entry n ≠ none →
      ((∃ m, m < 32 ∧ m ≠ n ∧ entry m ≠ none) → strikeOff n s = testRoll (holding (slotSet roll n none))) ∧
      ((∀ m, m < 32 → m ≠ n → entry m = none) →
        if fieldDemand s + s.settings.reserve ≤ peerCapacity s then decided .stopping (fireDetail 28 0) (strikeOff n s)
        else decided .refused (fireDetail 29 5) (strikeOff n s)))) ∧
  (∀ (s : State) (q : Octet) (early : Vector (Option Verdict) 32) (n a : Nat) (k : Octet) (v : Option Verdict),
    s.rng.ask = .sending q early →
    takeReply n a k v s =
      if v.isSome = true ∧ a = ownNumber s ∧ k = q then
        { s with rng := { s.rng with ask := .sending q (slotSet early n v) } }
      else s)

/-- REPLY_WINDOW_EXPIRY refuses an ask for the member of lowest number that still holds NONE, and the well is REFUSED with the
hold-off running; HOLD_OFF_EXPIRY returns it to ON; GRANT_HOLD_EXPIRY removes the asker's grant alone (R111, R129, R135, R136). -/
def Obligations.NegotiationTimersEnd : Prop :=
  (∀ (s : State) (q : Octet) (roll : Vector (Option (Option Verdict)) 32) (timer : Timer) (n : Nat), works s = true →
    s.rng.ask = .window q roll timer → n < 32 → slotGet roll n none = some none →
    (∀ m, m < n → slotGet roll m none ≠ some none) → s.dtu.duty = .asking →
    ∃ t, exec .replyWindowExpiry s = .next t ∧ OnlyDriveMoves s t ∧
      t.dtu = { s.dtu with
        duty := .refused, recallTimer := .stopped, target := t.dtu.target, derateTotal := t.dtu.derateTotal
        quietCount := t.dtu.quietCount } ∧
      targetLowered s t ∧ t.rng = { s.rng with ask := .idle, holdOff := .running (1000 * s.settings.refusedHoldOff) } ∧
      t.pnp = s.pnp ∧ (keepsEntries s = true → statePublished .refused t) ∧
      (noChannelBound s →
        t.evu = (enqueue (fire 24 4 3) (enqueue { source := 29, subject := some n, detail := some 4 } s)).evu)) ∧
  (∀ s : State, works s = true → s.rng.holdOff ≠ .stopped → s.dtu.duty = .refused →
    ∃ t, exec .holdOffExpiry s = .next t ∧ OnlyDriveMoves s t ∧
      t.dtu = { s.dtu with
        duty := .on, recallTimer := .stopped, target := t.dtu.target, derateTotal := t.dtu.derateTotal
        quietCount := t.dtu.quietCount } ∧
      targetLowered s t ∧ t.rng = { s.rng with holdOff := .stopped } ∧ t.pnp = s.pnp ∧
      (keepsEntries s = true → statePublished .on t)) ∧
  (∀ (s : State) (asker : Nat), works s = true →
    exec (.grantHoldExpiry asker) s = .next
      { s with rng := { s.rng with grants := s.rng.grants.filter fun g => g.asker != asker } })

/-- Law 8 (R1, R134): every command keeps the grant list lawful. -/
def Obligations.GrantListStaysLawful : Prop :=
  ∀ (s t : State), Law8 s → step s = .next t → Law8 t

/-! ### The turbine and the exchange -/

/-- TRIP_IN_ACTIVE at a working TURBINE station (R147, R148, R149): TRIPPED with cause 1, D_t 0 on the move from NORMAL, the
integrator frozen, and in JOINING and ACTIVE a TRIP, no CLEAR, and a DEMAND of 0 with the cause in the outbox; a station already
TRIPPED with cause 1, and any other station, takes the filtered level alone, as at TRIP_IN_INACTIVE. A share tick in NORMAL that
finds P_h VALID above the trip pressure trips the station with cause 2 in the same way. -/
def Obligations.TripInputTripsTurbine : Prop :=
  ∀ s : State, s.pins.resetLow = false →
    let level (active : Bool) := { s with srg := { s.srg with tripIn := active } }
    (s.srg.tripIn = false → works s = true → hasRole s .turbine = true → s.srg.trip ≠ .tripped .tripIn →
      ∃ t, exec .tripInActive s = .next t ∧
        t = { s with
          srg := { s.srg with
            tripIn := true, trip := .tripped .tripIn, demand := if s.srg.trip = .normal then 0 else s.srg.demand }
          evu := t.evu, msu := { s.msu with quantities := t.msu.quantities }
          frh := { s.frh with
            outbox := { s.frh.outbox with
              trip := t.frh.outbox.trip, clear := if keepsEntries s then none else s.frh.outbox.clear
              demand := t.frh.outbox.demand, stateReport := t.frh.outbox.stateReport }
            inFlight := if keepsEntries s then doomClear s.frh.inFlight else s.frh.inFlight
            lastDemand := if keepsEntries s then some 0 else s.frh.lastDemand, lastC := t.frh.lastC }
          lif := { s.lif with tx := t.lif.tx }
          dtu := { s.dtu with
            derateTotal := t.dtu.derateTotal, quietCount := t.dtu.quietCount, target := t.dtu.target } } ∧
        (keepsEntries s = true →
          t.frh.outbox.trip = some (replacing s.frh.outbox.trip (.trip .tripIn)) ∧
          t.frh.outbox.demand = some (replacing s.frh.outbox.demand (.demand 0 1)))) ∧
    (s.srg.tripIn = false → ¬ (works s = true ∧ hasRole s .turbine = true ∧ s.srg.trip ≠ .tripped .tripIn) →
      exec .tripInActive s = .next (level true)) ∧
    (s.srg.tripIn = true → exec .tripInActive s = .next s) ∧
    exec .tripInInactive s = .next (level false) ∧
    (works s = true → hasRole s .turbine = true → s.srg.trip = .normal → (quantityOf s 0).validity = .valid →
      (s.settings.pTrip : Int) < (quantityOf s 0).value →
      ∃ t, exec .shareTick s = .next t ∧
        t.srg = { s.srg with
          demand := 0, trip := .tripped .headerHigh, error := (s.settings.pSet : Int) - (quantityOf s 0).value } ∧
        (keepsEntries s = true →
          t.frh.outbox.trip = some (replacing s.frh.outbox.trip (.trip .headerHigh)) ∧ t.frh.outbox.clear = none ∧
            t.frh.outbox.demand = some (replacing s.frh.outbox.demand (.demand 0 2))))

/-- R142, R143 and R144: the regulator law keeps the integrator within 0..256 × D_t_max, winds no further beyond a limit, never
needs its clamp at 0, and D_t lies within 0..D_t_max. -/
def Obligations.RegulatorStaysInRange : Prop :=
  ∀ (c : Settings) (i : Nat) (p : Int), i ≤ 256 * c.turbineLimit →
    let e := (c.pSet : Int) - p
    let candidate := (i : Int) + (c.ki : Int) * e
    let u := (c.kp : Int) * e / 16 + candidate / 256
    let winds := ((c.turbineLimit : Int) < u ∧ 0 < e) ∨ (u < 0 ∧ e < 0)
    let r := regulatorLaw c i p
    r.error = e ∧ (winds → r.integrator = i ∧ r.output = (c.kp : Int) * e / 16 + (i : Int) / 256) ∧
      (¬ winds → 0 ≤ candidate ∧ (r.integrator : Int) = min candidate (256 * c.turbineLimit) ∧ r.output = u) ∧
      r.integrator ≤ 256 * c.turbineLimit ∧
      (clampDemand c r.output : Int) = max 0 (min r.output c.turbineLimit)

/-- SHARE_TICK of a TURBINE station. In NORMAL with P_h VALID, at or below the trip pressure, and u within its range (R39, R141,
R142, R146): the law's integrator, D_t and error, the quantities Q1 to Q3, and a DEMAND when the step test passes. With u out of
its range D_t stands at 0 or D_t_max, with DEMAND_CLAMPED and detail 1 or 2 (R144). With P_h INVALID everything is held, with
REGULATOR_HELD (R145). In TRIPPED with TRIP_IN inactive and P_h VALID and low enough, NORMAL with a CLEAR, TRIP_OUT and a DEMAND
of the D_t that the law then gives, a waiting TRIP standing (R32, R147, R150). The firings are said for no channel bound. That a
held Q1 to Q3 is marked HELD even before its first write since the hard reset is the model's choice (log 12). -/
def Obligations.TurbineTickRegulates : Prop :=
  (∀ (s : State) (p : Int), works s = true → hasRole s .turbine = true → s.srg.trip = .normal →
    (quantityOf s 0).validity = .valid → (quantityOf s 0).value = p → p ≤ s.settings.pTrip →
    let r := regulatorLaw s.settings s.srg.integrator p
    0 ≤ r.output → r.output ≤ s.settings.turbineLimit →
    ∃ t, exec .shareTick s = .next t ∧
      t = { s with
        srg := { s.srg with integrator := r.integrator, demand := r.output.toNat, error := (s.settings.pSet : Int) - p }
        msu := { s.msu with quantities := t.msu.quantities }, lif := { s.lif with tx := t.lif.tx }
        frh := { s.frh with
          outbox := { s.frh.outbox with demand := t.frh.outbox.demand }, lastDemand := t.frh.lastDemand } } ∧
      quantityOf t 1 = { validity := .valid, value := r.output, heldCount := 0 } ∧
      quantityOf t 2 = { validity := .valid, value := (r.integrator / 256 : Nat), heldCount := 0 } ∧
      quantityOf t 3 = { validity := .valid, value := (s.settings.pSet : Int) - p, heldCount := 0 } ∧
      (∀ q, q < 11 → q = 0 ∨ 3 < q → quantityOf t q = quantityOf s q) ∧
      (∀ d, s.frh.lastDemand = some d → distance r.output.toNat d < s.settings.demandStep →
        t.frh = s.frh ∧ t.lif = s.lif) ∧
      (keepsEntries s = true →
        (∀ d, s.frh.lastDemand = some d → s.settings.demandStep ≤ distance r.output.toNat d) →
        t.frh.outbox.demand = some (replacing s.frh.outbox.demand (.demand r.output.toNat 0)) ∧
          t.frh.lastDemand = some r.output.toNat)) ∧
  (∀ s : State, works s = true → hasRole s .turbine = true → noChannelBound s →
    let p := (quantityOf s 0).value
    let r := regulatorLaw s.settings s.srg.integrator p
    let above := (s.settings.turbineLimit : Int) < r.output
    let demand := if r.output < 0 then 0 else if above then s.settings.turbineLimit else r.output.toNat
    let law : Srg :=
      { s.srg with integrator := r.integrator, demand := demand, error := (s.settings.pSet : Int) - p, trip := .normal }
    let clamped (u : State) : State :=
      if r.output < 0 then enqueue (fireDetail 32 1) u else if above then enqueue (fireDetail 32 2) u else u
    let regulated (t : State) : Prop :=
      t.srg = law ∧ quantityOf t 1 = { validity := .valid, value := demand, heldCount := 0 } ∧
        quantityOf t 2 = { validity := .valid, value := (r.integrator / 256 : Nat), heldCount := 0 } ∧
        quantityOf t 3 = { validity := .valid, value := (s.settings.pSet : Int) - p, heldCount := 0 }
    (s.srg.trip = .normal → (quantityOf s 0).validity = .held ∨
        ((quantityOf s 0).validity = .valid ∧ p ≤ s.settings.pTrip) →
      ∃ t, exec .shareTick s = .next t ∧ regulated t ∧ t.evu = (clamped s).evu) ∧
    (s.srg.trip = .normal → (quantityOf s 0).validity = .invalid →
      ∃ t, exec .shareTick s = .next t ∧
        t = { s with
          evu := (enqueue (fireDetail 30 s.srg.demand) s).evu, msu := { s.msu with quantities := t.msu.quantities } } ∧
        (∀ q, q < 11 → quantityOf t q =
          if q = 1 ∨ q = 2 ∨ q = 3 then { validity := .held, value := (quantityOf s q).value, heldCount := 0 }
          else quantityOf s q)) ∧
    (s.srg.trip ≠ .normal → s.srg.tripIn = false → (quantityOf s 0).validity = .valid →
      p ≤ (s.settings.pTrip : Int) - s.settings.pTripHys →
      ∃ t, exec .shareTick s = .next t ∧ regulated t ∧
        t = { s with
          srg := law, evu := (clamped (enqueue (fire 27 (ownNumber s) 4) s)).evu, lif := { s.lif with tx := t.lif.tx }
          msu := { s.msu with quantities := t.msu.quantities }
          frh := { s.frh with
            outbox := { s.frh.outbox with clear := t.frh.outbox.clear, demand := t.frh.outbox.demand }
            lastDemand := t.frh.lastDemand } } ∧
        (keepsEntries s = true →
          t.frh.outbox.clear = some (replacing s.frh.outbox.clear .clear) ∧
            t.frh.outbox.demand = some (replacing s.frh.outbox.demand (.demand demand 0)) ∧
            t.frh.lastDemand = some demand)))

/-- SHARE_TICK of an EXCHANGE station that is SERVING and stays so, with its inputs usable, S_mix inside the table and D_x inside
its limit (R39, R155 to R164): S_mix, T_sat, T_bo_min, the heat and D_x, and a DEMAND only when the step test passes. A SERVING
station whose temperature drop is below the least drop becomes ISOLATED with D_x 0 and publishes 0 (R158, R159). The brine flow is
the least whole number of flow units that carries the heat over the drop (R161). And every tick with no channel bound:
TABLE_RANGE; the isolation state moves with the hysteresis, and stands while T_bi is INVALID (R158); the heat is held while T_r or
m_d is INVALID; D_x is 0 in ISOLATED with EXCHANGE_NO_MARGIN, is held in SERVING while an input is INVALID, and is clamped to
D_x_max with DEMAND_CLAMPED (R159 to R162); a DEMAND follows a change of the isolation state or the step test of a D_x that was
set (R163); Q5 to Q7, Q9 and Q10 are VALID or HELD (R164), HELD also where never written (the model's choice, log 12). -/
def Obligations.ExchangeTickComputesDemand : Prop :=
  (∀ (c : Settings) (heat : Nat) (drop : Int), 0 < drop → 0 < c.specificHeat →
    (heat : Int) * 10000 ≤ brineFlow c heat drop * ((c.specificHeat : Int) * drop) ∧
      (∀ u : Nat, (heat : Int) * 10000 ≤ u * ((c.specificHeat : Int) * drop) → brineFlow c heat drop ≤ u)) ∧
  (∀ (s : State) (supplyReturn flow inlet : Int), works s = true → hasRole s .exchange = true → s.xcp.isolated = false →
     0 < flowSum s → usableValue s 1 = some supplyReturn → usableValue s 2 = some flow → usableValue s 3 = some inlet →
     let sMix := silicaFlowSum s / flowSum s
     let tSat := lookup s.settings.table sMix
     let tBoMin := min 4000 (max (tSat + s.settings.silicaMargin) s.settings.outletFloor)
     let drop := inlet - tBoMin
     let heat := min 1000000 (flow * max 0 ((s.settings.supplySetpoint : Int) - supplyReturn) * 419 / 10000).toNat
     let u := brineFlow s.settings heat drop
     outsideTable s.settings.table sMix = false → (s.settings.minimumDrop : Int) ≤ drop → u ≤ s.settings.exchangeLimit →
     ∃ t, exec .shareTick s = .next t ∧
       t = { s with
         xcp := { sMix := sMix, tSat := tSat, tBoMin := tBoMin, isolated := false, heat := heat, demand := u }
         msu := { s.msu with quantities := t.msu.quantities }, lif := { s.lif with tx := t.lif.tx }
         frh := { s.frh with
           outbox := { s.frh.outbox with demand := t.frh.outbox.demand }, lastDemand := t.frh.lastDemand } } ∧
       quantityOf t 5 = { validity := .valid, value := sMix, heldCount := 0 } ∧
       quantityOf t 6 = { validity := .valid, value := tSat, heldCount := 0 } ∧
       quantityOf t 7 = { validity := .valid, value := tBoMin, heldCount := 0 } ∧
       quantityOf t 9 = { validity := .valid, value := (min 65535 (heat / 10) : Nat), heldCount := 0 } ∧
       quantityOf t 10 = { validity := .valid, value := u, heldCount := 0 } ∧
       (∀ q, q < 11 → q < 5 ∨ q = 8 → quantityOf t q = quantityOf s q) ∧
       (∀ d, s.frh.lastDemand = some d → distance u d < s.settings.demandStep → t.frh = s.frh ∧ t.lif = s.lif) ∧
       (keepsEntries s = true → (∀ d, s.frh.lastDemand = some d → s.settings.demandStep ≤ distance u d) →
         t.frh.outbox.demand = some (replacing s.frh.outbox.demand (.demand u 0)) ∧ t.frh.lastDemand = some u)) ∧
  (∀ (s : State) (inlet : Int), works s = true → hasRole s .exchange = true → s.xcp.isolated = false →
    usableValue s 3 = some inlet →
    let sMix := if 0 < flowSum s then silicaFlowSum s / flowSum s else s.xcp.sMix
    let tBoMin := min 4000 (max (lookup s.settings.table sMix + s.settings.silicaMargin) s.settings.outletFloor)
    inlet - tBoMin < (s.settings.minimumDrop : Int) →
    ∃ t, exec .shareTick s = .next t ∧ t.xcp = { t.xcp with sMix := sMix, tBoMin := tBoMin, isolated := true, demand := 0 } ∧
      (keepsEntries s = true →
        t.frh.outbox.demand = some (replacing s.frh.outbox.demand (.demand 0 0)) ∧ t.frh.lastDemand = some 0)) ∧
  (∀ s : State, works s = true → hasRole s .exchange = true → noChannelBound s →
    let sMix := if 0 < flowSum s then silicaFlowSum s / flowSum s else s.xcp.sMix
    let tSat := lookup s.settings.table sMix
    let tBoMin := min 4000 (max (tSat + s.settings.silicaMargin) s.settings.outletFloor)
    let heatInputs := (quantityOf s 1).validity ≠ .invalid ∧ (quantityOf s 2).validity ≠ .invalid
    let inlet := (quantityOf s 3).validity ≠ .invalid
    let drop := (quantityOf s 3).value - (tBoMin : Int)
    let least : Int := s.settings.minimumDrop + (if s.xcp.isolated then s.settings.dropHysteresis else 0)
    let isolated : Bool := if inlet then decide (drop < least) else s.xcp.isolated
    let lift := max 0 ((s.settings.supplySetpoint : Int) - (quantityOf s 1).value)
    let heat := if heatInputs then min 1000000 ((quantityOf s 2).value * lift * 419 / 10000).toNat else s.xcp.heat
    let u := brineFlow s.settings heat drop
    let computes := isolated = false ∧ inlet ∧ heatInputs
    let demand := if isolated then 0 else if computes then min u s.settings.exchangeLimit else s.xcp.demand
    let ranged := if outsideTable s.settings.table sMix then enqueue (fireDetail 19 sMix) s else s
    let fired :=
      if isolated then enqueue (fireDetail 31 (if inlet then drop.toNat else 65535)) ranged
      else if computes ∧ s.settings.exchangeLimit < u then enqueue (fireDetail 32 2) ranged
      else ranged
    let publishes := isolated ≠ s.xcp.isolated ∨
      ((isolated = true ∨ computes) ∧ ∀ d, s.frh.lastDemand = some d → s.settings.demandStep ≤ distance demand d)
    let mixed := if 0 < flowSum s then Validity.valid else .held
    let held (q : Nat) : Quantity := { validity := .held, value := (quantityOf s q).value, heldCount := 0 }
    ∃ t, exec .shareTick s = .next t ∧
      t = { s with
        xcp := { sMix := sMix, tSat := tSat, tBoMin := tBoMin, isolated := isolated, heat := heat, demand := demand }
        evu := fired.evu, msu := { s.msu with quantities := t.msu.quantities }, lif := { s.lif with tx := t.lif.tx }
        frh := { s.frh with
          outbox := { s.frh.outbox with demand := t.frh.outbox.demand }, lastDemand := t.frh.lastDemand } } ∧
      (¬ publishes ∨ keepsEntries s = false → t.frh = s.frh ∧ t.lif = s.lif) ∧
      (publishes → keepsEntries s = true →
        t.frh.outbox.demand = some (replacing s.frh.outbox.demand (.demand demand 0)) ∧ t.frh.lastDemand = some demand) ∧
      quantityOf t 5 = { validity := mixed, value := sMix, heldCount := 0 } ∧
      quantityOf t 6 = { validity := mixed, value := tSat, heldCount := 0 } ∧
      quantityOf t 7 = { validity := mixed, value := tBoMin, heldCount := 0 } ∧
      quantityOf t 9 =
        (if heatInputs then { validity := .valid, value := (min 65535 (heat / 10) : Nat), heldCount := 0 } else held 9) ∧
      quantityOf t 10 =
        (if isolated = true ∨ computes then { validity := .valid, value := demand, heldCount := 0 } else held 10) ∧
      (∀ q, q < 11 → q < 5 ∨ q = 8 → quantityOf t q = quantityOf s q))

/-! ### Events and the outbox -/

/-- Law 7 (R1, R166, R176, R177): a firing that a channel takes makes no entry and folds into none; a channel in a mode other than
DERATE starts its dose pulse and counts down, and at its last firing unbinds itself and offers ACTION_DONE to the queue; a firing
that no channel takes goes to the queue, and leaves the channels, the dose outputs and the duty unit alone. -/
def Obligations.FiringTakenOnce : Prop :=
  ∀ (f : Firing) (s : State), f.source < 33 →
    (∀ n, takingChannel f s = some n →
      ((offer f s).evu.queue.filter fun e => decide (e.source < 33)).Sublist
        (s.evu.queue.filter fun e => decide (e.source < 33))) ∧
    (∀ n, takingChannel f s = some n →
      let c := slotGet s.evu.channels n Channel.unbound
      let acted (c' : Channel) : State := { s with
        evu := { s.evu with
          channels := slotSet s.evu.channels n c'
          dose0 := if c.mode = .pulse0 then .running (100 * s.settings.doseWidth0) else s.evu.dose0
          dose1 := if c.mode = .pulse1 then .running (100 * s.settings.doseWidth1) else s.evu.dose1 } }
      c.mode ≠ .derate →
        (1 < c.count → offer f s = acted { c with count := c.count - 1 }) ∧
        (c.count ≤ 1 → offer f s =
          enqueue { source := 33 + n, subject := some f.source, detail := some c.mode.code }
            (acted { c with source := none, count := 0 }))) ∧
    (takingChannel f s = none → offer f s = enqueue f s ∧ offer f s =
      { s with evu := { s.evu with queue := (offer f s).evu.queue, dropped := (offer f s).evu.dropped } })

/-- Law 6 (R1, R167): every command keeps the event queue at 32 entries at most, no two with the same source and subject. -/
def Obligations.EventQueueStaysLawful : Prop :=
  ∀ (s t : State), Law6 s → step s = .next t → Law6 t

/-- Law 5 (R1, R31, R32, R33, R36): every command keeps the outbox lawful and its attempt counts below their limits. A CLEAR
beside a TRIP was entered after it: a trip that is announced leaves a TRIP and no CLEAR in the slots, and its end keeps what the
TRIP slot holds and enters a CLEAR. -/
def Obligations.OutboxStaysLawful : Prop :=
  ∀ (s t : State), Law5 s → step s = .next t →
    Law5 t ∧
    (keepsEntries t = true → t.srg.trip ≠ s.srg.trip →
      (t.srg.trip ≠ .normal → t.frh.outbox.trip.isSome = true ∧ t.frh.outbox.clear = none) ∧
      (t.srg.trip = .normal → t.frh.outbox.trip = s.frh.outbox.trip ∧ t.frh.outbox.clear.isSome = true))

/-- The state after reset meets every law. -/
def Obligations.ResetIsSafe : Prop := Safe State.reset

/-- The queue's steps for a firing that no channel has taken. At level 0 it is discarded (R165, R166). A waiting entry of its
source and subject takes it in: one repeat more, its detail, and one late firing more on an entry in delivery (R168, R172).
Otherwise it joins a queue with room as the newest entry; a full one gives way to a firing above its lowest level, oldest entry of
that level first, and drops any other (R169). -/
def Obligations.QueueTakesFiring : Prop :=
  ∀ (f : Firing) (s : State),
    let same (e : QueueEntry) : Bool := e.source == f.source && e.subject == f.subject
    let entry : QueueEntry :=
      { source := f.source, level := levelOf s f.source, subject := f.subject, detail := f.detail, repeatCount := 1
        stamp := s.evu.refreshCount, delivery := none }
    (levelOf s f.source = 0 → enqueue f s = s) ∧
    (levelOf s f.source ≠ 0 → ∀ (front back : List QueueEntry) (e : QueueEntry), s.evu.queue = front ++ e :: back →
      same e = true → (∀ x ∈ front ++ back, same x = false) →
      enqueue f s = { s with evu := { s.evu with queue :=
        front ++
          { e with
            repeatCount := min 255 (e.repeatCount + 1), detail := f.detail
            delivery := e.delivery.map fun late => min 255 (late + 1) } ::
        back } }) ∧
    (levelOf s f.source ≠ 0 → (s.evu.queue.any same) = false →
      (s.evu.queue.length < 32 → enqueue f s = { s with evu := { s.evu with queue := s.evu.queue ++ [entry] } }) ∧
      (s.evu.queue.length = 32 →
        (∀ (front back : List QueueEntry) (e : QueueEntry), s.evu.queue = front ++ e :: back →
          e.level < levelOf s f.source → (∀ x ∈ front, e.level < x.level) → (∀ x ∈ back, e.level ≤ x.level) →
          enqueue f s = { s with evu :=
            { s.evu with queue := front ++ back ++ [entry], dropped := min 255 (s.evu.dropped + 1) } }) ∧
        ((∀ x ∈ s.evu.queue, levelOf s f.source ≤ x.level) →
          enqueue f s = { s with evu := { s.evu with dropped := min 255 (s.evu.dropped + 1) } })))

/-! ### The panel port -/

/-- PCS_FALL begins a transaction. PANEL_OCTET_COMPLETE gathers arguments, takes the command with its last octet as the command's
own row does (log 17), a RESTART with the strap levels and the CSDA last seen (the model's choice, log 18), passes the turnaround
octet and clocks the response out, then sends 0. PCS_RISE ends the transaction, and a command that is neither TAKE nor STATUS
leaves nothing to do (R186, R187). -/
def Obligations.TransactionPhases : Prop :=
  ∀ (s : State) (pdi : Octet), s.pins.resetLow = false →
    let octet := exec (.panelOctetComplete pdi) s
    let port (p : Pnp) : Host.Outcome State Fault Refusal := .next { s with pnp := p }
    (exec .pcsFall s = .next
      { s with
        pins := { s.pins with pcsLow := true }
        pnp := if s.pnp.phase = .idle then { phase := .command, pdo := 0 } else s.pnp }) ∧
    (s.pnp.phase = .idle ∨ s.pnp.phase = .discard → octet = .next s) ∧
    (s.pnp.phase = .command →
      (pdi = 0x03 ∨ pdi = 0x04 ∨ pdi = 0x05 ∨ pdi = 0x06 ∨ pdi = 0x13 → octet = port { phase := .arguments pdi [], pdo := 0 }) ∧
      (pdi = 0x01 → octet = exec .status s) ∧ (pdi = 0x02 → octet = exec .take s) ∧ (pdi = 0x10 → octet = exec .rest s) ∧
      (pdi = 0x11 → octet = exec .wake s) ∧ (pdi = 0x12 → octet = exec .faultClear s) ∧
      (pdi = 0x1F → octet = exec (.restart s.pins.sn s.pins.roleStrap s.pins.stopPossible) s) ∧
      (pdi ∉ [0x01, 0x02, 0x03, 0x04, 0x05, 0x06, 0x10, 0x11, 0x12, 0x13, 0x1F] →
        octet = exec (.unknownCommand pdi) s)) ∧
    (s.pnp.phase = .arguments 0x03 [] → octet = exec (.readRow pdi) s) ∧
    (s.pnp.phase = .arguments 0x04 [] → octet = exec (.readQuantity pdi) s) ∧
    (s.pnp.phase = .arguments 0x05 [] → octet = exec (.readChannel pdi) s) ∧
    (s.pnp.phase = .arguments 0x13 [] → octet = exec (.releaseTrip pdi) s) ∧
    (∀ got, s.pnp.phase = .arguments 0x06 got → got.length < 4 →
      octet = port { phase := .arguments 0x06 (got ++ [pdi]), pdo := 0 }) ∧
    (∀ a b c d, s.pnp.phase = .arguments 0x06 [a, b, c, d] → octet = exec (.bind a b c d pdi) s) ∧
    (∀ rest ending, s.pnp.phase = .response true rest ending →
      octet = port { phase := .response false rest ending, pdo := 0 }) ∧
    (∀ o rest ending, s.pnp.phase = .response false (o :: rest) ending →
      octet = port { phase := .response false rest ending, pdo := o }) ∧
    (∀ ending, s.pnp.phase = .response false [] ending → octet = port { phase := .response false [] ending, pdo := 0 }) ∧
    ((∀ due rest, s.pnp.phase ≠ .response due rest .settleTake) →
      (∀ reported, s.pnp.phase ≠ .response false [] (.lowerDropped reported)) → exec .pcsRise s = .next
      { s with pins := { s.pins with pcsLow := false }, pnp := { phase := .idle, pdo := 0 } })

/-- R188: STATUS is answered DONE in every line state with the seventeen octets of R195, the fields of roles that the station does
not hold as 0, and changes nothing else; a whole STATUS lowers the dropped count by the value it reported, and not below 0. ATTN
is high while the queue holds an entry at or above the attention threshold (R173); FAULT is high while RESET is low, in OFFLINE,
in LISTEN_ONLY, and in a WELL station whose duty is FAULT (R185). -/
def Obligations.StatusReports : Prop :=
  ∀ s : State,
    (attn s = true ↔ ∃ e ∈ s.evu.queue, s.settings.attentionThreshold ≤ e.level) ∧
    (faultOut s = true ↔
      s.pins.resetLow = true ∨ s.frh.lineState = .offline ∨ s.frh.lineState = .listenOnly ∨
        (roleOf s = some .well ∧ s.dtu.duty = .fault)) ∧
    (takeable 0x01 s = true →
      let only (r : Role) (v : Nat) : Nat := if roleOf s = some r then v else 0
      let flags := (if faultOut s then 1 else 0) + (if attn s then 2 else 0) +
        only .well ((if s.dtu.runReq then 4 else 0) + (if s.dtu.runAck then 8 else 0) + (if tripInForce s then 16 else 0)) +
        only .turbine (if s.srg.tripIn then 32 else 0)
      let response :=
        [0, octetOf s.frh.lineState.code, octetOf s.stl.loadState.code, octetOf s.stl.faultCode, octetOf (ownNumber s),
         octetOf s.stl.roleCode.toNat, octetOf s.stl.clamped, octetOf flags, octetOf s.evu.queue.length,
         octetOf s.evu.dropped, octetOf s.evu.refreshCount, octetOf (s.evu.refreshCount / 256),
         octetOf (only .well s.dtu.duty.code), octetOf (only .well (tripSetSize s)),
         octetOf (only .turbine (if s.srg.trip = .normal then 0 else 1)), octetOf (only .turbine (tripCauseCode s)),
         octetOf (only .exchange (if s.xcp.isolated then 1 else 0))]
      exec .status s = .next
        { s with pnp := { phase := .response true response (.lowerDropped s.evu.dropped), pdo := 0 } }) ∧
    (∀ reported, s.pins.resetLow = false → s.pnp.phase = .response false [] (.lowerDropped reported) →
      exec .pcsRise s = .next
        { s with
          pins := { s.pins with pcsLow := false }, pnp := { phase := .idle, pdo := 0 }
          evu := { s.evu with dropped := s.evu.dropped - reported } })

/-- TAKE (R171, R195) reports the entry of the highest level, the oldest of it, and marks it alone as in delivery; on an empty
queue it answers EMPTY and marks nothing. PCS_RISE after a TAKE (R172) removes an entry whose response was whole and whose late
count is 0, leaves it with its late count as repeat count otherwise, and leaves one whose response was not whole as it is. -/
def Obligations.TakeDeliversMostUrgent : Prop :=
  ∀ (s : State) (front back : List QueueEntry) (e : QueueEntry),
    (takeable 0x02 s = true → s.evu.queue = [] → exec .take s = .next
      { s with pnp := { phase := .response true (5 :: List.replicate 10 0) .nothing, pdo := 0 } }) ∧
    (s.evu.queue = front ++ e :: back → (∀ x ∈ front ++ back, x.delivery = none) →
      (takeable 0x02 s = true → Law6 s → (∀ x ∈ front, x.level < e.level) → (∀ x ∈ back, x.level ≤ e.level) →
        let response :=
          [0, octetOf e.source, octetOf e.level, octetOf (e.subject.getD 0), octetOf (e.detail.getD 0),
           octetOf (e.detail.getD 0 / 256), octetOf e.repeatCount, octetOf e.stamp, octetOf (e.stamp / 256),
           octetOf s.evu.queue.length, octetOf (flagBit e.subject.isSome 0 + flagBit e.detail.isSome 1)]
        exec .take s = .next
          { s with
            evu := { s.evu with queue := front ++ { e with delivery := some 0 } :: back }
            pnp := { phase := .response true response .settleTake, pdo := 0 } }) ∧
      (∀ late due rest, s.pins.resetLow = false → s.pnp.phase = .response due rest .settleTake → e.delivery = some late →
        let left := if due = false ∧ rest = [] then
            (if late = 0 then front ++ back else front ++ { e with repeatCount := late, delivery := none } :: back)
          else front ++ { e with delivery := none } :: back
        exec .pcsRise s = .next
          { s with
            pins := { s.pins with pcsLow := false }
            pnp := { phase := .idle, pdo := 0 }
            evu := { s.evu with queue := left } }))

/-- READ_ROW, READ_QUANTITY and READ_CHANNEL (R57, R75, R76, R187, R195): each response has its fixed length and its result, and
nothing changes but the panel port. -/
def Obligations.ReadsChangeNothing : Prop :=
  ∀ (s : State) (a : Octet),
    let offline := s.frh.lineState = .offline
    let answered (response : List Octet) : Host.Outcome State Fault Refusal :=
      .next { s with pnp := { phase := .response true response .nothing, pdo := 0 } }
    let two (v : Nat) : List Octet := [octetOf v, octetOf (v / 256)]
    (takeable 0x03 s = true →
      let r := rowOf s a.toNat
      let flags := flagBit r.lastSeq.isSome 0 + flagBit r.well.isSome 1 + flagBit r.demand.isSome 2
      let well := match r.well with
        | none => List.replicate 7 0
        | some w =>
          octetOf ((w.duty.map Duty.code).getD 255) ::
            (two (w.capacity.getD 65535) ++ two (w.flow.getD 65535) ++ two (w.silica.getD 65535))
      let demand := match r.demand with
        | none => List.replicate 3 0
        | some d => two (d.demand.getD 65535) ++ [octetOf d.cause]
      exec (.readRow a) s = answered
        (if offline then 1 :: List.replicate 15 0
         else if 31 < a.toNat ∨ a.toNat = ownNumber s then 3 :: List.replicate 15 0
         else
          [0, octetOf r.condition.code, octetOf ((r.role.map Role.code).getD 255), octetOf r.age, r.lastSeq.getD 0,
           octetOf flags] ++ well ++ demand)) ∧
    (takeable 0x04 s = true →
      let q := quantityOf s a.toNat
      let kind := quantityKind (roleOf s) a.toNat
      exec (.readQuantity a) s = answered
        (if a.toNat < quantityCount (roleOf s) then
          [0, octetOf kind.code, octetOf q.validity.code] ++ octets32 q.value ++
            [octetOf (if kind = .measured then q.heldCount else 0)]
         else 3 :: List.replicate 7 0)) ∧
    (takeable 0x05 s = true →
      let l := latchOf s a.toNat
      let flags := flagBit l.pending.isSome 0 + flagBit l.last.isSome 1 +
        flagBit (decide (a.toNat < mappedChannels (roleOf s))) 2
      exec (.readChannel a) s = answered
        (if offline then 1 :: List.replicate 9 0
         else if 7 < a.toNat then 3 :: List.replicate 9 0
         else
          [0, octetOf flags] ++ two (l.pending.getD 0) ++ two (l.last.getD 0) ++
            [octetOf l.refusedCount, octetOf ((l.lastRefusal.map Refused.code).getD 0), octetOf s.msu.rejected,
             octetOf ((s.msu.lastRejection.map Rejection.code).getD 0)]))

/-- BIND by the table of R179, with the binding that stood before in its response (R179, R195); a source 0 unbinds the channel,
and its filter and mode stay (the model's choice, log 11). It is not served in OFFLINE (R187), where its response carries zeros
(the model's choice, log 30). -/
def Obligations.BindFollowsItsTable : Prop :=
  ∀ (s : State) (ch src filter mode count : Octet), takeable 0x06 s = true →
    let old := slotGet s.evu.channels ch.toNat Channel.unbound
    let report := [octetOf (old.source.getD 0), octetOf (old.filter.getD 255), octetOf old.mode.code, octetOf old.count,
      octetOf (old.count / 256)]
    let answered (result : Octet) (report : List Octet) : Host.Outcome State Fault Refusal :=
      .next { s with pnp := { phase := .response true (result :: report) .nothing, pdo := 0 } }
    let bound (c : Channel) : Host.Outcome State Fault Refusal :=
      .next { s with
        evu := { s.evu with channels := slotSet s.evu.channels ch.toNat c }
        pnp := { phase := .response true (0 :: report) .nothing, pdo := 0 } }
    let bad := src.toNat = 3 ∨ src.toNat = 23 ∨ 33 ≤ src.toNat
    (s.frh.lineState = .offline → exec (.bind ch src filter mode count) s = answered 1 (List.replicate 5 0)) ∧
    (s.frh.lineState ≠ .offline →
    (3 < ch.toNat → exec (.bind ch src filter mode count) s = answered 3 (List.replicate 5 0)) ∧
    (ch.toNat ≤ 3 → bad → exec (.bind ch src filter mode count) s = answered 3 report) ∧
    (ch.toNat ≤ 3 → ¬ bad → 3 < mode.toNat → exec (.bind ch src filter mode count) s = answered 3 report) ∧
    (ch.toNat ≤ 3 → ¬ bad → mode = 2 → hasRole s .well = false →
      exec (.bind ch src filter mode count) s = answered 2 report) ∧
    (∀ m, ch.toNat ≤ 3 → ¬ bad → modeOfCode mode.toNat = some m → m ≠ .derate ∨ hasRole s .well = true →
      (src = 0 → exec (.bind ch src filter mode count) s = bound { old with source := none, count := 0 }) ∧
      (src ≠ 0 → exec (.bind ch src filter mode count) s = bound
        { source := some src.toNat, filter := if filter = 255 then none else some filter.toNat, mode := m,
          count := if count = 0 then 256 else count.toNat })))

/-- REST in ON, WAKE in ASKING, FAULT_CLEAR in FAULT with RUN_ACK low, and RELEASE_TRIP of a station in the trip set, at a WELL
station, are answered DONE with their effects (R97, R110, R111, R113, R115, R116, R117, R121). -/
def Obligations.OperatorCommandsAct : Prop :=
  ∀ s : State, hasRole s .well = true →
    let done : Pnp := { phase := .response true [0] .nothing, pdo := 0 }
    (takeable 0x10 s = true → keepsEntries s = true → s.dtu.duty = .on →
      ∃ t, exec .rest s = .next t ∧ t.pnp = done ∧ t.rng = { s.rng with ask := .waiting } ∧
        t.dtu = { s.dtu with
          duty := .asking, recallTimer := .stopped, target := t.dtu.target, derateTotal := t.dtu.derateTotal
          quietCount := t.dtu.quietCount } ∧
        targetLowered s t ∧ statePublished .asking t ∧
        t.frh.outbox.restAsk = some (replacing s.frh.outbox.restAsk (.restAsk (cOwn t))) ∧
        t = { s with
          pnp := t.pnp, rng := t.rng, dtu := t.dtu, evu := t.evu, msu := { s.msu with quantities := t.msu.quantities }
          lif := { s.lif with tx := t.lif.tx }
          frh := { s.frh with
            outbox := { s.frh.outbox with
              restAsk := t.frh.outbox.restAsk, stateReport := t.frh.outbox.stateReport }
            lastC := t.frh.lastC } }) ∧
    (takeable 0x11 s = true → s.frh.lineState ≠ .offline → s.dtu.duty = .asking →
      ∃ t, exec .wake s = .next t ∧ OnlyDriveMoves s t ∧ t.pnp = done ∧ t.rng = { s.rng with ask := .idle } ∧
        t.dtu = { s.dtu with
          duty := .on, recallTimer := .stopped, target := t.dtu.target, derateTotal := t.dtu.derateTotal
          quietCount := t.dtu.quietCount } ∧
        targetLowered s t ∧ (keepsEntries s = true → statePublished .on t)) ∧
    (takeable 0x12 s = true → s.frh.lineState ≠ .offline → s.dtu.duty = .fault → s.dtu.runAck = false →
      ∃ t, exec .faultClear s = .next t ∧ OnlyDriveMoves s t ∧ t.pnp = done ∧ t.rng = s.rng ∧
        t.dtu = { s.dtu with
          duty := .resting, runReq := false, setpoint := 0, target := 0, startTimer := .stopped, warmTimer := .stopped
          stopTimer := .stopped, setpt := if s.dtu.setpoint = 0 then s.dtu.setpt else dueWord s 0 .resting false
          recallTimer := if recallConditions t then .running (1000 * recallTime s) else .stopped
          derateTotal := t.dtu.derateTotal, quietCount := t.dtu.quietCount } ∧
        (keepsEntries s = true → statePublished .resting t)) ∧
    (∀ station : Octet, takeable 0x13 s = true → s.frh.lineState ≠ .offline → station.toNat ≠ ownNumber s →
      station.toNat < 32 → inTripSet s station.toNat = true →
      ∃ t, exec (.releaseTrip station) s = .next t ∧
        t = { s with
          pnp := done, evu := t.evu, msu := { s.msu with quantities := t.msu.quantities }, lif := { s.lif with tx := t.lif.tx }
          frh := { s.frh with
            outbox := { s.frh.outbox with stateReport := t.frh.outbox.stateReport }, lastC := t.frh.lastC }
          dtu := { s.dtu with
            tripSet := slotSet s.dtu.tripSet station.toNat none, target := t.dtu.target, derateTotal := t.dtu.derateTotal
            quietCount := t.dtu.quietCount, recallTimer := t.dtu.recallTimer } } ∧
        (noChannelBound s → t.evu = (enqueue (fire 27 station.toNat 3) s).evu ∧ t.dtu.target = s.dtu.target))

/-- UNKNOWN_COMMAND: any code but the eleven is answered with result 4 (R187, R194). And where the operator's commands are turned
away (R97, R115, R116, R117, R187). Nothing changes but the response. -/
def Obligations.RefusedCommandsChangeNothing : Prop :=
  ∀ (s : State) (station : Octet),
    let answered (result : Octet) := { s with pnp := { phase := .response true [result] .nothing, pdo := 0 } }
    (∀ code : Octet, takeable code s = true → code ≠ 0x01 → code ≠ 0x02 → code ≠ 0x03 → code ≠ 0x04 → code ≠ 0x05 →
      code ≠ 0x06 → code ≠ 0x10 → code ≠ 0x11 → code ≠ 0x12 → code ≠ 0x13 → code ≠ 0x1F →
      exec (.unknownCommand code) s = .next (answered 4)) ∧
    (s.frh.lineState = .offline →
      (takeable 0x10 s = true → exec .rest s = .next (answered 1)) ∧
      (takeable 0x11 s = true → exec .wake s = .next (answered 1)) ∧
      (takeable 0x12 s = true → exec .faultClear s = .next (answered 1)) ∧
      (takeable 0x13 s = true → exec (.releaseTrip station) s = .next (answered 1))) ∧
    (s.frh.lineState = .listenOnly → takeable 0x10 s = true → exec .rest s = .next (answered 1)) ∧
    (s.frh.lineState ≠ .offline → hasRole s .well = false →
      (s.frh.lineState ≠ .listenOnly → takeable 0x10 s = true → exec .rest s = .next (answered 2)) ∧
      (takeable 0x11 s = true → exec .wake s = .next (answered 2)) ∧
      (takeable 0x12 s = true → exec .faultClear s = .next (answered 2)) ∧
      (takeable 0x13 s = true → exec (.releaseTrip station) s = .next (answered 2))) ∧
    (s.frh.lineState ≠ .offline → hasRole s .well = true →
      (s.dtu.duty ≠ .on → takeable 0x10 s = true → exec .rest s = .next (answered 1)) ∧
      (s.dtu.duty ≠ .resting ∨ s.dtu.runAck = true → s.dtu.duty ≠ .asking → takeable 0x11 s = true →
        exec .wake s = .next (answered 1)) ∧
      (s.dtu.duty ≠ .fault ∨ s.dtu.runAck = true → takeable 0x12 s = true → exec .faultClear s = .next (answered 1)) ∧
      (31 < station.toNat ∨ station.toNat = ownNumber s → takeable 0x13 s = true →
        exec (.releaseTrip station) s = .next (answered 3)) ∧
      (station.toNat < 32 → station.toNat ≠ ownNumber s → inTripSet s station.toNat = false → takeable 0x13 s = true →
        exec (.releaseTrip station) s = .next (answered 1)))

/-- RESTART (R50, R111, R131, R189), with the strap levels and the CSDA it meets as operands (the model's choice, log 18): in
OFFLINE it starts the load again from the straps, after the octet being clocked and a stop condition where CSDA allows it; outside
OFFLINE it keeps the plant, empties the outbox, the view and the grant list, makes the ask IDLE, enters JOINING, and returns
ASKING to ON. -/
def Obligations.RestartKeepsThePlant : Prop :=
  ∀ (sn : BitVec 5) (role : BitVec 2) (stop : Bool) (s : State), takeable 0x1F s = true →
    let done : Pnp := { phase := .response true [0] .nothing, pdo := 0 }
    let ending : List BusSymbol × Nat :=
      match s.stl.bus, s.stl.busAt with
      | [], _ => ([], 0)
      | .start :: _, 0 => ([], 0)
      | .stop :: _, k => ([.stop], k)
      | b :: _, k => (if stop then [b, .stop] else [b], k)
    (s.frh.lineState = .offline → exec (.restart sn role stop) s = .next
      { s with
        pnp := done, pins := { s.pins with sn := sn, roleStrap := role, stopPossible := stop }
        stl := {
          bus := ending.1 ++ (if role = 3 then [] else transferSymbols 0), busAt := ending.2
          loadState := if role = 3 then .faulted else .reading, faultCode := if role = 3 then 1 else 0, station := sn
          roleCode := role, clamped := 0, transfer := 0, failedTries := 0, waitDue := false, retryWait := .stopped, image := []
          stopSent := if tryUnderWay s then stop else s.stl.stopSent } }) ∧
    (s.frh.lineState ≠ .offline →
      ∃ t, exec (.restart sn role stop) s = .next t ∧
        t = { s with
          pnp := done, pvw := t.pvw, evu := t.evu, msu := { s.msu with quantities := t.msu.quantities }
          rng := { s.rng with ask := .idle, grants := [] }
          lif := { s.lif with tx := cutTx s.lif.tx }
          frh := { s.frh with
            lineState := .joining, joinTimer := .running (3 * s.settings.refreshPeriod), inFlight := none
            outbox := { Outbox.empty with stateReport := t.frh.outbox.stateReport }, lastC := t.frh.lastC
            lastDemand := none }
          dtu := { s.dtu with
            duty := if s.dtu.duty = .asking then .on else s.dtu.duty, target := t.dtu.target
            derateTotal := t.dtu.derateTotal, quietCount := t.dtu.quietCount, recallTimer := t.dtu.recallTimer } } ∧
        (∀ n, n < 32 → rowOf t n =
          { PeerRow.empty with role := if hasRole s .well = true ∧ inTripSet s n = true then some .turbine else none }) ∧
        (hasRole s .well = true → s.dtu.duty = .resting → t.dtu.recallTimer = .stopped) ∧
        (s.dtu.duty = .asking → statePublished .on t ∧ targetLowered s t) ∧
        (s.dtu.duty ≠ .asking →
          t.evu = s.evu ∧ t.msu = s.msu ∧ t.dtu.target = s.dtu.target ∧ t.dtu.derateTotal = s.dtu.derateTotal ∧
            t.frh.outbox.stateReport = none ∧ t.frh.lastC = none))
end

