-- ==== Sys2Proof/Laws/State.lean ====
section
/-! SUPPORT. The named updates of the state: which field each sets, and that every other field stands. -/

namespace Sys2Proof.Machine

/-! `setQuantity` -/

@[simp] theorem setQuantity_pins (q : Nat) (e : Quantity) (s : State) : (setQuantity q e s).pins = s.pins := rfl
@[simp] theorem setQuantity_stl (q : Nat) (e : Quantity) (s : State) : (setQuantity q e s).stl = s.stl := rfl
@[simp] theorem setQuantity_settings (q : Nat) (e : Quantity) (s : State) : (setQuantity q e s).settings = s.settings := rfl
@[simp] theorem setQuantity_lif (q : Nat) (e : Quantity) (s : State) : (setQuantity q e s).lif = s.lif := rfl
@[simp] theorem setQuantity_frh (q : Nat) (e : Quantity) (s : State) : (setQuantity q e s).frh = s.frh := rfl
@[simp] theorem setQuantity_pvw (q : Nat) (e : Quantity) (s : State) : (setQuantity q e s).pvw = s.pvw := rfl
@[simp] theorem setQuantity_msu_gathered (q : Nat) (e : Quantity) (s : State) : (setQuantity q e s).msu.gathered = s.msu.gathered := rfl
@[simp] theorem setQuantity_msu_idleReached (q : Nat) (e : Quantity) (s : State) : (setQuantity q e s).msu.idleReached = s.msu.idleReached := rfl
@[simp] theorem setQuantity_msu_awaitHigh (q : Nat) (e : Quantity) (s : State) : (setQuantity q e s).msu.awaitHigh = s.msu.awaitHigh := rfl
@[simp] theorem setQuantity_msu_rejected (q : Nat) (e : Quantity) (s : State) : (setQuantity q e s).msu.rejected = s.msu.rejected := rfl
@[simp] theorem setQuantity_msu_lastRejection (q : Nat) (e : Quantity) (s : State) : (setQuantity q e s).msu.lastRejection = s.msu.lastRejection := rfl
@[simp] theorem setQuantity_msu_latches (q : Nat) (e : Quantity) (s : State) : (setQuantity q e s).msu.latches = s.msu.latches := rfl
@[simp] theorem setQuantity_msu_windows (q : Nat) (e : Quantity) (s : State) : (setQuantity q e s).msu.windows = s.msu.windows := rfl
@[simp] theorem setQuantity_dtu (q : Nat) (e : Quantity) (s : State) : (setQuantity q e s).dtu = s.dtu := rfl
@[simp] theorem setQuantity_rng (q : Nat) (e : Quantity) (s : State) : (setQuantity q e s).rng = s.rng := rfl
@[simp] theorem setQuantity_srg (q : Nat) (e : Quantity) (s : State) : (setQuantity q e s).srg = s.srg := rfl
@[simp] theorem setQuantity_xcp (q : Nat) (e : Quantity) (s : State) : (setQuantity q e s).xcp = s.xcp := rfl
@[simp] theorem setQuantity_evu (q : Nat) (e : Quantity) (s : State) : (setQuantity q e s).evu = s.evu := rfl
@[simp] theorem setQuantity_pnp (q : Nat) (e : Quantity) (s : State) : (setQuantity q e s).pnp = s.pnp := rfl
@[simp] theorem setQuantity_pending (q : Nat) (e : Quantity) (s : State) : (setQuantity q e s).pending = s.pending := rfl
@[simp] theorem setQuantity_msu_quantities (q : Nat) (e : Quantity) (s : State) : (setQuantity q e s).msu.quantities = slotSet s.msu.quantities q e := rfl

/-! `setOutbox` -/

@[simp] theorem setOutbox_pins (o : Outbox) (s : State) : (setOutbox o s).pins = s.pins := rfl
@[simp] theorem setOutbox_stl (o : Outbox) (s : State) : (setOutbox o s).stl = s.stl := rfl
@[simp] theorem setOutbox_settings (o : Outbox) (s : State) : (setOutbox o s).settings = s.settings := rfl
@[simp] theorem setOutbox_lif (o : Outbox) (s : State) : (setOutbox o s).lif = s.lif := rfl
@[simp] theorem setOutbox_frh_lineState (o : Outbox) (s : State) : (setOutbox o s).frh.lineState = s.frh.lineState := rfl
@[simp] theorem setOutbox_frh_joinTimer (o : Outbox) (s : State) : (setOutbox o s).frh.joinTimer = s.frh.joinTimer := rfl
@[simp] theorem setOutbox_frh_nextSeq (o : Outbox) (s : State) : (setOutbox o s).frh.nextSeq = s.frh.nextSeq := rfl
@[simp] theorem setOutbox_frh_inFlight (o : Outbox) (s : State) : (setOutbox o s).frh.inFlight = s.frh.inFlight := rfl
@[simp] theorem setOutbox_frh_lastC (o : Outbox) (s : State) : (setOutbox o s).frh.lastC = s.frh.lastC := rfl
@[simp] theorem setOutbox_frh_lastDemand (o : Outbox) (s : State) : (setOutbox o s).frh.lastDemand = s.frh.lastDemand := rfl
@[simp] theorem setOutbox_frh_notice (o : Outbox) (s : State) : (setOutbox o s).frh.notice = s.frh.notice := rfl
@[simp] theorem setOutbox_pvw (o : Outbox) (s : State) : (setOutbox o s).pvw = s.pvw := rfl
@[simp] theorem setOutbox_msu (o : Outbox) (s : State) : (setOutbox o s).msu = s.msu := rfl
@[simp] theorem setOutbox_dtu (o : Outbox) (s : State) : (setOutbox o s).dtu = s.dtu := rfl
@[simp] theorem setOutbox_rng (o : Outbox) (s : State) : (setOutbox o s).rng = s.rng := rfl
@[simp] theorem setOutbox_srg (o : Outbox) (s : State) : (setOutbox o s).srg = s.srg := rfl
@[simp] theorem setOutbox_xcp (o : Outbox) (s : State) : (setOutbox o s).xcp = s.xcp := rfl
@[simp] theorem setOutbox_evu (o : Outbox) (s : State) : (setOutbox o s).evu = s.evu := rfl
@[simp] theorem setOutbox_pnp (o : Outbox) (s : State) : (setOutbox o s).pnp = s.pnp := rfl
@[simp] theorem setOutbox_pending (o : Outbox) (s : State) : (setOutbox o s).pending = s.pending := rfl
@[simp] theorem setOutbox_frh_outbox (o : Outbox) (s : State) : (setOutbox o s).frh.outbox = o := rfl

/-! `setRecallTimer` -/

@[simp] theorem setRecallTimer_pins (t : Timer) (s : State) : (setRecallTimer t s).pins = s.pins := rfl
@[simp] theorem setRecallTimer_stl (t : Timer) (s : State) : (setRecallTimer t s).stl = s.stl := rfl
@[simp] theorem setRecallTimer_settings (t : Timer) (s : State) : (setRecallTimer t s).settings = s.settings := rfl
@[simp] theorem setRecallTimer_lif (t : Timer) (s : State) : (setRecallTimer t s).lif = s.lif := rfl
@[simp] theorem setRecallTimer_frh (t : Timer) (s : State) : (setRecallTimer t s).frh = s.frh := rfl
@[simp] theorem setRecallTimer_pvw (t : Timer) (s : State) : (setRecallTimer t s).pvw = s.pvw := rfl
@[simp] theorem setRecallTimer_msu (t : Timer) (s : State) : (setRecallTimer t s).msu = s.msu := rfl
@[simp] theorem setRecallTimer_dtu_derateTotal (t : Timer) (s : State) : (setRecallTimer t s).dtu.derateTotal = s.dtu.derateTotal := rfl
@[simp] theorem setRecallTimer_dtu_quietCount (t : Timer) (s : State) : (setRecallTimer t s).dtu.quietCount = s.dtu.quietCount := rfl
@[simp] theorem setRecallTimer_dtu_normalTarget (t : Timer) (s : State) : (setRecallTimer t s).dtu.normalTarget = s.dtu.normalTarget := rfl
@[simp] theorem setRecallTimer_dtu_target (t : Timer) (s : State) : (setRecallTimer t s).dtu.target = s.dtu.target := rfl
@[simp] theorem setRecallTimer_dtu_setpoint (t : Timer) (s : State) : (setRecallTimer t s).dtu.setpoint = s.dtu.setpoint := rfl
@[simp] theorem setRecallTimer_dtu_tripSet (t : Timer) (s : State) : (setRecallTimer t s).dtu.tripSet = s.dtu.tripSet := rfl
@[simp] theorem setRecallTimer_dtu_pendingTrip (t : Timer) (s : State) : (setRecallTimer t s).dtu.pendingTrip = s.dtu.pendingTrip := rfl
@[simp] theorem setRecallTimer_dtu_duty (t : Timer) (s : State) : (setRecallTimer t s).dtu.duty = s.dtu.duty := rfl
@[simp] theorem setRecallTimer_dtu_runReq (t : Timer) (s : State) : (setRecallTimer t s).dtu.runReq = s.dtu.runReq := rfl
@[simp] theorem setRecallTimer_dtu_runAck (t : Timer) (s : State) : (setRecallTimer t s).dtu.runAck = s.dtu.runAck := rfl
@[simp] theorem setRecallTimer_dtu_startTimer (t : Timer) (s : State) : (setRecallTimer t s).dtu.startTimer = s.dtu.startTimer := rfl
@[simp] theorem setRecallTimer_dtu_warmTimer (t : Timer) (s : State) : (setRecallTimer t s).dtu.warmTimer = s.dtu.warmTimer := rfl
@[simp] theorem setRecallTimer_dtu_stopTimer (t : Timer) (s : State) : (setRecallTimer t s).dtu.stopTimer = s.dtu.stopTimer := rfl
@[simp] theorem setRecallTimer_dtu_setpt (t : Timer) (s : State) : (setRecallTimer t s).dtu.setpt = s.dtu.setpt := rfl
@[simp] theorem setRecallTimer_rng (t : Timer) (s : State) : (setRecallTimer t s).rng = s.rng := rfl
@[simp] theorem setRecallTimer_srg (t : Timer) (s : State) : (setRecallTimer t s).srg = s.srg := rfl
@[simp] theorem setRecallTimer_xcp (t : Timer) (s : State) : (setRecallTimer t s).xcp = s.xcp := rfl
@[simp] theorem setRecallTimer_evu (t : Timer) (s : State) : (setRecallTimer t s).evu = s.evu := rfl
@[simp] theorem setRecallTimer_pnp (t : Timer) (s : State) : (setRecallTimer t s).pnp = s.pnp := rfl
@[simp] theorem setRecallTimer_pending (t : Timer) (s : State) : (setRecallTimer t s).pending = s.pending := rfl
@[simp] theorem setRecallTimer_dtu_recallTimer (t : Timer) (s : State) : (setRecallTimer t s).dtu.recallTimer = t := rfl

/-! `setDerate` -/

@[simp] theorem setDerate_pins (total quiet : Nat) (s : State) : (setDerate total quiet s).pins = s.pins := rfl
@[simp] theorem setDerate_stl (total quiet : Nat) (s : State) : (setDerate total quiet s).stl = s.stl := rfl
@[simp] theorem setDerate_settings (total quiet : Nat) (s : State) : (setDerate total quiet s).settings = s.settings := rfl
@[simp] theorem setDerate_lif (total quiet : Nat) (s : State) : (setDerate total quiet s).lif = s.lif := rfl
@[simp] theorem setDerate_frh (total quiet : Nat) (s : State) : (setDerate total quiet s).frh = s.frh := rfl
@[simp] theorem setDerate_pvw (total quiet : Nat) (s : State) : (setDerate total quiet s).pvw = s.pvw := rfl
@[simp] theorem setDerate_msu (total quiet : Nat) (s : State) : (setDerate total quiet s).msu = s.msu := rfl
@[simp] theorem setDerate_dtu_normalTarget (total quiet : Nat) (s : State) : (setDerate total quiet s).dtu.normalTarget = s.dtu.normalTarget := rfl
@[simp] theorem setDerate_dtu_target (total quiet : Nat) (s : State) : (setDerate total quiet s).dtu.target = s.dtu.target := rfl
@[simp] theorem setDerate_dtu_setpoint (total quiet : Nat) (s : State) : (setDerate total quiet s).dtu.setpoint = s.dtu.setpoint := rfl
@[simp] theorem setDerate_dtu_tripSet (total quiet : Nat) (s : State) : (setDerate total quiet s).dtu.tripSet = s.dtu.tripSet := rfl
@[simp] theorem setDerate_dtu_pendingTrip (total quiet : Nat) (s : State) : (setDerate total quiet s).dtu.pendingTrip = s.dtu.pendingTrip := rfl
@[simp] theorem setDerate_dtu_duty (total quiet : Nat) (s : State) : (setDerate total quiet s).dtu.duty = s.dtu.duty := rfl
@[simp] theorem setDerate_dtu_runReq (total quiet : Nat) (s : State) : (setDerate total quiet s).dtu.runReq = s.dtu.runReq := rfl
@[simp] theorem setDerate_dtu_runAck (total quiet : Nat) (s : State) : (setDerate total quiet s).dtu.runAck = s.dtu.runAck := rfl
@[simp] theorem setDerate_dtu_recallTimer (total quiet : Nat) (s : State) : (setDerate total quiet s).dtu.recallTimer = s.dtu.recallTimer := rfl
@[simp] theorem setDerate_dtu_startTimer (total quiet : Nat) (s : State) : (setDerate total quiet s).dtu.startTimer = s.dtu.startTimer := rfl
@[simp] theorem setDerate_dtu_warmTimer (total quiet : Nat) (s : State) : (setDerate total quiet s).dtu.warmTimer = s.dtu.warmTimer := rfl
@[simp] theorem setDerate_dtu_stopTimer (total quiet : Nat) (s : State) : (setDerate total quiet s).dtu.stopTimer = s.dtu.stopTimer := rfl
@[simp] theorem setDerate_dtu_setpt (total quiet : Nat) (s : State) : (setDerate total quiet s).dtu.setpt = s.dtu.setpt := rfl
@[simp] theorem setDerate_rng (total quiet : Nat) (s : State) : (setDerate total quiet s).rng = s.rng := rfl
@[simp] theorem setDerate_srg (total quiet : Nat) (s : State) : (setDerate total quiet s).srg = s.srg := rfl
@[simp] theorem setDerate_xcp (total quiet : Nat) (s : State) : (setDerate total quiet s).xcp = s.xcp := rfl
@[simp] theorem setDerate_evu (total quiet : Nat) (s : State) : (setDerate total quiet s).evu = s.evu := rfl
@[simp] theorem setDerate_pnp (total quiet : Nat) (s : State) : (setDerate total quiet s).pnp = s.pnp := rfl
@[simp] theorem setDerate_pending (total quiet : Nat) (s : State) : (setDerate total quiet s).pending = s.pending := rfl
@[simp] theorem setDerate_dtu_derateTotal (total quiet : Nat) (s : State) : (setDerate total quiet s).dtu.derateTotal = total := rfl
@[simp] theorem setDerate_dtu_quietCount (total quiet : Nat) (s : State) : (setDerate total quiet s).dtu.quietCount = quiet := rfl

/-! `setQueue` -/

@[simp] theorem setQueue_pins (q : List QueueEntry) (s : State) : (setQueue q s).pins = s.pins := rfl
@[simp] theorem setQueue_stl (q : List QueueEntry) (s : State) : (setQueue q s).stl = s.stl := rfl
@[simp] theorem setQueue_settings (q : List QueueEntry) (s : State) : (setQueue q s).settings = s.settings := rfl
@[simp] theorem setQueue_lif (q : List QueueEntry) (s : State) : (setQueue q s).lif = s.lif := rfl
@[simp] theorem setQueue_frh (q : List QueueEntry) (s : State) : (setQueue q s).frh = s.frh := rfl
@[simp] theorem setQueue_pvw (q : List QueueEntry) (s : State) : (setQueue q s).pvw = s.pvw := rfl
@[simp] theorem setQueue_msu (q : List QueueEntry) (s : State) : (setQueue q s).msu = s.msu := rfl
@[simp] theorem setQueue_dtu (q : List QueueEntry) (s : State) : (setQueue q s).dtu = s.dtu := rfl
@[simp] theorem setQueue_rng (q : List QueueEntry) (s : State) : (setQueue q s).rng = s.rng := rfl
@[simp] theorem setQueue_srg (q : List QueueEntry) (s : State) : (setQueue q s).srg = s.srg := rfl
@[simp] theorem setQueue_xcp (q : List QueueEntry) (s : State) : (setQueue q s).xcp = s.xcp := rfl
@[simp] theorem setQueue_evu_refreshCount (q : List QueueEntry) (s : State) : (setQueue q s).evu.refreshCount = s.evu.refreshCount := rfl
@[simp] theorem setQueue_evu_dropped (q : List QueueEntry) (s : State) : (setQueue q s).evu.dropped = s.evu.dropped := rfl
@[simp] theorem setQueue_evu_channels (q : List QueueEntry) (s : State) : (setQueue q s).evu.channels = s.evu.channels := rfl
@[simp] theorem setQueue_evu_dose0 (q : List QueueEntry) (s : State) : (setQueue q s).evu.dose0 = s.evu.dose0 := rfl
@[simp] theorem setQueue_evu_dose1 (q : List QueueEntry) (s : State) : (setQueue q s).evu.dose1 = s.evu.dose1 := rfl
@[simp] theorem setQueue_pnp (q : List QueueEntry) (s : State) : (setQueue q s).pnp = s.pnp := rfl
@[simp] theorem setQueue_pending (q : List QueueEntry) (s : State) : (setQueue q s).pending = s.pending := rfl
@[simp] theorem setQueue_evu_queue (q : List QueueEntry) (s : State) : (setQueue q s).evu.queue = q := rfl

/-! `countDropped` -/

@[simp] theorem countDropped_pins (s : State) : (countDropped s).pins = s.pins := rfl
@[simp] theorem countDropped_stl (s : State) : (countDropped s).stl = s.stl := rfl
@[simp] theorem countDropped_settings (s : State) : (countDropped s).settings = s.settings := rfl
@[simp] theorem countDropped_lif (s : State) : (countDropped s).lif = s.lif := rfl
@[simp] theorem countDropped_frh (s : State) : (countDropped s).frh = s.frh := rfl
@[simp] theorem countDropped_pvw (s : State) : (countDropped s).pvw = s.pvw := rfl
@[simp] theorem countDropped_msu (s : State) : (countDropped s).msu = s.msu := rfl
@[simp] theorem countDropped_dtu (s : State) : (countDropped s).dtu = s.dtu := rfl
@[simp] theorem countDropped_rng (s : State) : (countDropped s).rng = s.rng := rfl
@[simp] theorem countDropped_srg (s : State) : (countDropped s).srg = s.srg := rfl
@[simp] theorem countDropped_xcp (s : State) : (countDropped s).xcp = s.xcp := rfl
@[simp] theorem countDropped_evu_queue (s : State) : (countDropped s).evu.queue = s.evu.queue := rfl
@[simp] theorem countDropped_evu_refreshCount (s : State) : (countDropped s).evu.refreshCount = s.evu.refreshCount := rfl
@[simp] theorem countDropped_evu_channels (s : State) : (countDropped s).evu.channels = s.evu.channels := rfl
@[simp] theorem countDropped_evu_dose0 (s : State) : (countDropped s).evu.dose0 = s.evu.dose0 := rfl
@[simp] theorem countDropped_evu_dose1 (s : State) : (countDropped s).evu.dose1 = s.evu.dose1 := rfl
@[simp] theorem countDropped_pnp (s : State) : (countDropped s).pnp = s.pnp := rfl
@[simp] theorem countDropped_pending (s : State) : (countDropped s).pending = s.pending := rfl
@[simp] theorem countDropped_evu_dropped (s : State) : (countDropped s).evu.dropped = min 255 (s.evu.dropped + 1) := rfl

/-! `setChannel` -/

@[simp] theorem setChannel_pins (n : Nat) (c : Channel) (s : State) : (setChannel n c s).pins = s.pins := rfl
@[simp] theorem setChannel_stl (n : Nat) (c : Channel) (s : State) : (setChannel n c s).stl = s.stl := rfl
@[simp] theorem setChannel_settings (n : Nat) (c : Channel) (s : State) : (setChannel n c s).settings = s.settings := rfl
@[simp] theorem setChannel_lif (n : Nat) (c : Channel) (s : State) : (setChannel n c s).lif = s.lif := rfl
@[simp] theorem setChannel_frh (n : Nat) (c : Channel) (s : State) : (setChannel n c s).frh = s.frh := rfl
@[simp] theorem setChannel_pvw (n : Nat) (c : Channel) (s : State) : (setChannel n c s).pvw = s.pvw := rfl
@[simp] theorem setChannel_msu (n : Nat) (c : Channel) (s : State) : (setChannel n c s).msu = s.msu := rfl
@[simp] theorem setChannel_dtu (n : Nat) (c : Channel) (s : State) : (setChannel n c s).dtu = s.dtu := rfl
@[simp] theorem setChannel_rng (n : Nat) (c : Channel) (s : State) : (setChannel n c s).rng = s.rng := rfl
@[simp] theorem setChannel_srg (n : Nat) (c : Channel) (s : State) : (setChannel n c s).srg = s.srg := rfl
@[simp] theorem setChannel_xcp (n : Nat) (c : Channel) (s : State) : (setChannel n c s).xcp = s.xcp := rfl
@[simp] theorem setChannel_evu_queue (n : Nat) (c : Channel) (s : State) : (setChannel n c s).evu.queue = s.evu.queue := rfl
@[simp] theorem setChannel_evu_refreshCount (n : Nat) (c : Channel) (s : State) : (setChannel n c s).evu.refreshCount = s.evu.refreshCount := rfl
@[simp] theorem setChannel_evu_dropped (n : Nat) (c : Channel) (s : State) : (setChannel n c s).evu.dropped = s.evu.dropped := rfl
@[simp] theorem setChannel_evu_dose0 (n : Nat) (c : Channel) (s : State) : (setChannel n c s).evu.dose0 = s.evu.dose0 := rfl
@[simp] theorem setChannel_evu_dose1 (n : Nat) (c : Channel) (s : State) : (setChannel n c s).evu.dose1 = s.evu.dose1 := rfl
@[simp] theorem setChannel_pnp (n : Nat) (c : Channel) (s : State) : (setChannel n c s).pnp = s.pnp := rfl
@[simp] theorem setChannel_pending (n : Nat) (c : Channel) (s : State) : (setChannel n c s).pending = s.pending := rfl
@[simp] theorem setChannel_evu_channels (n : Nat) (c : Channel) (s : State) : (setChannel n c s).evu.channels = slotSet s.evu.channels n c := rfl

/-! `setSetpt` -/

@[simp] theorem setSetpt_pins (l : SetptLine) (s : State) : (setSetpt l s).pins = s.pins := rfl
@[simp] theorem setSetpt_stl (l : SetptLine) (s : State) : (setSetpt l s).stl = s.stl := rfl
@[simp] theorem setSetpt_settings (l : SetptLine) (s : State) : (setSetpt l s).settings = s.settings := rfl
@[simp] theorem setSetpt_lif (l : SetptLine) (s : State) : (setSetpt l s).lif = s.lif := rfl
@[simp] theorem setSetpt_frh (l : SetptLine) (s : State) : (setSetpt l s).frh = s.frh := rfl
@[simp] theorem setSetpt_pvw (l : SetptLine) (s : State) : (setSetpt l s).pvw = s.pvw := rfl
@[simp] theorem setSetpt_msu (l : SetptLine) (s : State) : (setSetpt l s).msu = s.msu := rfl
@[simp] theorem setSetpt_dtu_derateTotal (l : SetptLine) (s : State) : (setSetpt l s).dtu.derateTotal = s.dtu.derateTotal := rfl
@[simp] theorem setSetpt_dtu_quietCount (l : SetptLine) (s : State) : (setSetpt l s).dtu.quietCount = s.dtu.quietCount := rfl
@[simp] theorem setSetpt_dtu_normalTarget (l : SetptLine) (s : State) : (setSetpt l s).dtu.normalTarget = s.dtu.normalTarget := rfl
@[simp] theorem setSetpt_dtu_target (l : SetptLine) (s : State) : (setSetpt l s).dtu.target = s.dtu.target := rfl
@[simp] theorem setSetpt_dtu_setpoint (l : SetptLine) (s : State) : (setSetpt l s).dtu.setpoint = s.dtu.setpoint := rfl
@[simp] theorem setSetpt_dtu_tripSet (l : SetptLine) (s : State) : (setSetpt l s).dtu.tripSet = s.dtu.tripSet := rfl
@[simp] theorem setSetpt_dtu_pendingTrip (l : SetptLine) (s : State) : (setSetpt l s).dtu.pendingTrip = s.dtu.pendingTrip := rfl
@[simp] theorem setSetpt_dtu_duty (l : SetptLine) (s : State) : (setSetpt l s).dtu.duty = s.dtu.duty := rfl
@[simp] theorem setSetpt_dtu_runReq (l : SetptLine) (s : State) : (setSetpt l s).dtu.runReq = s.dtu.runReq := rfl
@[simp] theorem setSetpt_dtu_runAck (l : SetptLine) (s : State) : (setSetpt l s).dtu.runAck = s.dtu.runAck := rfl
@[simp] theorem setSetpt_dtu_recallTimer (l : SetptLine) (s : State) : (setSetpt l s).dtu.recallTimer = s.dtu.recallTimer := rfl
@[simp] theorem setSetpt_dtu_startTimer (l : SetptLine) (s : State) : (setSetpt l s).dtu.startTimer = s.dtu.startTimer := rfl
@[simp] theorem setSetpt_dtu_warmTimer (l : SetptLine) (s : State) : (setSetpt l s).dtu.warmTimer = s.dtu.warmTimer := rfl
@[simp] theorem setSetpt_dtu_stopTimer (l : SetptLine) (s : State) : (setSetpt l s).dtu.stopTimer = s.dtu.stopTimer := rfl
@[simp] theorem setSetpt_rng (l : SetptLine) (s : State) : (setSetpt l s).rng = s.rng := rfl
@[simp] theorem setSetpt_srg (l : SetptLine) (s : State) : (setSetpt l s).srg = s.srg := rfl
@[simp] theorem setSetpt_xcp (l : SetptLine) (s : State) : (setSetpt l s).xcp = s.xcp := rfl
@[simp] theorem setSetpt_evu (l : SetptLine) (s : State) : (setSetpt l s).evu = s.evu := rfl
@[simp] theorem setSetpt_pnp (l : SetptLine) (s : State) : (setSetpt l s).pnp = s.pnp := rfl
@[simp] theorem setSetpt_pending (l : SetptLine) (s : State) : (setSetpt l s).pending = s.pending := rfl
@[simp] theorem setSetpt_dtu_setpt (l : SetptLine) (s : State) : (setSetpt l s).dtu.setpt = l := rfl

/-! `setFlows` -/

@[simp] theorem setFlows_pins (target setpoint : Nat) (s : State) : (setFlows target setpoint s).pins = s.pins := rfl
@[simp] theorem setFlows_stl (target setpoint : Nat) (s : State) : (setFlows target setpoint s).stl = s.stl := rfl
@[simp] theorem setFlows_settings (target setpoint : Nat) (s : State) : (setFlows target setpoint s).settings = s.settings := rfl
@[simp] theorem setFlows_lif (target setpoint : Nat) (s : State) : (setFlows target setpoint s).lif = s.lif := rfl
@[simp] theorem setFlows_frh (target setpoint : Nat) (s : State) : (setFlows target setpoint s).frh = s.frh := rfl
@[simp] theorem setFlows_pvw (target setpoint : Nat) (s : State) : (setFlows target setpoint s).pvw = s.pvw := rfl
@[simp] theorem setFlows_msu (target setpoint : Nat) (s : State) : (setFlows target setpoint s).msu = s.msu := rfl
@[simp] theorem setFlows_dtu_derateTotal (target setpoint : Nat) (s : State) : (setFlows target setpoint s).dtu.derateTotal = s.dtu.derateTotal := rfl
@[simp] theorem setFlows_dtu_quietCount (target setpoint : Nat) (s : State) : (setFlows target setpoint s).dtu.quietCount = s.dtu.quietCount := rfl
@[simp] theorem setFlows_dtu_normalTarget (target setpoint : Nat) (s : State) : (setFlows target setpoint s).dtu.normalTarget = s.dtu.normalTarget := rfl
@[simp] theorem setFlows_dtu_tripSet (target setpoint : Nat) (s : State) : (setFlows target setpoint s).dtu.tripSet = s.dtu.tripSet := rfl
@[simp] theorem setFlows_dtu_pendingTrip (target setpoint : Nat) (s : State) : (setFlows target setpoint s).dtu.pendingTrip = s.dtu.pendingTrip := rfl
@[simp] theorem setFlows_dtu_duty (target setpoint : Nat) (s : State) : (setFlows target setpoint s).dtu.duty = s.dtu.duty := rfl
@[simp] theorem setFlows_dtu_runReq (target setpoint : Nat) (s : State) : (setFlows target setpoint s).dtu.runReq = s.dtu.runReq := rfl
@[simp] theorem setFlows_dtu_runAck (target setpoint : Nat) (s : State) : (setFlows target setpoint s).dtu.runAck = s.dtu.runAck := rfl
@[simp] theorem setFlows_dtu_recallTimer (target setpoint : Nat) (s : State) : (setFlows target setpoint s).dtu.recallTimer = s.dtu.recallTimer := rfl
@[simp] theorem setFlows_dtu_startTimer (target setpoint : Nat) (s : State) : (setFlows target setpoint s).dtu.startTimer = s.dtu.startTimer := rfl
@[simp] theorem setFlows_dtu_warmTimer (target setpoint : Nat) (s : State) : (setFlows target setpoint s).dtu.warmTimer = s.dtu.warmTimer := rfl
@[simp] theorem setFlows_dtu_stopTimer (target setpoint : Nat) (s : State) : (setFlows target setpoint s).dtu.stopTimer = s.dtu.stopTimer := rfl
@[simp] theorem setFlows_dtu_setpt (target setpoint : Nat) (s : State) : (setFlows target setpoint s).dtu.setpt = s.dtu.setpt := rfl
@[simp] theorem setFlows_rng (target setpoint : Nat) (s : State) : (setFlows target setpoint s).rng = s.rng := rfl
@[simp] theorem setFlows_srg (target setpoint : Nat) (s : State) : (setFlows target setpoint s).srg = s.srg := rfl
@[simp] theorem setFlows_xcp (target setpoint : Nat) (s : State) : (setFlows target setpoint s).xcp = s.xcp := rfl
@[simp] theorem setFlows_evu (target setpoint : Nat) (s : State) : (setFlows target setpoint s).evu = s.evu := rfl
@[simp] theorem setFlows_pnp (target setpoint : Nat) (s : State) : (setFlows target setpoint s).pnp = s.pnp := rfl
@[simp] theorem setFlows_pending (target setpoint : Nat) (s : State) : (setFlows target setpoint s).pending = s.pending := rfl
@[simp] theorem setFlows_dtu_target (target setpoint : Nat) (s : State) : (setFlows target setpoint s).dtu.target = target := rfl
@[simp] theorem setFlows_dtu_setpoint (target setpoint : Nat) (s : State) : (setFlows target setpoint s).dtu.setpoint = setpoint := rfl

/-! `setAsk` -/

@[simp] theorem setAsk_pins (a : AskRecord) (s : State) : (setAsk a s).pins = s.pins := rfl
@[simp] theorem setAsk_stl (a : AskRecord) (s : State) : (setAsk a s).stl = s.stl := rfl
@[simp] theorem setAsk_settings (a : AskRecord) (s : State) : (setAsk a s).settings = s.settings := rfl
@[simp] theorem setAsk_lif (a : AskRecord) (s : State) : (setAsk a s).lif = s.lif := rfl
@[simp] theorem setAsk_frh (a : AskRecord) (s : State) : (setAsk a s).frh = s.frh := rfl
@[simp] theorem setAsk_pvw (a : AskRecord) (s : State) : (setAsk a s).pvw = s.pvw := rfl
@[simp] theorem setAsk_msu (a : AskRecord) (s : State) : (setAsk a s).msu = s.msu := rfl
@[simp] theorem setAsk_dtu (a : AskRecord) (s : State) : (setAsk a s).dtu = s.dtu := rfl
@[simp] theorem setAsk_rng_grants (a : AskRecord) (s : State) : (setAsk a s).rng.grants = s.rng.grants := rfl
@[simp] theorem setAsk_rng_holdOff (a : AskRecord) (s : State) : (setAsk a s).rng.holdOff = s.rng.holdOff := rfl
@[simp] theorem setAsk_srg (a : AskRecord) (s : State) : (setAsk a s).srg = s.srg := rfl
@[simp] theorem setAsk_xcp (a : AskRecord) (s : State) : (setAsk a s).xcp = s.xcp := rfl
@[simp] theorem setAsk_evu (a : AskRecord) (s : State) : (setAsk a s).evu = s.evu := rfl
@[simp] theorem setAsk_pnp (a : AskRecord) (s : State) : (setAsk a s).pnp = s.pnp := rfl
@[simp] theorem setAsk_pending (a : AskRecord) (s : State) : (setAsk a s).pending = s.pending := rfl
@[simp] theorem setAsk_rng_ask (a : AskRecord) (s : State) : (setAsk a s).rng.ask = a := rfl

/-! `setHoldOff` -/

@[simp] theorem setHoldOff_pins (t : Timer) (s : State) : (setHoldOff t s).pins = s.pins := rfl
@[simp] theorem setHoldOff_stl (t : Timer) (s : State) : (setHoldOff t s).stl = s.stl := rfl
@[simp] theorem setHoldOff_settings (t : Timer) (s : State) : (setHoldOff t s).settings = s.settings := rfl
@[simp] theorem setHoldOff_lif (t : Timer) (s : State) : (setHoldOff t s).lif = s.lif := rfl
@[simp] theorem setHoldOff_frh (t : Timer) (s : State) : (setHoldOff t s).frh = s.frh := rfl
@[simp] theorem setHoldOff_pvw (t : Timer) (s : State) : (setHoldOff t s).pvw = s.pvw := rfl
@[simp] theorem setHoldOff_msu (t : Timer) (s : State) : (setHoldOff t s).msu = s.msu := rfl
@[simp] theorem setHoldOff_dtu (t : Timer) (s : State) : (setHoldOff t s).dtu = s.dtu := rfl
@[simp] theorem setHoldOff_rng_ask (t : Timer) (s : State) : (setHoldOff t s).rng.ask = s.rng.ask := rfl
@[simp] theorem setHoldOff_rng_grants (t : Timer) (s : State) : (setHoldOff t s).rng.grants = s.rng.grants := rfl
@[simp] theorem setHoldOff_srg (t : Timer) (s : State) : (setHoldOff t s).srg = s.srg := rfl
@[simp] theorem setHoldOff_xcp (t : Timer) (s : State) : (setHoldOff t s).xcp = s.xcp := rfl
@[simp] theorem setHoldOff_evu (t : Timer) (s : State) : (setHoldOff t s).evu = s.evu := rfl
@[simp] theorem setHoldOff_pnp (t : Timer) (s : State) : (setHoldOff t s).pnp = s.pnp := rfl
@[simp] theorem setHoldOff_pending (t : Timer) (s : State) : (setHoldOff t s).pending = s.pending := rfl
@[simp] theorem setHoldOff_rng_holdOff (t : Timer) (s : State) : (setHoldOff t s).rng.holdOff = t := rfl

/-! `setTripEntry` -/

@[simp] theorem setTripEntry_pins (n : Nat) (c : Option Nat) (s : State) : (setTripEntry n c s).pins = s.pins := rfl
@[simp] theorem setTripEntry_stl (n : Nat) (c : Option Nat) (s : State) : (setTripEntry n c s).stl = s.stl := rfl
@[simp] theorem setTripEntry_settings (n : Nat) (c : Option Nat) (s : State) : (setTripEntry n c s).settings = s.settings := rfl
@[simp] theorem setTripEntry_lif (n : Nat) (c : Option Nat) (s : State) : (setTripEntry n c s).lif = s.lif := rfl
@[simp] theorem setTripEntry_frh (n : Nat) (c : Option Nat) (s : State) : (setTripEntry n c s).frh = s.frh := rfl
@[simp] theorem setTripEntry_pvw (n : Nat) (c : Option Nat) (s : State) : (setTripEntry n c s).pvw = s.pvw := rfl
@[simp] theorem setTripEntry_msu (n : Nat) (c : Option Nat) (s : State) : (setTripEntry n c s).msu = s.msu := rfl
@[simp] theorem setTripEntry_dtu_derateTotal (n : Nat) (c : Option Nat) (s : State) : (setTripEntry n c s).dtu.derateTotal = s.dtu.derateTotal := rfl
@[simp] theorem setTripEntry_dtu_quietCount (n : Nat) (c : Option Nat) (s : State) : (setTripEntry n c s).dtu.quietCount = s.dtu.quietCount := rfl
@[simp] theorem setTripEntry_dtu_normalTarget (n : Nat) (c : Option Nat) (s : State) : (setTripEntry n c s).dtu.normalTarget = s.dtu.normalTarget := rfl
@[simp] theorem setTripEntry_dtu_target (n : Nat) (c : Option Nat) (s : State) : (setTripEntry n c s).dtu.target = s.dtu.target := rfl
@[simp] theorem setTripEntry_dtu_setpoint (n : Nat) (c : Option Nat) (s : State) : (setTripEntry n c s).dtu.setpoint = s.dtu.setpoint := rfl
@[simp] theorem setTripEntry_dtu_pendingTrip (n : Nat) (c : Option Nat) (s : State) : (setTripEntry n c s).dtu.pendingTrip = s.dtu.pendingTrip := rfl
@[simp] theorem setTripEntry_dtu_duty (n : Nat) (c : Option Nat) (s : State) : (setTripEntry n c s).dtu.duty = s.dtu.duty := rfl
@[simp] theorem setTripEntry_dtu_runReq (n : Nat) (c : Option Nat) (s : State) : (setTripEntry n c s).dtu.runReq = s.dtu.runReq := rfl
@[simp] theorem setTripEntry_dtu_runAck (n : Nat) (c : Option Nat) (s : State) : (setTripEntry n c s).dtu.runAck = s.dtu.runAck := rfl
@[simp] theorem setTripEntry_dtu_recallTimer (n : Nat) (c : Option Nat) (s : State) : (setTripEntry n c s).dtu.recallTimer = s.dtu.recallTimer := rfl
@[simp] theorem setTripEntry_dtu_startTimer (n : Nat) (c : Option Nat) (s : State) : (setTripEntry n c s).dtu.startTimer = s.dtu.startTimer := rfl
@[simp] theorem setTripEntry_dtu_warmTimer (n : Nat) (c : Option Nat) (s : State) : (setTripEntry n c s).dtu.warmTimer = s.dtu.warmTimer := rfl
@[simp] theorem setTripEntry_dtu_stopTimer (n : Nat) (c : Option Nat) (s : State) : (setTripEntry n c s).dtu.stopTimer = s.dtu.stopTimer := rfl
@[simp] theorem setTripEntry_dtu_setpt (n : Nat) (c : Option Nat) (s : State) : (setTripEntry n c s).dtu.setpt = s.dtu.setpt := rfl
@[simp] theorem setTripEntry_rng (n : Nat) (c : Option Nat) (s : State) : (setTripEntry n c s).rng = s.rng := rfl
@[simp] theorem setTripEntry_srg (n : Nat) (c : Option Nat) (s : State) : (setTripEntry n c s).srg = s.srg := rfl
@[simp] theorem setTripEntry_xcp (n : Nat) (c : Option Nat) (s : State) : (setTripEntry n c s).xcp = s.xcp := rfl
@[simp] theorem setTripEntry_evu (n : Nat) (c : Option Nat) (s : State) : (setTripEntry n c s).evu = s.evu := rfl
@[simp] theorem setTripEntry_pnp (n : Nat) (c : Option Nat) (s : State) : (setTripEntry n c s).pnp = s.pnp := rfl
@[simp] theorem setTripEntry_pending (n : Nat) (c : Option Nat) (s : State) : (setTripEntry n c s).pending = s.pending := rfl
@[simp] theorem setTripEntry_dtu_tripSet (n : Nat) (c : Option Nat) (s : State) : (setTripEntry n c s).dtu.tripSet = slotSet s.dtu.tripSet n c := rfl

/-! `setPendingTrip` -/

@[simp] theorem setPendingTrip_pins (p : Option Nat) (s : State) : (setPendingTrip p s).pins = s.pins := rfl
@[simp] theorem setPendingTrip_stl (p : Option Nat) (s : State) : (setPendingTrip p s).stl = s.stl := rfl
@[simp] theorem setPendingTrip_settings (p : Option Nat) (s : State) : (setPendingTrip p s).settings = s.settings := rfl
@[simp] theorem setPendingTrip_lif (p : Option Nat) (s : State) : (setPendingTrip p s).lif = s.lif := rfl
@[simp] theorem setPendingTrip_frh (p : Option Nat) (s : State) : (setPendingTrip p s).frh = s.frh := rfl
@[simp] theorem setPendingTrip_pvw (p : Option Nat) (s : State) : (setPendingTrip p s).pvw = s.pvw := rfl
@[simp] theorem setPendingTrip_msu (p : Option Nat) (s : State) : (setPendingTrip p s).msu = s.msu := rfl
@[simp] theorem setPendingTrip_dtu_derateTotal (p : Option Nat) (s : State) : (setPendingTrip p s).dtu.derateTotal = s.dtu.derateTotal := rfl
@[simp] theorem setPendingTrip_dtu_quietCount (p : Option Nat) (s : State) : (setPendingTrip p s).dtu.quietCount = s.dtu.quietCount := rfl
@[simp] theorem setPendingTrip_dtu_normalTarget (p : Option Nat) (s : State) : (setPendingTrip p s).dtu.normalTarget = s.dtu.normalTarget := rfl
@[simp] theorem setPendingTrip_dtu_target (p : Option Nat) (s : State) : (setPendingTrip p s).dtu.target = s.dtu.target := rfl
@[simp] theorem setPendingTrip_dtu_setpoint (p : Option Nat) (s : State) : (setPendingTrip p s).dtu.setpoint = s.dtu.setpoint := rfl
@[simp] theorem setPendingTrip_dtu_tripSet (p : Option Nat) (s : State) : (setPendingTrip p s).dtu.tripSet = s.dtu.tripSet := rfl
@[simp] theorem setPendingTrip_dtu_duty (p : Option Nat) (s : State) : (setPendingTrip p s).dtu.duty = s.dtu.duty := rfl
@[simp] theorem setPendingTrip_dtu_runReq (p : Option Nat) (s : State) : (setPendingTrip p s).dtu.runReq = s.dtu.runReq := rfl
@[simp] theorem setPendingTrip_dtu_runAck (p : Option Nat) (s : State) : (setPendingTrip p s).dtu.runAck = s.dtu.runAck := rfl
@[simp] theorem setPendingTrip_dtu_recallTimer (p : Option Nat) (s : State) : (setPendingTrip p s).dtu.recallTimer = s.dtu.recallTimer := rfl
@[simp] theorem setPendingTrip_dtu_startTimer (p : Option Nat) (s : State) : (setPendingTrip p s).dtu.startTimer = s.dtu.startTimer := rfl
@[simp] theorem setPendingTrip_dtu_warmTimer (p : Option Nat) (s : State) : (setPendingTrip p s).dtu.warmTimer = s.dtu.warmTimer := rfl
@[simp] theorem setPendingTrip_dtu_stopTimer (p : Option Nat) (s : State) : (setPendingTrip p s).dtu.stopTimer = s.dtu.stopTimer := rfl
@[simp] theorem setPendingTrip_dtu_setpt (p : Option Nat) (s : State) : (setPendingTrip p s).dtu.setpt = s.dtu.setpt := rfl
@[simp] theorem setPendingTrip_rng (p : Option Nat) (s : State) : (setPendingTrip p s).rng = s.rng := rfl
@[simp] theorem setPendingTrip_srg (p : Option Nat) (s : State) : (setPendingTrip p s).srg = s.srg := rfl
@[simp] theorem setPendingTrip_xcp (p : Option Nat) (s : State) : (setPendingTrip p s).xcp = s.xcp := rfl
@[simp] theorem setPendingTrip_evu (p : Option Nat) (s : State) : (setPendingTrip p s).evu = s.evu := rfl
@[simp] theorem setPendingTrip_pnp (p : Option Nat) (s : State) : (setPendingTrip p s).pnp = s.pnp := rfl
@[simp] theorem setPendingTrip_pending (p : Option Nat) (s : State) : (setPendingTrip p s).pending = s.pending := rfl
@[simp] theorem setPendingTrip_dtu_pendingTrip (p : Option Nat) (s : State) : (setPendingTrip p s).dtu.pendingTrip = p := rfl

/-! `setGrants` -/

@[simp] theorem setGrants_pins (g : List Grant) (s : State) : (setGrants g s).pins = s.pins := rfl
@[simp] theorem setGrants_stl (g : List Grant) (s : State) : (setGrants g s).stl = s.stl := rfl
@[simp] theorem setGrants_settings (g : List Grant) (s : State) : (setGrants g s).settings = s.settings := rfl
@[simp] theorem setGrants_lif (g : List Grant) (s : State) : (setGrants g s).lif = s.lif := rfl
@[simp] theorem setGrants_frh (g : List Grant) (s : State) : (setGrants g s).frh = s.frh := rfl
@[simp] theorem setGrants_pvw (g : List Grant) (s : State) : (setGrants g s).pvw = s.pvw := rfl
@[simp] theorem setGrants_msu (g : List Grant) (s : State) : (setGrants g s).msu = s.msu := rfl
@[simp] theorem setGrants_dtu (g : List Grant) (s : State) : (setGrants g s).dtu = s.dtu := rfl
@[simp] theorem setGrants_rng_ask (g : List Grant) (s : State) : (setGrants g s).rng.ask = s.rng.ask := rfl
@[simp] theorem setGrants_rng_holdOff (g : List Grant) (s : State) : (setGrants g s).rng.holdOff = s.rng.holdOff := rfl
@[simp] theorem setGrants_srg (g : List Grant) (s : State) : (setGrants g s).srg = s.srg := rfl
@[simp] theorem setGrants_xcp (g : List Grant) (s : State) : (setGrants g s).xcp = s.xcp := rfl
@[simp] theorem setGrants_evu (g : List Grant) (s : State) : (setGrants g s).evu = s.evu := rfl
@[simp] theorem setGrants_pnp (g : List Grant) (s : State) : (setGrants g s).pnp = s.pnp := rfl
@[simp] theorem setGrants_pending (g : List Grant) (s : State) : (setGrants g s).pending = s.pending := rfl
@[simp] theorem setGrants_rng_grants (g : List Grant) (s : State) : (setGrants g s).rng.grants = g := rfl

/-! `setTx` -/

@[simp] theorem setTx_pins (t : TxSide) (s : State) : (setTx t s).pins = s.pins := rfl
@[simp] theorem setTx_stl (t : TxSide) (s : State) : (setTx t s).stl = s.stl := rfl
@[simp] theorem setTx_settings (t : TxSide) (s : State) : (setTx t s).settings = s.settings := rfl
@[simp] theorem setTx_lif_quiet (t : TxSide) (s : State) : (setTx t s).lif.quiet = s.lif.quiet := rfl
@[simp] theorem setTx_lif_rx (t : TxSide) (s : State) : (setTx t s).lif.rx = s.lif.rx := rfl
@[simp] theorem setTx_lif_leadFrom (t : TxSide) (s : State) : (setTx t s).lif.leadFrom = s.lif.leadFrom := rfl
@[simp] theorem setTx_lif_cells (t : TxSide) (s : State) : (setTx t s).lif.cells = s.lif.cells := rfl
@[simp] theorem setTx_lif_report (t : TxSide) (s : State) : (setTx t s).lif.report = s.lif.report := rfl
@[simp] theorem setTx_lif_rxHeader (t : TxSide) (s : State) : (setTx t s).lif.rxHeader = s.lif.rxHeader := rfl
@[simp] theorem setTx_lif_rxStartedSending (t : TxSide) (s : State) : (setTx t s).lif.rxStartedSending = s.lif.rxStartedSending := rfl
@[simp] theorem setTx_frh (t : TxSide) (s : State) : (setTx t s).frh = s.frh := rfl
@[simp] theorem setTx_pvw (t : TxSide) (s : State) : (setTx t s).pvw = s.pvw := rfl
@[simp] theorem setTx_msu (t : TxSide) (s : State) : (setTx t s).msu = s.msu := rfl
@[simp] theorem setTx_dtu (t : TxSide) (s : State) : (setTx t s).dtu = s.dtu := rfl
@[simp] theorem setTx_rng (t : TxSide) (s : State) : (setTx t s).rng = s.rng := rfl
@[simp] theorem setTx_srg (t : TxSide) (s : State) : (setTx t s).srg = s.srg := rfl
@[simp] theorem setTx_xcp (t : TxSide) (s : State) : (setTx t s).xcp = s.xcp := rfl
@[simp] theorem setTx_evu (t : TxSide) (s : State) : (setTx t s).evu = s.evu := rfl
@[simp] theorem setTx_pnp (t : TxSide) (s : State) : (setTx t s).pnp = s.pnp := rfl
@[simp] theorem setTx_pending (t : TxSide) (s : State) : (setTx t s).pending = s.pending := rfl
@[simp] theorem setTx_lif_tx (t : TxSide) (s : State) : (setTx t s).lif.tx = t := rfl

/-! `setInFlight` -/

@[simp] theorem setInFlight_pins (f : Option InFlight) (s : State) : (setInFlight f s).pins = s.pins := rfl
@[simp] theorem setInFlight_stl (f : Option InFlight) (s : State) : (setInFlight f s).stl = s.stl := rfl
@[simp] theorem setInFlight_settings (f : Option InFlight) (s : State) : (setInFlight f s).settings = s.settings := rfl
@[simp] theorem setInFlight_lif (f : Option InFlight) (s : State) : (setInFlight f s).lif = s.lif := rfl
@[simp] theorem setInFlight_frh_lineState (f : Option InFlight) (s : State) : (setInFlight f s).frh.lineState = s.frh.lineState := rfl
@[simp] theorem setInFlight_frh_joinTimer (f : Option InFlight) (s : State) : (setInFlight f s).frh.joinTimer = s.frh.joinTimer := rfl
@[simp] theorem setInFlight_frh_nextSeq (f : Option InFlight) (s : State) : (setInFlight f s).frh.nextSeq = s.frh.nextSeq := rfl
@[simp] theorem setInFlight_frh_outbox (f : Option InFlight) (s : State) : (setInFlight f s).frh.outbox = s.frh.outbox := rfl
@[simp] theorem setInFlight_frh_lastC (f : Option InFlight) (s : State) : (setInFlight f s).frh.lastC = s.frh.lastC := rfl
@[simp] theorem setInFlight_frh_lastDemand (f : Option InFlight) (s : State) : (setInFlight f s).frh.lastDemand = s.frh.lastDemand := rfl
@[simp] theorem setInFlight_frh_notice (f : Option InFlight) (s : State) : (setInFlight f s).frh.notice = s.frh.notice := rfl
@[simp] theorem setInFlight_pvw (f : Option InFlight) (s : State) : (setInFlight f s).pvw = s.pvw := rfl
@[simp] theorem setInFlight_msu (f : Option InFlight) (s : State) : (setInFlight f s).msu = s.msu := rfl
@[simp] theorem setInFlight_dtu (f : Option InFlight) (s : State) : (setInFlight f s).dtu = s.dtu := rfl
@[simp] theorem setInFlight_rng (f : Option InFlight) (s : State) : (setInFlight f s).rng = s.rng := rfl
@[simp] theorem setInFlight_srg (f : Option InFlight) (s : State) : (setInFlight f s).srg = s.srg := rfl
@[simp] theorem setInFlight_xcp (f : Option InFlight) (s : State) : (setInFlight f s).xcp = s.xcp := rfl
@[simp] theorem setInFlight_evu (f : Option InFlight) (s : State) : (setInFlight f s).evu = s.evu := rfl
@[simp] theorem setInFlight_pnp (f : Option InFlight) (s : State) : (setInFlight f s).pnp = s.pnp := rfl
@[simp] theorem setInFlight_pending (f : Option InFlight) (s : State) : (setInFlight f s).pending = s.pending := rfl
@[simp] theorem setInFlight_frh_inFlight (f : Option InFlight) (s : State) : (setInFlight f s).frh.inFlight = f := rfl

/-! `setNotice` -/

@[simp] theorem setNotice_pins (n : Option Nat) (s : State) : (setNotice n s).pins = s.pins := rfl
@[simp] theorem setNotice_stl (n : Option Nat) (s : State) : (setNotice n s).stl = s.stl := rfl
@[simp] theorem setNotice_settings (n : Option Nat) (s : State) : (setNotice n s).settings = s.settings := rfl
@[simp] theorem setNotice_lif (n : Option Nat) (s : State) : (setNotice n s).lif = s.lif := rfl
@[simp] theorem setNotice_frh_lineState (n : Option Nat) (s : State) : (setNotice n s).frh.lineState = s.frh.lineState := rfl
@[simp] theorem setNotice_frh_joinTimer (n : Option Nat) (s : State) : (setNotice n s).frh.joinTimer = s.frh.joinTimer := rfl
@[simp] theorem setNotice_frh_nextSeq (n : Option Nat) (s : State) : (setNotice n s).frh.nextSeq = s.frh.nextSeq := rfl
@[simp] theorem setNotice_frh_outbox (n : Option Nat) (s : State) : (setNotice n s).frh.outbox = s.frh.outbox := rfl
@[simp] theorem setNotice_frh_inFlight (n : Option Nat) (s : State) : (setNotice n s).frh.inFlight = s.frh.inFlight := rfl
@[simp] theorem setNotice_frh_lastC (n : Option Nat) (s : State) : (setNotice n s).frh.lastC = s.frh.lastC := rfl
@[simp] theorem setNotice_frh_lastDemand (n : Option Nat) (s : State) : (setNotice n s).frh.lastDemand = s.frh.lastDemand := rfl
@[simp] theorem setNotice_pvw (n : Option Nat) (s : State) : (setNotice n s).pvw = s.pvw := rfl
@[simp] theorem setNotice_msu (n : Option Nat) (s : State) : (setNotice n s).msu = s.msu := rfl
@[simp] theorem setNotice_dtu (n : Option Nat) (s : State) : (setNotice n s).dtu = s.dtu := rfl
@[simp] theorem setNotice_rng (n : Option Nat) (s : State) : (setNotice n s).rng = s.rng := rfl
@[simp] theorem setNotice_srg (n : Option Nat) (s : State) : (setNotice n s).srg = s.srg := rfl
@[simp] theorem setNotice_xcp (n : Option Nat) (s : State) : (setNotice n s).xcp = s.xcp := rfl
@[simp] theorem setNotice_evu (n : Option Nat) (s : State) : (setNotice n s).evu = s.evu := rfl
@[simp] theorem setNotice_pnp (n : Option Nat) (s : State) : (setNotice n s).pnp = s.pnp := rfl
@[simp] theorem setNotice_pending (n : Option Nat) (s : State) : (setNotice n s).pending = s.pending := rfl
@[simp] theorem setNotice_frh_notice (n : Option Nat) (s : State) : (setNotice n s).frh.notice = n := rfl

/-! `setGathered` -/

@[simp] theorem setGathered_pins (g : List Octet) (s : State) : (setGathered g s).pins = s.pins := rfl
@[simp] theorem setGathered_stl (g : List Octet) (s : State) : (setGathered g s).stl = s.stl := rfl
@[simp] theorem setGathered_settings (g : List Octet) (s : State) : (setGathered g s).settings = s.settings := rfl
@[simp] theorem setGathered_lif (g : List Octet) (s : State) : (setGathered g s).lif = s.lif := rfl
@[simp] theorem setGathered_frh (g : List Octet) (s : State) : (setGathered g s).frh = s.frh := rfl
@[simp] theorem setGathered_pvw (g : List Octet) (s : State) : (setGathered g s).pvw = s.pvw := rfl
@[simp] theorem setGathered_msu_idleReached (g : List Octet) (s : State) : (setGathered g s).msu.idleReached = s.msu.idleReached := rfl
@[simp] theorem setGathered_msu_awaitHigh (g : List Octet) (s : State) : (setGathered g s).msu.awaitHigh = s.msu.awaitHigh := rfl
@[simp] theorem setGathered_msu_rejected (g : List Octet) (s : State) : (setGathered g s).msu.rejected = s.msu.rejected := rfl
@[simp] theorem setGathered_msu_lastRejection (g : List Octet) (s : State) : (setGathered g s).msu.lastRejection = s.msu.lastRejection := rfl
@[simp] theorem setGathered_msu_latches (g : List Octet) (s : State) : (setGathered g s).msu.latches = s.msu.latches := rfl
@[simp] theorem setGathered_msu_quantities (g : List Octet) (s : State) : (setGathered g s).msu.quantities = s.msu.quantities := rfl
@[simp] theorem setGathered_msu_windows (g : List Octet) (s : State) : (setGathered g s).msu.windows = s.msu.windows := rfl
@[simp] theorem setGathered_dtu (g : List Octet) (s : State) : (setGathered g s).dtu = s.dtu := rfl
@[simp] theorem setGathered_rng (g : List Octet) (s : State) : (setGathered g s).rng = s.rng := rfl
@[simp] theorem setGathered_srg (g : List Octet) (s : State) : (setGathered g s).srg = s.srg := rfl
@[simp] theorem setGathered_xcp (g : List Octet) (s : State) : (setGathered g s).xcp = s.xcp := rfl
@[simp] theorem setGathered_evu (g : List Octet) (s : State) : (setGathered g s).evu = s.evu := rfl
@[simp] theorem setGathered_pnp (g : List Octet) (s : State) : (setGathered g s).pnp = s.pnp := rfl
@[simp] theorem setGathered_pending (g : List Octet) (s : State) : (setGathered g s).pending = s.pending := rfl
@[simp] theorem setGathered_msu_gathered (g : List Octet) (s : State) : (setGathered g s).msu.gathered = g := rfl

/-! `setLatch` -/

@[simp] theorem setLatch_pins (n : Nat) (l : Latch) (s : State) : (setLatch n l s).pins = s.pins := rfl
@[simp] theorem setLatch_stl (n : Nat) (l : Latch) (s : State) : (setLatch n l s).stl = s.stl := rfl
@[simp] theorem setLatch_settings (n : Nat) (l : Latch) (s : State) : (setLatch n l s).settings = s.settings := rfl
@[simp] theorem setLatch_lif (n : Nat) (l : Latch) (s : State) : (setLatch n l s).lif = s.lif := rfl
@[simp] theorem setLatch_frh (n : Nat) (l : Latch) (s : State) : (setLatch n l s).frh = s.frh := rfl
@[simp] theorem setLatch_pvw (n : Nat) (l : Latch) (s : State) : (setLatch n l s).pvw = s.pvw := rfl
@[simp] theorem setLatch_msu_gathered (n : Nat) (l : Latch) (s : State) : (setLatch n l s).msu.gathered = s.msu.gathered := rfl
@[simp] theorem setLatch_msu_idleReached (n : Nat) (l : Latch) (s : State) : (setLatch n l s).msu.idleReached = s.msu.idleReached := rfl
@[simp] theorem setLatch_msu_awaitHigh (n : Nat) (l : Latch) (s : State) : (setLatch n l s).msu.awaitHigh = s.msu.awaitHigh := rfl
@[simp] theorem setLatch_msu_rejected (n : Nat) (l : Latch) (s : State) : (setLatch n l s).msu.rejected = s.msu.rejected := rfl
@[simp] theorem setLatch_msu_lastRejection (n : Nat) (l : Latch) (s : State) : (setLatch n l s).msu.lastRejection = s.msu.lastRejection := rfl
@[simp] theorem setLatch_msu_quantities (n : Nat) (l : Latch) (s : State) : (setLatch n l s).msu.quantities = s.msu.quantities := rfl
@[simp] theorem setLatch_msu_windows (n : Nat) (l : Latch) (s : State) : (setLatch n l s).msu.windows = s.msu.windows := rfl
@[simp] theorem setLatch_dtu (n : Nat) (l : Latch) (s : State) : (setLatch n l s).dtu = s.dtu := rfl
@[simp] theorem setLatch_rng (n : Nat) (l : Latch) (s : State) : (setLatch n l s).rng = s.rng := rfl
@[simp] theorem setLatch_srg (n : Nat) (l : Latch) (s : State) : (setLatch n l s).srg = s.srg := rfl
@[simp] theorem setLatch_xcp (n : Nat) (l : Latch) (s : State) : (setLatch n l s).xcp = s.xcp := rfl
@[simp] theorem setLatch_evu (n : Nat) (l : Latch) (s : State) : (setLatch n l s).evu = s.evu := rfl
@[simp] theorem setLatch_pnp (n : Nat) (l : Latch) (s : State) : (setLatch n l s).pnp = s.pnp := rfl
@[simp] theorem setLatch_pending (n : Nat) (l : Latch) (s : State) : (setLatch n l s).pending = s.pending := rfl
@[simp] theorem setLatch_msu_latches (n : Nat) (l : Latch) (s : State) : (setLatch n l s).msu.latches = slotSet s.msu.latches n l := rfl

/-! `setWindow` -/

@[simp] theorem setWindow_pins (n : Nat) (w : WindowState) (s : State) : (setWindow n w s).pins = s.pins := rfl
@[simp] theorem setWindow_stl (n : Nat) (w : WindowState) (s : State) : (setWindow n w s).stl = s.stl := rfl
@[simp] theorem setWindow_settings (n : Nat) (w : WindowState) (s : State) : (setWindow n w s).settings = s.settings := rfl
@[simp] theorem setWindow_lif (n : Nat) (w : WindowState) (s : State) : (setWindow n w s).lif = s.lif := rfl
@[simp] theorem setWindow_frh (n : Nat) (w : WindowState) (s : State) : (setWindow n w s).frh = s.frh := rfl
@[simp] theorem setWindow_pvw (n : Nat) (w : WindowState) (s : State) : (setWindow n w s).pvw = s.pvw := rfl
@[simp] theorem setWindow_msu_gathered (n : Nat) (w : WindowState) (s : State) : (setWindow n w s).msu.gathered = s.msu.gathered := rfl
@[simp] theorem setWindow_msu_idleReached (n : Nat) (w : WindowState) (s : State) : (setWindow n w s).msu.idleReached = s.msu.idleReached := rfl
@[simp] theorem setWindow_msu_awaitHigh (n : Nat) (w : WindowState) (s : State) : (setWindow n w s).msu.awaitHigh = s.msu.awaitHigh := rfl
@[simp] theorem setWindow_msu_rejected (n : Nat) (w : WindowState) (s : State) : (setWindow n w s).msu.rejected = s.msu.rejected := rfl
@[simp] theorem setWindow_msu_lastRejection (n : Nat) (w : WindowState) (s : State) : (setWindow n w s).msu.lastRejection = s.msu.lastRejection := rfl
@[simp] theorem setWindow_msu_latches (n : Nat) (w : WindowState) (s : State) : (setWindow n w s).msu.latches = s.msu.latches := rfl
@[simp] theorem setWindow_msu_quantities (n : Nat) (w : WindowState) (s : State) : (setWindow n w s).msu.quantities = s.msu.quantities := rfl
@[simp] theorem setWindow_dtu (n : Nat) (w : WindowState) (s : State) : (setWindow n w s).dtu = s.dtu := rfl
@[simp] theorem setWindow_rng (n : Nat) (w : WindowState) (s : State) : (setWindow n w s).rng = s.rng := rfl
@[simp] theorem setWindow_srg (n : Nat) (w : WindowState) (s : State) : (setWindow n w s).srg = s.srg := rfl
@[simp] theorem setWindow_xcp (n : Nat) (w : WindowState) (s : State) : (setWindow n w s).xcp = s.xcp := rfl
@[simp] theorem setWindow_evu (n : Nat) (w : WindowState) (s : State) : (setWindow n w s).evu = s.evu := rfl
@[simp] theorem setWindow_pnp (n : Nat) (w : WindowState) (s : State) : (setWindow n w s).pnp = s.pnp := rfl
@[simp] theorem setWindow_pending (n : Nat) (w : WindowState) (s : State) : (setWindow n w s).pending = s.pending := rfl
@[simp] theorem setWindow_msu_windows (n : Nat) (w : WindowState) (s : State) : (setWindow n w s).msu.windows = slotSet s.msu.windows n w := rfl

/-! `setSrg` -/

@[simp] theorem setSrg_pins (r : Srg) (s : State) : (setSrg r s).pins = s.pins := rfl
@[simp] theorem setSrg_stl (r : Srg) (s : State) : (setSrg r s).stl = s.stl := rfl
@[simp] theorem setSrg_settings (r : Srg) (s : State) : (setSrg r s).settings = s.settings := rfl
@[simp] theorem setSrg_lif (r : Srg) (s : State) : (setSrg r s).lif = s.lif := rfl
@[simp] theorem setSrg_frh (r : Srg) (s : State) : (setSrg r s).frh = s.frh := rfl
@[simp] theorem setSrg_pvw (r : Srg) (s : State) : (setSrg r s).pvw = s.pvw := rfl
@[simp] theorem setSrg_msu (r : Srg) (s : State) : (setSrg r s).msu = s.msu := rfl
@[simp] theorem setSrg_dtu (r : Srg) (s : State) : (setSrg r s).dtu = s.dtu := rfl
@[simp] theorem setSrg_rng (r : Srg) (s : State) : (setSrg r s).rng = s.rng := rfl
@[simp] theorem setSrg_xcp (r : Srg) (s : State) : (setSrg r s).xcp = s.xcp := rfl
@[simp] theorem setSrg_evu (r : Srg) (s : State) : (setSrg r s).evu = s.evu := rfl
@[simp] theorem setSrg_pnp (r : Srg) (s : State) : (setSrg r s).pnp = s.pnp := rfl
@[simp] theorem setSrg_pending (r : Srg) (s : State) : (setSrg r s).pending = s.pending := rfl
@[simp] theorem setSrg_srg (r : Srg) (s : State) : (setSrg r s).srg = r := rfl

/-! `setXcp` -/

@[simp] theorem setXcp_pins (x : Xcp) (s : State) : (setXcp x s).pins = s.pins := rfl
@[simp] theorem setXcp_stl (x : Xcp) (s : State) : (setXcp x s).stl = s.stl := rfl
@[simp] theorem setXcp_settings (x : Xcp) (s : State) : (setXcp x s).settings = s.settings := rfl
@[simp] theorem setXcp_lif (x : Xcp) (s : State) : (setXcp x s).lif = s.lif := rfl
@[simp] theorem setXcp_frh (x : Xcp) (s : State) : (setXcp x s).frh = s.frh := rfl
@[simp] theorem setXcp_pvw (x : Xcp) (s : State) : (setXcp x s).pvw = s.pvw := rfl
@[simp] theorem setXcp_msu (x : Xcp) (s : State) : (setXcp x s).msu = s.msu := rfl
@[simp] theorem setXcp_dtu (x : Xcp) (s : State) : (setXcp x s).dtu = s.dtu := rfl
@[simp] theorem setXcp_rng (x : Xcp) (s : State) : (setXcp x s).rng = s.rng := rfl
@[simp] theorem setXcp_srg (x : Xcp) (s : State) : (setXcp x s).srg = s.srg := rfl
@[simp] theorem setXcp_evu (x : Xcp) (s : State) : (setXcp x s).evu = s.evu := rfl
@[simp] theorem setXcp_pnp (x : Xcp) (s : State) : (setXcp x s).pnp = s.pnp := rfl
@[simp] theorem setXcp_pending (x : Xcp) (s : State) : (setXcp x s).pending = s.pending := rfl
@[simp] theorem setXcp_xcp (x : Xcp) (s : State) : (setXcp x s).xcp = x := rfl

/-! `setStl` -/

@[simp] theorem setStl_pins (l : Loader) (s : State) : (setStl l s).pins = s.pins := rfl
@[simp] theorem setStl_settings (l : Loader) (s : State) : (setStl l s).settings = s.settings := rfl
@[simp] theorem setStl_lif (l : Loader) (s : State) : (setStl l s).lif = s.lif := rfl
@[simp] theorem setStl_frh (l : Loader) (s : State) : (setStl l s).frh = s.frh := rfl
@[simp] theorem setStl_pvw (l : Loader) (s : State) : (setStl l s).pvw = s.pvw := rfl
@[simp] theorem setStl_msu (l : Loader) (s : State) : (setStl l s).msu = s.msu := rfl
@[simp] theorem setStl_dtu (l : Loader) (s : State) : (setStl l s).dtu = s.dtu := rfl
@[simp] theorem setStl_rng (l : Loader) (s : State) : (setStl l s).rng = s.rng := rfl
@[simp] theorem setStl_srg (l : Loader) (s : State) : (setStl l s).srg = s.srg := rfl
@[simp] theorem setStl_xcp (l : Loader) (s : State) : (setStl l s).xcp = s.xcp := rfl
@[simp] theorem setStl_evu (l : Loader) (s : State) : (setStl l s).evu = s.evu := rfl
@[simp] theorem setStl_pnp (l : Loader) (s : State) : (setStl l s).pnp = s.pnp := rfl
@[simp] theorem setStl_pending (l : Loader) (s : State) : (setStl l s).pending = s.pending := rfl
@[simp] theorem setStl_stl (l : Loader) (s : State) : (setStl l s).stl = l := rfl

/-! `setPnp` -/

@[simp] theorem setPnp_pins (p : Pnp) (s : State) : (setPnp p s).pins = s.pins := rfl
@[simp] theorem setPnp_stl (p : Pnp) (s : State) : (setPnp p s).stl = s.stl := rfl
@[simp] theorem setPnp_settings (p : Pnp) (s : State) : (setPnp p s).settings = s.settings := rfl
@[simp] theorem setPnp_lif (p : Pnp) (s : State) : (setPnp p s).lif = s.lif := rfl
@[simp] theorem setPnp_frh (p : Pnp) (s : State) : (setPnp p s).frh = s.frh := rfl
@[simp] theorem setPnp_pvw (p : Pnp) (s : State) : (setPnp p s).pvw = s.pvw := rfl
@[simp] theorem setPnp_msu (p : Pnp) (s : State) : (setPnp p s).msu = s.msu := rfl
@[simp] theorem setPnp_dtu (p : Pnp) (s : State) : (setPnp p s).dtu = s.dtu := rfl
@[simp] theorem setPnp_rng (p : Pnp) (s : State) : (setPnp p s).rng = s.rng := rfl
@[simp] theorem setPnp_srg (p : Pnp) (s : State) : (setPnp p s).srg = s.srg := rfl
@[simp] theorem setPnp_xcp (p : Pnp) (s : State) : (setPnp p s).xcp = s.xcp := rfl
@[simp] theorem setPnp_evu (p : Pnp) (s : State) : (setPnp p s).evu = s.evu := rfl
@[simp] theorem setPnp_pending (p : Pnp) (s : State) : (setPnp p s).pending = s.pending := rfl
@[simp] theorem setPnp_pnp (p : Pnp) (s : State) : (setPnp p s).pnp = p := rfl

/-! `setRunAck` -/

@[simp] theorem setRunAck_pins (level : Bool) (s : State) : (setRunAck level s).pins = s.pins := rfl
@[simp] theorem setRunAck_stl (level : Bool) (s : State) : (setRunAck level s).stl = s.stl := rfl
@[simp] theorem setRunAck_settings (level : Bool) (s : State) : (setRunAck level s).settings = s.settings := rfl
@[simp] theorem setRunAck_lif (level : Bool) (s : State) : (setRunAck level s).lif = s.lif := rfl
@[simp] theorem setRunAck_frh (level : Bool) (s : State) : (setRunAck level s).frh = s.frh := rfl
@[simp] theorem setRunAck_pvw (level : Bool) (s : State) : (setRunAck level s).pvw = s.pvw := rfl
@[simp] theorem setRunAck_msu (level : Bool) (s : State) : (setRunAck level s).msu = s.msu := rfl
@[simp] theorem setRunAck_dtu_derateTotal (level : Bool) (s : State) : (setRunAck level s).dtu.derateTotal = s.dtu.derateTotal := rfl
@[simp] theorem setRunAck_dtu_quietCount (level : Bool) (s : State) : (setRunAck level s).dtu.quietCount = s.dtu.quietCount := rfl
@[simp] theorem setRunAck_dtu_normalTarget (level : Bool) (s : State) : (setRunAck level s).dtu.normalTarget = s.dtu.normalTarget := rfl
@[simp] theorem setRunAck_dtu_target (level : Bool) (s : State) : (setRunAck level s).dtu.target = s.dtu.target := rfl
@[simp] theorem setRunAck_dtu_setpoint (level : Bool) (s : State) : (setRunAck level s).dtu.setpoint = s.dtu.setpoint := rfl
@[simp] theorem setRunAck_dtu_tripSet (level : Bool) (s : State) : (setRunAck level s).dtu.tripSet = s.dtu.tripSet := rfl
@[simp] theorem setRunAck_dtu_pendingTrip (level : Bool) (s : State) : (setRunAck level s).dtu.pendingTrip = s.dtu.pendingTrip := rfl
@[simp] theorem setRunAck_dtu_duty (level : Bool) (s : State) : (setRunAck level s).dtu.duty = s.dtu.duty := rfl
@[simp] theorem setRunAck_dtu_runReq (level : Bool) (s : State) : (setRunAck level s).dtu.runReq = s.dtu.runReq := rfl
@[simp] theorem setRunAck_dtu_recallTimer (level : Bool) (s : State) : (setRunAck level s).dtu.recallTimer = s.dtu.recallTimer := rfl
@[simp] theorem setRunAck_dtu_startTimer (level : Bool) (s : State) : (setRunAck level s).dtu.startTimer = s.dtu.startTimer := rfl
@[simp] theorem setRunAck_dtu_warmTimer (level : Bool) (s : State) : (setRunAck level s).dtu.warmTimer = s.dtu.warmTimer := rfl
@[simp] theorem setRunAck_dtu_stopTimer (level : Bool) (s : State) : (setRunAck level s).dtu.stopTimer = s.dtu.stopTimer := rfl
@[simp] theorem setRunAck_dtu_setpt (level : Bool) (s : State) : (setRunAck level s).dtu.setpt = s.dtu.setpt := rfl
@[simp] theorem setRunAck_rng (level : Bool) (s : State) : (setRunAck level s).rng = s.rng := rfl
@[simp] theorem setRunAck_srg (level : Bool) (s : State) : (setRunAck level s).srg = s.srg := rfl
@[simp] theorem setRunAck_xcp (level : Bool) (s : State) : (setRunAck level s).xcp = s.xcp := rfl
@[simp] theorem setRunAck_evu (level : Bool) (s : State) : (setRunAck level s).evu = s.evu := rfl
@[simp] theorem setRunAck_pnp (level : Bool) (s : State) : (setRunAck level s).pnp = s.pnp := rfl
@[simp] theorem setRunAck_pending (level : Bool) (s : State) : (setRunAck level s).pending = s.pending := rfl
@[simp] theorem setRunAck_dtu_runAck (level : Bool) (s : State) : (setRunAck level s).dtu.runAck = level := rfl

/-! `setRunReq` -/

@[simp] theorem setRunReq_pins (level : Bool) (s : State) : (setRunReq level s).pins = s.pins := rfl
@[simp] theorem setRunReq_stl (level : Bool) (s : State) : (setRunReq level s).stl = s.stl := rfl
@[simp] theorem setRunReq_settings (level : Bool) (s : State) : (setRunReq level s).settings = s.settings := rfl
@[simp] theorem setRunReq_lif (level : Bool) (s : State) : (setRunReq level s).lif = s.lif := rfl
@[simp] theorem setRunReq_frh (level : Bool) (s : State) : (setRunReq level s).frh = s.frh := rfl
@[simp] theorem setRunReq_pvw (level : Bool) (s : State) : (setRunReq level s).pvw = s.pvw := rfl
@[simp] theorem setRunReq_msu (level : Bool) (s : State) : (setRunReq level s).msu = s.msu := rfl
@[simp] theorem setRunReq_dtu_derateTotal (level : Bool) (s : State) : (setRunReq level s).dtu.derateTotal = s.dtu.derateTotal := rfl
@[simp] theorem setRunReq_dtu_quietCount (level : Bool) (s : State) : (setRunReq level s).dtu.quietCount = s.dtu.quietCount := rfl
@[simp] theorem setRunReq_dtu_normalTarget (level : Bool) (s : State) : (setRunReq level s).dtu.normalTarget = s.dtu.normalTarget := rfl
@[simp] theorem setRunReq_dtu_target (level : Bool) (s : State) : (setRunReq level s).dtu.target = s.dtu.target := rfl
@[simp] theorem setRunReq_dtu_setpoint (level : Bool) (s : State) : (setRunReq level s).dtu.setpoint = s.dtu.setpoint := rfl
@[simp] theorem setRunReq_dtu_tripSet (level : Bool) (s : State) : (setRunReq level s).dtu.tripSet = s.dtu.tripSet := rfl
@[simp] theorem setRunReq_dtu_pendingTrip (level : Bool) (s : State) : (setRunReq level s).dtu.pendingTrip = s.dtu.pendingTrip := rfl
@[simp] theorem setRunReq_dtu_duty (level : Bool) (s : State) : (setRunReq level s).dtu.duty = s.dtu.duty := rfl
@[simp] theorem setRunReq_dtu_runAck (level : Bool) (s : State) : (setRunReq level s).dtu.runAck = s.dtu.runAck := rfl
@[simp] theorem setRunReq_dtu_recallTimer (level : Bool) (s : State) : (setRunReq level s).dtu.recallTimer = s.dtu.recallTimer := rfl
@[simp] theorem setRunReq_dtu_startTimer (level : Bool) (s : State) : (setRunReq level s).dtu.startTimer = s.dtu.startTimer := rfl
@[simp] theorem setRunReq_dtu_warmTimer (level : Bool) (s : State) : (setRunReq level s).dtu.warmTimer = s.dtu.warmTimer := rfl
@[simp] theorem setRunReq_dtu_stopTimer (level : Bool) (s : State) : (setRunReq level s).dtu.stopTimer = s.dtu.stopTimer := rfl
@[simp] theorem setRunReq_dtu_setpt (level : Bool) (s : State) : (setRunReq level s).dtu.setpt = s.dtu.setpt := rfl
@[simp] theorem setRunReq_rng (level : Bool) (s : State) : (setRunReq level s).rng = s.rng := rfl
@[simp] theorem setRunReq_srg (level : Bool) (s : State) : (setRunReq level s).srg = s.srg := rfl
@[simp] theorem setRunReq_xcp (level : Bool) (s : State) : (setRunReq level s).xcp = s.xcp := rfl
@[simp] theorem setRunReq_evu (level : Bool) (s : State) : (setRunReq level s).evu = s.evu := rfl
@[simp] theorem setRunReq_pnp (level : Bool) (s : State) : (setRunReq level s).pnp = s.pnp := rfl
@[simp] theorem setRunReq_pending (level : Bool) (s : State) : (setRunReq level s).pending = s.pending := rfl
@[simp] theorem setRunReq_dtu_runReq (level : Bool) (s : State) : (setRunReq level s).dtu.runReq = level := rfl

/-! `setRow` -/

@[simp] theorem setRow_pins (n : Nat) (r : PeerRow) (s : State) : (setRow n r s).pins = s.pins := rfl
@[simp] theorem setRow_stl (n : Nat) (r : PeerRow) (s : State) : (setRow n r s).stl = s.stl := rfl
@[simp] theorem setRow_settings (n : Nat) (r : PeerRow) (s : State) : (setRow n r s).settings = s.settings := rfl
@[simp] theorem setRow_lif (n : Nat) (r : PeerRow) (s : State) : (setRow n r s).lif = s.lif := rfl
@[simp] theorem setRow_frh (n : Nat) (r : PeerRow) (s : State) : (setRow n r s).frh = s.frh := rfl
@[simp] theorem setRow_msu (n : Nat) (r : PeerRow) (s : State) : (setRow n r s).msu = s.msu := rfl
@[simp] theorem setRow_dtu (n : Nat) (r : PeerRow) (s : State) : (setRow n r s).dtu = s.dtu := rfl
@[simp] theorem setRow_rng (n : Nat) (r : PeerRow) (s : State) : (setRow n r s).rng = s.rng := rfl
@[simp] theorem setRow_srg (n : Nat) (r : PeerRow) (s : State) : (setRow n r s).srg = s.srg := rfl
@[simp] theorem setRow_xcp (n : Nat) (r : PeerRow) (s : State) : (setRow n r s).xcp = s.xcp := rfl
@[simp] theorem setRow_evu (n : Nat) (r : PeerRow) (s : State) : (setRow n r s).evu = s.evu := rfl
@[simp] theorem setRow_pnp (n : Nat) (r : PeerRow) (s : State) : (setRow n r s).pnp = s.pnp := rfl
@[simp] theorem setRow_pending (n : Nat) (r : PeerRow) (s : State) : (setRow n r s).pending = s.pending := rfl
@[simp] theorem setRow_rows (n : Nat) (r : PeerRow) (s : State) :
    (setRow n r s).pvw.rows = slotSet s.pvw.rows n r := rfl

/-- Two states are equal when their parts are. -/
theorem State.eq_of_parts {s t : State} (h : s.pins = t.pins ∧ s.stl = t.stl ∧ s.settings = t.settings ∧ s.lif = t.lif ∧
    s.frh = t.frh ∧ s.pvw = t.pvw ∧ s.msu = t.msu ∧ s.dtu = t.dtu ∧ s.rng = t.rng ∧ s.srg = t.srg ∧ s.xcp = t.xcp ∧
    s.evu = t.evu ∧ s.pnp = t.pnp ∧ s.pending = t.pending) : s = t := by
  obtain ⟨h1, h2, h3, h4, h5, h6, h7, h8, h9, h10, h11, h12, h13, h14⟩ := h
  exact State.ext h1 h2 h3 h4 h5 h6 h7 h8 h9 h10 h11 h12 h13 h14

end Sys2Proof.Machine
end

