-- ==== Sys2Proof/Laws/Ops.lean ====
section
/-! SUPPORT. What each shared operation of Machine/Ops.lean leaves as it stands. -/

namespace Sys2Proof.Machine

/-- What `writeQuantity` leaves as it stands. -/
@[simp] theorem writeQuantity_keeps (q : Nat) (v : Validity) (x : Int) (s : State) :
    (writeQuantity q v x s).pins = s.pins ∧
    (writeQuantity q v x s).stl = s.stl ∧
    (writeQuantity q v x s).settings = s.settings ∧
    (writeQuantity q v x s).lif = s.lif ∧
    (writeQuantity q v x s).frh = s.frh ∧
    (writeQuantity q v x s).pvw = s.pvw ∧
    (writeQuantity q v x s).msu.gathered = s.msu.gathered ∧
    (writeQuantity q v x s).msu.idleReached = s.msu.idleReached ∧
    (writeQuantity q v x s).msu.awaitHigh = s.msu.awaitHigh ∧
    (writeQuantity q v x s).msu.rejected = s.msu.rejected ∧
    (writeQuantity q v x s).msu.lastRejection = s.msu.lastRejection ∧
    (writeQuantity q v x s).msu.latches = s.msu.latches ∧
    (writeQuantity q v x s).msu.windows = s.msu.windows ∧
    (writeQuantity q v x s).dtu = s.dtu ∧
    (writeQuantity q v x s).rng = s.rng ∧
    (writeQuantity q v x s).srg = s.srg ∧
    (writeQuantity q v x s).xcp = s.xcp ∧
    (writeQuantity q v x s).evu = s.evu ∧
    (writeQuantity q v x s).pnp = s.pnp ∧
    (writeQuantity q v x s).pending = s.pending := by
  simp [writeQuantity]


/-- What `holdQuantity` leaves as it stands. -/
@[simp] theorem holdQuantity_keeps (q : Nat) (s : State) :
    (holdQuantity q s).pins = s.pins ∧
    (holdQuantity q s).stl = s.stl ∧
    (holdQuantity q s).settings = s.settings ∧
    (holdQuantity q s).lif = s.lif ∧
    (holdQuantity q s).frh = s.frh ∧
    (holdQuantity q s).pvw = s.pvw ∧
    (holdQuantity q s).msu.gathered = s.msu.gathered ∧
    (holdQuantity q s).msu.idleReached = s.msu.idleReached ∧
    (holdQuantity q s).msu.awaitHigh = s.msu.awaitHigh ∧
    (holdQuantity q s).msu.rejected = s.msu.rejected ∧
    (holdQuantity q s).msu.lastRejection = s.msu.lastRejection ∧
    (holdQuantity q s).msu.latches = s.msu.latches ∧
    (holdQuantity q s).msu.windows = s.msu.windows ∧
    (holdQuantity q s).dtu = s.dtu ∧
    (holdQuantity q s).rng = s.rng ∧
    (holdQuantity q s).srg = s.srg ∧
    (holdQuantity q s).xcp = s.xcp ∧
    (holdQuantity q s).evu = s.evu ∧
    (holdQuantity q s).pnp = s.pnp ∧
    (holdQuantity q s).pending = s.pending := by
  simp [holdQuantity]


/-- What `select` leaves as it stands. -/
@[simp] theorem select_keeps (s : State) :
    (select s).pins = s.pins ∧
    (select s).stl = s.stl ∧
    (select s).settings = s.settings ∧
    (select s).lif.quiet = s.lif.quiet ∧
    (select s).lif.rx = s.lif.rx ∧
    (select s).lif.leadFrom = s.lif.leadFrom ∧
    (select s).lif.cells = s.lif.cells ∧
    (select s).lif.report = s.lif.report ∧
    (select s).lif.rxHeader = s.lif.rxHeader ∧
    (select s).lif.rxStartedSending = s.lif.rxStartedSending ∧
    (select s).frh = s.frh ∧
    (select s).pvw = s.pvw ∧
    (select s).msu = s.msu ∧
    (select s).dtu = s.dtu ∧
    (select s).rng = s.rng ∧
    (select s).srg = s.srg ∧
    (select s).xcp = s.xcp ∧
    (select s).evu = s.evu ∧
    (select s).pnp = s.pnp ∧
    (select s).pending = s.pending := by
  simp only [select]
  repeat' split
  all_goals simp


/-- What `placeTrip` leaves as it stands. -/
@[simp] theorem placeTrip_keeps (c : TripCause) (s : State) :
    (placeTrip c s).pins = s.pins ∧
    (placeTrip c s).stl = s.stl ∧
    (placeTrip c s).settings = s.settings ∧
    (placeTrip c s).lif = s.lif ∧
    (placeTrip c s).frh.lineState = s.frh.lineState ∧
    (placeTrip c s).frh.joinTimer = s.frh.joinTimer ∧
    (placeTrip c s).frh.nextSeq = s.frh.nextSeq ∧
    (placeTrip c s).frh.outbox.replies = s.frh.outbox.replies ∧
    (placeTrip c s).frh.outbox.restAsk = s.frh.outbox.restAsk ∧
    (placeTrip c s).frh.outbox.demand = s.frh.outbox.demand ∧
    (placeTrip c s).frh.outbox.stateReport = s.frh.outbox.stateReport ∧
    (placeTrip c s).frh.lastC = s.frh.lastC ∧
    (placeTrip c s).frh.lastDemand = s.frh.lastDemand ∧
    (placeTrip c s).frh.notice = s.frh.notice ∧
    (placeTrip c s).pvw = s.pvw ∧
    (placeTrip c s).msu = s.msu ∧
    (placeTrip c s).dtu = s.dtu ∧
    (placeTrip c s).rng = s.rng ∧
    (placeTrip c s).srg = s.srg ∧
    (placeTrip c s).xcp = s.xcp ∧
    (placeTrip c s).evu = s.evu ∧
    (placeTrip c s).pnp = s.pnp ∧
    (placeTrip c s).pending = s.pending := by
  and_intros <;> rfl


/-- What `enterTripFrame` leaves as it stands. -/
@[simp] theorem enterTripFrame_keeps (c : TripCause) (s : State) :
    (enterTripFrame c s).pins = s.pins ∧
    (enterTripFrame c s).stl = s.stl ∧
    (enterTripFrame c s).settings = s.settings ∧
    (enterTripFrame c s).lif.quiet = s.lif.quiet ∧
    (enterTripFrame c s).lif.rx = s.lif.rx ∧
    (enterTripFrame c s).lif.leadFrom = s.lif.leadFrom ∧
    (enterTripFrame c s).lif.cells = s.lif.cells ∧
    (enterTripFrame c s).lif.report = s.lif.report ∧
    (enterTripFrame c s).lif.rxHeader = s.lif.rxHeader ∧
    (enterTripFrame c s).lif.rxStartedSending = s.lif.rxStartedSending ∧
    (enterTripFrame c s).frh.lineState = s.frh.lineState ∧
    (enterTripFrame c s).frh.joinTimer = s.frh.joinTimer ∧
    (enterTripFrame c s).frh.nextSeq = s.frh.nextSeq ∧
    (enterTripFrame c s).frh.outbox.replies = s.frh.outbox.replies ∧
    (enterTripFrame c s).frh.outbox.restAsk = s.frh.outbox.restAsk ∧
    (enterTripFrame c s).frh.outbox.demand = s.frh.outbox.demand ∧
    (enterTripFrame c s).frh.outbox.stateReport = s.frh.outbox.stateReport ∧
    (enterTripFrame c s).frh.lastC = s.frh.lastC ∧
    (enterTripFrame c s).frh.lastDemand = s.frh.lastDemand ∧
    (enterTripFrame c s).frh.notice = s.frh.notice ∧
    (enterTripFrame c s).pvw = s.pvw ∧
    (enterTripFrame c s).msu = s.msu ∧
    (enterTripFrame c s).dtu = s.dtu ∧
    (enterTripFrame c s).rng = s.rng ∧
    (enterTripFrame c s).srg = s.srg ∧
    (enterTripFrame c s).xcp = s.xcp ∧
    (enterTripFrame c s).evu = s.evu ∧
    (enterTripFrame c s).pnp = s.pnp ∧
    (enterTripFrame c s).pending = s.pending := by
  simp only [enterTripFrame]
  repeat' split
  all_goals simp


/-- What `enterClearFrame` leaves as it stands. -/
@[simp] theorem enterClearFrame_keeps (s : State) :
    (enterClearFrame s).pins = s.pins ∧
    (enterClearFrame s).stl = s.stl ∧
    (enterClearFrame s).settings = s.settings ∧
    (enterClearFrame s).lif.quiet = s.lif.quiet ∧
    (enterClearFrame s).lif.rx = s.lif.rx ∧
    (enterClearFrame s).lif.leadFrom = s.lif.leadFrom ∧
    (enterClearFrame s).lif.cells = s.lif.cells ∧
    (enterClearFrame s).lif.report = s.lif.report ∧
    (enterClearFrame s).lif.rxHeader = s.lif.rxHeader ∧
    (enterClearFrame s).lif.rxStartedSending = s.lif.rxStartedSending ∧
    (enterClearFrame s).frh.lineState = s.frh.lineState ∧
    (enterClearFrame s).frh.joinTimer = s.frh.joinTimer ∧
    (enterClearFrame s).frh.nextSeq = s.frh.nextSeq ∧
    (enterClearFrame s).frh.outbox.trip = s.frh.outbox.trip ∧
    (enterClearFrame s).frh.outbox.replies = s.frh.outbox.replies ∧
    (enterClearFrame s).frh.outbox.restAsk = s.frh.outbox.restAsk ∧
    (enterClearFrame s).frh.outbox.demand = s.frh.outbox.demand ∧
    (enterClearFrame s).frh.outbox.stateReport = s.frh.outbox.stateReport ∧
    (enterClearFrame s).frh.inFlight = s.frh.inFlight ∧
    (enterClearFrame s).frh.lastC = s.frh.lastC ∧
    (enterClearFrame s).frh.lastDemand = s.frh.lastDemand ∧
    (enterClearFrame s).frh.notice = s.frh.notice ∧
    (enterClearFrame s).pvw = s.pvw ∧
    (enterClearFrame s).msu = s.msu ∧
    (enterClearFrame s).dtu = s.dtu ∧
    (enterClearFrame s).rng = s.rng ∧
    (enterClearFrame s).srg = s.srg ∧
    (enterClearFrame s).xcp = s.xcp ∧
    (enterClearFrame s).evu = s.evu ∧
    (enterClearFrame s).pnp = s.pnp ∧
    (enterClearFrame s).pending = s.pending := by
  simp only [enterClearFrame]
  repeat' split
  all_goals simp


/-- What `enterDemandFrame` leaves as it stands. -/
@[simp] theorem enterDemandFrame_keeps (d c : Nat) (s : State) :
    (enterDemandFrame d c s).pins = s.pins ∧
    (enterDemandFrame d c s).stl = s.stl ∧
    (enterDemandFrame d c s).settings = s.settings ∧
    (enterDemandFrame d c s).lif.quiet = s.lif.quiet ∧
    (enterDemandFrame d c s).lif.rx = s.lif.rx ∧
    (enterDemandFrame d c s).lif.leadFrom = s.lif.leadFrom ∧
    (enterDemandFrame d c s).lif.cells = s.lif.cells ∧
    (enterDemandFrame d c s).lif.report = s.lif.report ∧
    (enterDemandFrame d c s).lif.rxHeader = s.lif.rxHeader ∧
    (enterDemandFrame d c s).lif.rxStartedSending = s.lif.rxStartedSending ∧
    (enterDemandFrame d c s).frh.lineState = s.frh.lineState ∧
    (enterDemandFrame d c s).frh.joinTimer = s.frh.joinTimer ∧
    (enterDemandFrame d c s).frh.nextSeq = s.frh.nextSeq ∧
    (enterDemandFrame d c s).frh.outbox.trip = s.frh.outbox.trip ∧
    (enterDemandFrame d c s).frh.outbox.clear = s.frh.outbox.clear ∧
    (enterDemandFrame d c s).frh.outbox.replies = s.frh.outbox.replies ∧
    (enterDemandFrame d c s).frh.outbox.restAsk = s.frh.outbox.restAsk ∧
    (enterDemandFrame d c s).frh.outbox.stateReport = s.frh.outbox.stateReport ∧
    (enterDemandFrame d c s).frh.inFlight = s.frh.inFlight ∧
    (enterDemandFrame d c s).frh.lastC = s.frh.lastC ∧
    (enterDemandFrame d c s).frh.notice = s.frh.notice ∧
    (enterDemandFrame d c s).pvw = s.pvw ∧
    (enterDemandFrame d c s).msu = s.msu ∧
    (enterDemandFrame d c s).dtu = s.dtu ∧
    (enterDemandFrame d c s).rng = s.rng ∧
    (enterDemandFrame d c s).srg = s.srg ∧
    (enterDemandFrame d c s).xcp = s.xcp ∧
    (enterDemandFrame d c s).evu = s.evu ∧
    (enterDemandFrame d c s).pnp = s.pnp ∧
    (enterDemandFrame d c s).pending = s.pending := by
  simp only [enterDemandFrame]
  repeat' split
  all_goals simp


/-- What `enterStateFrame` leaves as it stands. -/
@[simp] theorem enterStateFrame_keeps (s : State) :
    (enterStateFrame s).pins = s.pins ∧
    (enterStateFrame s).stl = s.stl ∧
    (enterStateFrame s).settings = s.settings ∧
    (enterStateFrame s).lif.quiet = s.lif.quiet ∧
    (enterStateFrame s).lif.rx = s.lif.rx ∧
    (enterStateFrame s).lif.leadFrom = s.lif.leadFrom ∧
    (enterStateFrame s).lif.cells = s.lif.cells ∧
    (enterStateFrame s).lif.report = s.lif.report ∧
    (enterStateFrame s).lif.rxHeader = s.lif.rxHeader ∧
    (enterStateFrame s).lif.rxStartedSending = s.lif.rxStartedSending ∧
    (enterStateFrame s).frh.lineState = s.frh.lineState ∧
    (enterStateFrame s).frh.joinTimer = s.frh.joinTimer ∧
    (enterStateFrame s).frh.nextSeq = s.frh.nextSeq ∧
    (enterStateFrame s).frh.outbox.trip = s.frh.outbox.trip ∧
    (enterStateFrame s).frh.outbox.clear = s.frh.outbox.clear ∧
    (enterStateFrame s).frh.outbox.replies = s.frh.outbox.replies ∧
    (enterStateFrame s).frh.outbox.restAsk = s.frh.outbox.restAsk ∧
    (enterStateFrame s).frh.outbox.demand = s.frh.outbox.demand ∧
    (enterStateFrame s).frh.inFlight = s.frh.inFlight ∧
    (enterStateFrame s).frh.lastDemand = s.frh.lastDemand ∧
    (enterStateFrame s).frh.notice = s.frh.notice ∧
    (enterStateFrame s).pvw = s.pvw ∧
    (enterStateFrame s).msu = s.msu ∧
    (enterStateFrame s).dtu = s.dtu ∧
    (enterStateFrame s).rng = s.rng ∧
    (enterStateFrame s).srg = s.srg ∧
    (enterStateFrame s).xcp = s.xcp ∧
    (enterStateFrame s).evu = s.evu ∧
    (enterStateFrame s).pnp = s.pnp ∧
    (enterStateFrame s).pending = s.pending := by
  simp only [enterStateFrame]
  repeat' split
  all_goals simp


/-- What `testRecall` leaves as it stands. -/
@[simp] theorem testRecall_keeps (s : State) :
    (testRecall s).pins = s.pins ∧
    (testRecall s).stl = s.stl ∧
    (testRecall s).settings = s.settings ∧
    (testRecall s).lif = s.lif ∧
    (testRecall s).frh = s.frh ∧
    (testRecall s).pvw = s.pvw ∧
    (testRecall s).msu = s.msu ∧
    (testRecall s).dtu.derateTotal = s.dtu.derateTotal ∧
    (testRecall s).dtu.quietCount = s.dtu.quietCount ∧
    (testRecall s).dtu.normalTarget = s.dtu.normalTarget ∧
    (testRecall s).dtu.target = s.dtu.target ∧
    (testRecall s).dtu.setpoint = s.dtu.setpoint ∧
    (testRecall s).dtu.tripSet = s.dtu.tripSet ∧
    (testRecall s).dtu.pendingTrip = s.dtu.pendingTrip ∧
    (testRecall s).dtu.duty = s.dtu.duty ∧
    (testRecall s).dtu.runReq = s.dtu.runReq ∧
    (testRecall s).dtu.runAck = s.dtu.runAck ∧
    (testRecall s).dtu.startTimer = s.dtu.startTimer ∧
    (testRecall s).dtu.warmTimer = s.dtu.warmTimer ∧
    (testRecall s).dtu.stopTimer = s.dtu.stopTimer ∧
    (testRecall s).dtu.setpt = s.dtu.setpt ∧
    (testRecall s).rng = s.rng ∧
    (testRecall s).srg = s.srg ∧
    (testRecall s).xcp = s.xcp ∧
    (testRecall s).evu = s.evu ∧
    (testRecall s).pnp = s.pnp ∧
    (testRecall s).pending = s.pending := by
  simp only [testRecall]
  repeat' split
  all_goals simp


/-- What `lowerTarget` leaves as it stands. -/
@[simp] theorem lowerTarget_keeps (s : State) :
    (lowerTarget s).pins = s.pins ∧
    (lowerTarget s).stl = s.stl ∧
    (lowerTarget s).settings = s.settings ∧
    (lowerTarget s).lif = s.lif ∧
    (lowerTarget s).frh = s.frh ∧
    (lowerTarget s).pvw = s.pvw ∧
    (lowerTarget s).msu = s.msu ∧
    (lowerTarget s).dtu.derateTotal = s.dtu.derateTotal ∧
    (lowerTarget s).dtu.quietCount = s.dtu.quietCount ∧
    (lowerTarget s).dtu.normalTarget = s.dtu.normalTarget ∧
    (lowerTarget s).dtu.setpoint = s.dtu.setpoint ∧
    (lowerTarget s).dtu.tripSet = s.dtu.tripSet ∧
    (lowerTarget s).dtu.pendingTrip = s.dtu.pendingTrip ∧
    (lowerTarget s).dtu.duty = s.dtu.duty ∧
    (lowerTarget s).dtu.runReq = s.dtu.runReq ∧
    (lowerTarget s).dtu.runAck = s.dtu.runAck ∧
    (lowerTarget s).dtu.recallTimer = s.dtu.recallTimer ∧
    (lowerTarget s).dtu.startTimer = s.dtu.startTimer ∧
    (lowerTarget s).dtu.warmTimer = s.dtu.warmTimer ∧
    (lowerTarget s).dtu.stopTimer = s.dtu.stopTimer ∧
    (lowerTarget s).dtu.setpt = s.dtu.setpt ∧
    (lowerTarget s).rng = s.rng ∧
    (lowerTarget s).srg = s.srg ∧
    (lowerTarget s).xcp = s.xcp ∧
    (lowerTarget s).evu = s.evu ∧
    (lowerTarget s).pnp = s.pnp ∧
    (lowerTarget s).pending = s.pending := by
  simp only [lowerTarget]
  repeat' split
  all_goals simp


/-- What `capacityChanged` leaves as it stands. -/
@[simp] theorem capacityChanged_keeps (s : State) :
    (capacityChanged s).pins = s.pins ∧
    (capacityChanged s).stl = s.stl ∧
    (capacityChanged s).settings = s.settings ∧
    (capacityChanged s).lif.quiet = s.lif.quiet ∧
    (capacityChanged s).lif.rx = s.lif.rx ∧
    (capacityChanged s).lif.leadFrom = s.lif.leadFrom ∧
    (capacityChanged s).lif.cells = s.lif.cells ∧
    (capacityChanged s).lif.report = s.lif.report ∧
    (capacityChanged s).lif.rxHeader = s.lif.rxHeader ∧
    (capacityChanged s).lif.rxStartedSending = s.lif.rxStartedSending ∧
    (capacityChanged s).frh.lineState = s.frh.lineState ∧
    (capacityChanged s).frh.joinTimer = s.frh.joinTimer ∧
    (capacityChanged s).frh.nextSeq = s.frh.nextSeq ∧
    (capacityChanged s).frh.outbox.trip = s.frh.outbox.trip ∧
    (capacityChanged s).frh.outbox.clear = s.frh.outbox.clear ∧
    (capacityChanged s).frh.outbox.replies = s.frh.outbox.replies ∧
    (capacityChanged s).frh.outbox.restAsk = s.frh.outbox.restAsk ∧
    (capacityChanged s).frh.outbox.demand = s.frh.outbox.demand ∧
    (capacityChanged s).frh.inFlight = s.frh.inFlight ∧
    (capacityChanged s).frh.lastDemand = s.frh.lastDemand ∧
    (capacityChanged s).frh.notice = s.frh.notice ∧
    (capacityChanged s).pvw = s.pvw ∧
    (capacityChanged s).msu.gathered = s.msu.gathered ∧
    (capacityChanged s).msu.idleReached = s.msu.idleReached ∧
    (capacityChanged s).msu.awaitHigh = s.msu.awaitHigh ∧
    (capacityChanged s).msu.rejected = s.msu.rejected ∧
    (capacityChanged s).msu.lastRejection = s.msu.lastRejection ∧
    (capacityChanged s).msu.latches = s.msu.latches ∧
    (capacityChanged s).msu.windows = s.msu.windows ∧
    (capacityChanged s).dtu.derateTotal = s.dtu.derateTotal ∧
    (capacityChanged s).dtu.quietCount = s.dtu.quietCount ∧
    (capacityChanged s).dtu.normalTarget = s.dtu.normalTarget ∧
    (capacityChanged s).dtu.setpoint = s.dtu.setpoint ∧
    (capacityChanged s).dtu.tripSet = s.dtu.tripSet ∧
    (capacityChanged s).dtu.pendingTrip = s.dtu.pendingTrip ∧
    (capacityChanged s).dtu.duty = s.dtu.duty ∧
    (capacityChanged s).dtu.runReq = s.dtu.runReq ∧
    (capacityChanged s).dtu.runAck = s.dtu.runAck ∧
    (capacityChanged s).dtu.startTimer = s.dtu.startTimer ∧
    (capacityChanged s).dtu.warmTimer = s.dtu.warmTimer ∧
    (capacityChanged s).dtu.stopTimer = s.dtu.stopTimer ∧
    (capacityChanged s).dtu.setpt = s.dtu.setpt ∧
    (capacityChanged s).rng = s.rng ∧
    (capacityChanged s).srg = s.srg ∧
    (capacityChanged s).xcp = s.xcp ∧
    (capacityChanged s).evu = s.evu ∧
    (capacityChanged s).pnp = s.pnp ∧
    (capacityChanged s).pending = s.pending := by
  simp only [capacityChanged]
  repeat' split
  all_goals simp


/-- What `moveDerate` leaves as it stands. -/
@[simp] theorem moveDerate_keeps (t q : Nat) (s : State) :
    (moveDerate t q s).pins = s.pins ∧
    (moveDerate t q s).stl = s.stl ∧
    (moveDerate t q s).settings = s.settings ∧
    (moveDerate t q s).lif.quiet = s.lif.quiet ∧
    (moveDerate t q s).lif.rx = s.lif.rx ∧
    (moveDerate t q s).lif.leadFrom = s.lif.leadFrom ∧
    (moveDerate t q s).lif.cells = s.lif.cells ∧
    (moveDerate t q s).lif.report = s.lif.report ∧
    (moveDerate t q s).lif.rxHeader = s.lif.rxHeader ∧
    (moveDerate t q s).lif.rxStartedSending = s.lif.rxStartedSending ∧
    (moveDerate t q s).frh.lineState = s.frh.lineState ∧
    (moveDerate t q s).frh.joinTimer = s.frh.joinTimer ∧
    (moveDerate t q s).frh.nextSeq = s.frh.nextSeq ∧
    (moveDerate t q s).frh.outbox.trip = s.frh.outbox.trip ∧
    (moveDerate t q s).frh.outbox.clear = s.frh.outbox.clear ∧
    (moveDerate t q s).frh.outbox.replies = s.frh.outbox.replies ∧
    (moveDerate t q s).frh.outbox.restAsk = s.frh.outbox.restAsk ∧
    (moveDerate t q s).frh.outbox.demand = s.frh.outbox.demand ∧
    (moveDerate t q s).frh.inFlight = s.frh.inFlight ∧
    (moveDerate t q s).frh.lastDemand = s.frh.lastDemand ∧
    (moveDerate t q s).frh.notice = s.frh.notice ∧
    (moveDerate t q s).pvw = s.pvw ∧
    (moveDerate t q s).msu.gathered = s.msu.gathered ∧
    (moveDerate t q s).msu.idleReached = s.msu.idleReached ∧
    (moveDerate t q s).msu.awaitHigh = s.msu.awaitHigh ∧
    (moveDerate t q s).msu.rejected = s.msu.rejected ∧
    (moveDerate t q s).msu.lastRejection = s.msu.lastRejection ∧
    (moveDerate t q s).msu.latches = s.msu.latches ∧
    (moveDerate t q s).msu.windows = s.msu.windows ∧
    (moveDerate t q s).dtu.normalTarget = s.dtu.normalTarget ∧
    (moveDerate t q s).dtu.setpoint = s.dtu.setpoint ∧
    (moveDerate t q s).dtu.tripSet = s.dtu.tripSet ∧
    (moveDerate t q s).dtu.pendingTrip = s.dtu.pendingTrip ∧
    (moveDerate t q s).dtu.duty = s.dtu.duty ∧
    (moveDerate t q s).dtu.runReq = s.dtu.runReq ∧
    (moveDerate t q s).dtu.runAck = s.dtu.runAck ∧
    (moveDerate t q s).dtu.startTimer = s.dtu.startTimer ∧
    (moveDerate t q s).dtu.warmTimer = s.dtu.warmTimer ∧
    (moveDerate t q s).dtu.stopTimer = s.dtu.stopTimer ∧
    (moveDerate t q s).dtu.setpt = s.dtu.setpt ∧
    (moveDerate t q s).rng = s.rng ∧
    (moveDerate t q s).srg = s.srg ∧
    (moveDerate t q s).xcp = s.xcp ∧
    (moveDerate t q s).evu = s.evu ∧
    (moveDerate t q s).pnp = s.pnp ∧
    (moveDerate t q s).pending = s.pending := by
  simp only [moveDerate]
  repeat' split
  all_goals simp


/-- What `derateStep` leaves as it stands. -/
@[simp] theorem derateStep_keeps (s : State) :
    (derateStep s).pins = s.pins ∧
    (derateStep s).stl = s.stl ∧
    (derateStep s).settings = s.settings ∧
    (derateStep s).lif.quiet = s.lif.quiet ∧
    (derateStep s).lif.rx = s.lif.rx ∧
    (derateStep s).lif.leadFrom = s.lif.leadFrom ∧
    (derateStep s).lif.cells = s.lif.cells ∧
    (derateStep s).lif.report = s.lif.report ∧
    (derateStep s).lif.rxHeader = s.lif.rxHeader ∧
    (derateStep s).lif.rxStartedSending = s.lif.rxStartedSending ∧
    (derateStep s).frh.lineState = s.frh.lineState ∧
    (derateStep s).frh.joinTimer = s.frh.joinTimer ∧
    (derateStep s).frh.nextSeq = s.frh.nextSeq ∧
    (derateStep s).frh.outbox.trip = s.frh.outbox.trip ∧
    (derateStep s).frh.outbox.clear = s.frh.outbox.clear ∧
    (derateStep s).frh.outbox.replies = s.frh.outbox.replies ∧
    (derateStep s).frh.outbox.restAsk = s.frh.outbox.restAsk ∧
    (derateStep s).frh.outbox.demand = s.frh.outbox.demand ∧
    (derateStep s).frh.inFlight = s.frh.inFlight ∧
    (derateStep s).frh.lastDemand = s.frh.lastDemand ∧
    (derateStep s).frh.notice = s.frh.notice ∧
    (derateStep s).pvw = s.pvw ∧
    (derateStep s).msu.gathered = s.msu.gathered ∧
    (derateStep s).msu.idleReached = s.msu.idleReached ∧
    (derateStep s).msu.awaitHigh = s.msu.awaitHigh ∧
    (derateStep s).msu.rejected = s.msu.rejected ∧
    (derateStep s).msu.lastRejection = s.msu.lastRejection ∧
    (derateStep s).msu.latches = s.msu.latches ∧
    (derateStep s).msu.windows = s.msu.windows ∧
    (derateStep s).dtu.normalTarget = s.dtu.normalTarget ∧
    (derateStep s).dtu.setpoint = s.dtu.setpoint ∧
    (derateStep s).dtu.tripSet = s.dtu.tripSet ∧
    (derateStep s).dtu.pendingTrip = s.dtu.pendingTrip ∧
    (derateStep s).dtu.duty = s.dtu.duty ∧
    (derateStep s).dtu.runReq = s.dtu.runReq ∧
    (derateStep s).dtu.runAck = s.dtu.runAck ∧
    (derateStep s).dtu.startTimer = s.dtu.startTimer ∧
    (derateStep s).dtu.warmTimer = s.dtu.warmTimer ∧
    (derateStep s).dtu.stopTimer = s.dtu.stopTimer ∧
    (derateStep s).dtu.setpt = s.dtu.setpt ∧
    (derateStep s).rng = s.rng ∧
    (derateStep s).srg = s.srg ∧
    (derateStep s).xcp = s.xcp ∧
    (derateStep s).evu = s.evu ∧
    (derateStep s).pnp = s.pnp ∧
    (derateStep s).pending = s.pending := by
  simp [derateStep]


/-- What `append` leaves as it stands. -/
@[simp] theorem append_keeps (f : Firing) (s : State) :
    (append f s).pins = s.pins ∧
    (append f s).stl = s.stl ∧
    (append f s).settings = s.settings ∧
    (append f s).lif = s.lif ∧
    (append f s).frh = s.frh ∧
    (append f s).pvw = s.pvw ∧
    (append f s).msu = s.msu ∧
    (append f s).dtu = s.dtu ∧
    (append f s).rng = s.rng ∧
    (append f s).srg = s.srg ∧
    (append f s).xcp = s.xcp ∧
    (append f s).evu.refreshCount = s.evu.refreshCount ∧
    (append f s).evu.channels = s.evu.channels ∧
    (append f s).evu.dose0 = s.evu.dose0 ∧
    (append f s).evu.dose1 = s.evu.dose1 ∧
    (append f s).pnp = s.pnp ∧
    (append f s).pending = s.pending := by
  simp only [append]
  repeat' split
  all_goals simp


/-- What `enqueue` leaves as it stands. -/
@[simp] theorem enqueue_keeps (f : Firing) (s : State) :
    (enqueue f s).pins = s.pins ∧
    (enqueue f s).stl = s.stl ∧
    (enqueue f s).settings = s.settings ∧
    (enqueue f s).lif = s.lif ∧
    (enqueue f s).frh = s.frh ∧
    (enqueue f s).pvw = s.pvw ∧
    (enqueue f s).msu = s.msu ∧
    (enqueue f s).dtu = s.dtu ∧
    (enqueue f s).rng = s.rng ∧
    (enqueue f s).srg = s.srg ∧
    (enqueue f s).xcp = s.xcp ∧
    (enqueue f s).evu.refreshCount = s.evu.refreshCount ∧
    (enqueue f s).evu.channels = s.evu.channels ∧
    (enqueue f s).evu.dose0 = s.evu.dose0 ∧
    (enqueue f s).evu.dose1 = s.evu.dose1 ∧
    (enqueue f s).pnp = s.pnp ∧
    (enqueue f s).pending = s.pending := by
  simp only [enqueue]
  repeat' split
  all_goals simp


/-- What `startPulse` leaves as it stands. -/
@[simp] theorem startPulse_keeps (d : DoseOutput) (s : State) :
    (startPulse d s).pins = s.pins ∧
    (startPulse d s).stl = s.stl ∧
    (startPulse d s).settings = s.settings ∧
    (startPulse d s).lif = s.lif ∧
    (startPulse d s).frh = s.frh ∧
    (startPulse d s).pvw = s.pvw ∧
    (startPulse d s).msu = s.msu ∧
    (startPulse d s).dtu = s.dtu ∧
    (startPulse d s).rng = s.rng ∧
    (startPulse d s).srg = s.srg ∧
    (startPulse d s).xcp = s.xcp ∧
    (startPulse d s).evu.queue = s.evu.queue ∧
    (startPulse d s).evu.refreshCount = s.evu.refreshCount ∧
    (startPulse d s).evu.dropped = s.evu.dropped ∧
    (startPulse d s).evu.channels = s.evu.channels ∧
    (startPulse d s).pnp = s.pnp ∧
    (startPulse d s).pending = s.pending := by
  simp only [startPulse]
  repeat' split
  all_goals simp


/-- What `channelAction` leaves as it stands. -/
@[simp] theorem channelAction_keeps (m : Mode) (s : State) :
    (channelAction m s).pins = s.pins ∧
    (channelAction m s).stl = s.stl ∧
    (channelAction m s).settings = s.settings ∧
    (channelAction m s).lif.quiet = s.lif.quiet ∧
    (channelAction m s).lif.rx = s.lif.rx ∧
    (channelAction m s).lif.leadFrom = s.lif.leadFrom ∧
    (channelAction m s).lif.cells = s.lif.cells ∧
    (channelAction m s).lif.report = s.lif.report ∧
    (channelAction m s).lif.rxHeader = s.lif.rxHeader ∧
    (channelAction m s).lif.rxStartedSending = s.lif.rxStartedSending ∧
    (channelAction m s).frh.lineState = s.frh.lineState ∧
    (channelAction m s).frh.joinTimer = s.frh.joinTimer ∧
    (channelAction m s).frh.nextSeq = s.frh.nextSeq ∧
    (channelAction m s).frh.outbox.trip = s.frh.outbox.trip ∧
    (channelAction m s).frh.outbox.clear = s.frh.outbox.clear ∧
    (channelAction m s).frh.outbox.replies = s.frh.outbox.replies ∧
    (channelAction m s).frh.outbox.restAsk = s.frh.outbox.restAsk ∧
    (channelAction m s).frh.outbox.demand = s.frh.outbox.demand ∧
    (channelAction m s).frh.inFlight = s.frh.inFlight ∧
    (channelAction m s).frh.lastDemand = s.frh.lastDemand ∧
    (channelAction m s).frh.notice = s.frh.notice ∧
    (channelAction m s).pvw = s.pvw ∧
    (channelAction m s).msu.gathered = s.msu.gathered ∧
    (channelAction m s).msu.idleReached = s.msu.idleReached ∧
    (channelAction m s).msu.awaitHigh = s.msu.awaitHigh ∧
    (channelAction m s).msu.rejected = s.msu.rejected ∧
    (channelAction m s).msu.lastRejection = s.msu.lastRejection ∧
    (channelAction m s).msu.latches = s.msu.latches ∧
    (channelAction m s).msu.windows = s.msu.windows ∧
    (channelAction m s).dtu.normalTarget = s.dtu.normalTarget ∧
    (channelAction m s).dtu.setpoint = s.dtu.setpoint ∧
    (channelAction m s).dtu.tripSet = s.dtu.tripSet ∧
    (channelAction m s).dtu.pendingTrip = s.dtu.pendingTrip ∧
    (channelAction m s).dtu.duty = s.dtu.duty ∧
    (channelAction m s).dtu.runReq = s.dtu.runReq ∧
    (channelAction m s).dtu.runAck = s.dtu.runAck ∧
    (channelAction m s).dtu.startTimer = s.dtu.startTimer ∧
    (channelAction m s).dtu.warmTimer = s.dtu.warmTimer ∧
    (channelAction m s).dtu.stopTimer = s.dtu.stopTimer ∧
    (channelAction m s).dtu.setpt = s.dtu.setpt ∧
    (channelAction m s).rng = s.rng ∧
    (channelAction m s).srg = s.srg ∧
    (channelAction m s).xcp = s.xcp ∧
    (channelAction m s).evu.queue = s.evu.queue ∧
    (channelAction m s).evu.refreshCount = s.evu.refreshCount ∧
    (channelAction m s).evu.dropped = s.evu.dropped ∧
    (channelAction m s).evu.channels = s.evu.channels ∧
    (channelAction m s).pnp = s.pnp ∧
    (channelAction m s).pending = s.pending := by
  simp only [channelAction]
  repeat' split
  all_goals simp


/-- What `channelActs` leaves as it stands. -/
@[simp] theorem channelActs_keeps (n : Nat) (f : Firing) (s : State) :
    (channelActs n f s).pins = s.pins ∧
    (channelActs n f s).stl = s.stl ∧
    (channelActs n f s).settings = s.settings ∧
    (channelActs n f s).lif.quiet = s.lif.quiet ∧
    (channelActs n f s).lif.rx = s.lif.rx ∧
    (channelActs n f s).lif.leadFrom = s.lif.leadFrom ∧
    (channelActs n f s).lif.cells = s.lif.cells ∧
    (channelActs n f s).lif.report = s.lif.report ∧
    (channelActs n f s).lif.rxHeader = s.lif.rxHeader ∧
    (channelActs n f s).lif.rxStartedSending = s.lif.rxStartedSending ∧
    (channelActs n f s).frh.lineState = s.frh.lineState ∧
    (channelActs n f s).frh.joinTimer = s.frh.joinTimer ∧
    (channelActs n f s).frh.nextSeq = s.frh.nextSeq ∧
    (channelActs n f s).frh.outbox.trip = s.frh.outbox.trip ∧
    (channelActs n f s).frh.outbox.clear = s.frh.outbox.clear ∧
    (channelActs n f s).frh.outbox.replies = s.frh.outbox.replies ∧
    (channelActs n f s).frh.outbox.restAsk = s.frh.outbox.restAsk ∧
    (channelActs n f s).frh.outbox.demand = s.frh.outbox.demand ∧
    (channelActs n f s).frh.inFlight = s.frh.inFlight ∧
    (channelActs n f s).frh.lastDemand = s.frh.lastDemand ∧
    (channelActs n f s).frh.notice = s.frh.notice ∧
    (channelActs n f s).pvw = s.pvw ∧
    (channelActs n f s).msu.gathered = s.msu.gathered ∧
    (channelActs n f s).msu.idleReached = s.msu.idleReached ∧
    (channelActs n f s).msu.awaitHigh = s.msu.awaitHigh ∧
    (channelActs n f s).msu.rejected = s.msu.rejected ∧
    (channelActs n f s).msu.lastRejection = s.msu.lastRejection ∧
    (channelActs n f s).msu.latches = s.msu.latches ∧
    (channelActs n f s).msu.windows = s.msu.windows ∧
    (channelActs n f s).dtu.normalTarget = s.dtu.normalTarget ∧
    (channelActs n f s).dtu.setpoint = s.dtu.setpoint ∧
    (channelActs n f s).dtu.tripSet = s.dtu.tripSet ∧
    (channelActs n f s).dtu.pendingTrip = s.dtu.pendingTrip ∧
    (channelActs n f s).dtu.duty = s.dtu.duty ∧
    (channelActs n f s).dtu.runReq = s.dtu.runReq ∧
    (channelActs n f s).dtu.runAck = s.dtu.runAck ∧
    (channelActs n f s).dtu.startTimer = s.dtu.startTimer ∧
    (channelActs n f s).dtu.warmTimer = s.dtu.warmTimer ∧
    (channelActs n f s).dtu.stopTimer = s.dtu.stopTimer ∧
    (channelActs n f s).dtu.setpt = s.dtu.setpt ∧
    (channelActs n f s).rng = s.rng ∧
    (channelActs n f s).srg = s.srg ∧
    (channelActs n f s).xcp = s.xcp ∧
    (channelActs n f s).evu.refreshCount = s.evu.refreshCount ∧
    (channelActs n f s).pnp = s.pnp ∧
    (channelActs n f s).pending = s.pending := by
  simp only [channelActs]
  repeat' split
  all_goals simp


/-- What `offer` leaves as it stands. -/
@[simp] theorem offer_keeps (f : Firing) (s : State) :
    (offer f s).pins = s.pins ∧
    (offer f s).stl = s.stl ∧
    (offer f s).settings = s.settings ∧
    (offer f s).lif.quiet = s.lif.quiet ∧
    (offer f s).lif.rx = s.lif.rx ∧
    (offer f s).lif.leadFrom = s.lif.leadFrom ∧
    (offer f s).lif.cells = s.lif.cells ∧
    (offer f s).lif.report = s.lif.report ∧
    (offer f s).lif.rxHeader = s.lif.rxHeader ∧
    (offer f s).lif.rxStartedSending = s.lif.rxStartedSending ∧
    (offer f s).frh.lineState = s.frh.lineState ∧
    (offer f s).frh.joinTimer = s.frh.joinTimer ∧
    (offer f s).frh.nextSeq = s.frh.nextSeq ∧
    (offer f s).frh.outbox.trip = s.frh.outbox.trip ∧
    (offer f s).frh.outbox.clear = s.frh.outbox.clear ∧
    (offer f s).frh.outbox.replies = s.frh.outbox.replies ∧
    (offer f s).frh.outbox.restAsk = s.frh.outbox.restAsk ∧
    (offer f s).frh.outbox.demand = s.frh.outbox.demand ∧
    (offer f s).frh.inFlight = s.frh.inFlight ∧
    (offer f s).frh.lastDemand = s.frh.lastDemand ∧
    (offer f s).frh.notice = s.frh.notice ∧
    (offer f s).pvw = s.pvw ∧
    (offer f s).msu.gathered = s.msu.gathered ∧
    (offer f s).msu.idleReached = s.msu.idleReached ∧
    (offer f s).msu.awaitHigh = s.msu.awaitHigh ∧
    (offer f s).msu.rejected = s.msu.rejected ∧
    (offer f s).msu.lastRejection = s.msu.lastRejection ∧
    (offer f s).msu.latches = s.msu.latches ∧
    (offer f s).msu.windows = s.msu.windows ∧
    (offer f s).dtu.normalTarget = s.dtu.normalTarget ∧
    (offer f s).dtu.setpoint = s.dtu.setpoint ∧
    (offer f s).dtu.tripSet = s.dtu.tripSet ∧
    (offer f s).dtu.pendingTrip = s.dtu.pendingTrip ∧
    (offer f s).dtu.duty = s.dtu.duty ∧
    (offer f s).dtu.runReq = s.dtu.runReq ∧
    (offer f s).dtu.runAck = s.dtu.runAck ∧
    (offer f s).dtu.startTimer = s.dtu.startTimer ∧
    (offer f s).dtu.warmTimer = s.dtu.warmTimer ∧
    (offer f s).dtu.stopTimer = s.dtu.stopTimer ∧
    (offer f s).dtu.setpt = s.dtu.setpt ∧
    (offer f s).rng = s.rng ∧
    (offer f s).srg = s.srg ∧
    (offer f s).xcp = s.xcp ∧
    (offer f s).evu.refreshCount = s.evu.refreshCount ∧
    (offer f s).pnp = s.pnp ∧
    (offer f s).pending = s.pending := by
  simp only [offer]
  repeat' split
  all_goals simp


/-- What `offerAll` leaves as it stands. -/
@[simp] theorem offerAll_keeps (fs : List Firing) (s : State) :
    (offerAll fs s).pins = s.pins ∧
    (offerAll fs s).stl = s.stl ∧
    (offerAll fs s).settings = s.settings ∧
    (offerAll fs s).lif.quiet = s.lif.quiet ∧
    (offerAll fs s).lif.rx = s.lif.rx ∧
    (offerAll fs s).lif.leadFrom = s.lif.leadFrom ∧
    (offerAll fs s).lif.cells = s.lif.cells ∧
    (offerAll fs s).lif.report = s.lif.report ∧
    (offerAll fs s).lif.rxHeader = s.lif.rxHeader ∧
    (offerAll fs s).lif.rxStartedSending = s.lif.rxStartedSending ∧
    (offerAll fs s).frh.lineState = s.frh.lineState ∧
    (offerAll fs s).frh.joinTimer = s.frh.joinTimer ∧
    (offerAll fs s).frh.nextSeq = s.frh.nextSeq ∧
    (offerAll fs s).frh.outbox.trip = s.frh.outbox.trip ∧
    (offerAll fs s).frh.outbox.clear = s.frh.outbox.clear ∧
    (offerAll fs s).frh.outbox.replies = s.frh.outbox.replies ∧
    (offerAll fs s).frh.outbox.restAsk = s.frh.outbox.restAsk ∧
    (offerAll fs s).frh.outbox.demand = s.frh.outbox.demand ∧
    (offerAll fs s).frh.inFlight = s.frh.inFlight ∧
    (offerAll fs s).frh.lastDemand = s.frh.lastDemand ∧
    (offerAll fs s).frh.notice = s.frh.notice ∧
    (offerAll fs s).pvw = s.pvw ∧
    (offerAll fs s).msu.gathered = s.msu.gathered ∧
    (offerAll fs s).msu.idleReached = s.msu.idleReached ∧
    (offerAll fs s).msu.awaitHigh = s.msu.awaitHigh ∧
    (offerAll fs s).msu.rejected = s.msu.rejected ∧
    (offerAll fs s).msu.lastRejection = s.msu.lastRejection ∧
    (offerAll fs s).msu.latches = s.msu.latches ∧
    (offerAll fs s).msu.windows = s.msu.windows ∧
    (offerAll fs s).dtu.normalTarget = s.dtu.normalTarget ∧
    (offerAll fs s).dtu.setpoint = s.dtu.setpoint ∧
    (offerAll fs s).dtu.tripSet = s.dtu.tripSet ∧
    (offerAll fs s).dtu.pendingTrip = s.dtu.pendingTrip ∧
    (offerAll fs s).dtu.duty = s.dtu.duty ∧
    (offerAll fs s).dtu.runReq = s.dtu.runReq ∧
    (offerAll fs s).dtu.runAck = s.dtu.runAck ∧
    (offerAll fs s).dtu.startTimer = s.dtu.startTimer ∧
    (offerAll fs s).dtu.warmTimer = s.dtu.warmTimer ∧
    (offerAll fs s).dtu.stopTimer = s.dtu.stopTimer ∧
    (offerAll fs s).dtu.setpt = s.dtu.setpt ∧
    (offerAll fs s).rng = s.rng ∧
    (offerAll fs s).srg = s.srg ∧
    (offerAll fs s).xcp = s.xcp ∧
    (offerAll fs s).evu.refreshCount = s.evu.refreshCount ∧
    (offerAll fs s).pnp = s.pnp ∧
    (offerAll fs s).pending = s.pending := by
  induction fs generalizing s with
  | nil => simp [offerAll]
  | cons f fs ih =>
    have h := ih (offer f s)
    simp only [offerAll, List.foldl_cons] at h ⊢
    simpa using h


/-- What `enterReplyFrame` leaves as it stands. -/
@[simp] theorem enterReplyFrame_keeps (a : Nat) (q : Octet) (v : Verdict) (s : State) :
    (enterReplyFrame a q v s).pins = s.pins ∧
    (enterReplyFrame a q v s).stl = s.stl ∧
    (enterReplyFrame a q v s).settings = s.settings ∧
    (enterReplyFrame a q v s).lif.quiet = s.lif.quiet ∧
    (enterReplyFrame a q v s).lif.rx = s.lif.rx ∧
    (enterReplyFrame a q v s).lif.leadFrom = s.lif.leadFrom ∧
    (enterReplyFrame a q v s).lif.cells = s.lif.cells ∧
    (enterReplyFrame a q v s).lif.report = s.lif.report ∧
    (enterReplyFrame a q v s).lif.rxHeader = s.lif.rxHeader ∧
    (enterReplyFrame a q v s).lif.rxStartedSending = s.lif.rxStartedSending ∧
    (enterReplyFrame a q v s).frh.lineState = s.frh.lineState ∧
    (enterReplyFrame a q v s).frh.joinTimer = s.frh.joinTimer ∧
    (enterReplyFrame a q v s).frh.nextSeq = s.frh.nextSeq ∧
    (enterReplyFrame a q v s).frh.outbox.trip = s.frh.outbox.trip ∧
    (enterReplyFrame a q v s).frh.outbox.clear = s.frh.outbox.clear ∧
    (enterReplyFrame a q v s).frh.outbox.restAsk = s.frh.outbox.restAsk ∧
    (enterReplyFrame a q v s).frh.outbox.demand = s.frh.outbox.demand ∧
    (enterReplyFrame a q v s).frh.inFlight = s.frh.inFlight ∧
    (enterReplyFrame a q v s).frh.lastDemand = s.frh.lastDemand ∧
    (enterReplyFrame a q v s).frh.notice = s.frh.notice ∧
    (enterReplyFrame a q v s).pvw = s.pvw ∧
    (enterReplyFrame a q v s).msu.gathered = s.msu.gathered ∧
    (enterReplyFrame a q v s).msu.idleReached = s.msu.idleReached ∧
    (enterReplyFrame a q v s).msu.awaitHigh = s.msu.awaitHigh ∧
    (enterReplyFrame a q v s).msu.rejected = s.msu.rejected ∧
    (enterReplyFrame a q v s).msu.lastRejection = s.msu.lastRejection ∧
    (enterReplyFrame a q v s).msu.latches = s.msu.latches ∧
    (enterReplyFrame a q v s).msu.windows = s.msu.windows ∧
    (enterReplyFrame a q v s).dtu.normalTarget = s.dtu.normalTarget ∧
    (enterReplyFrame a q v s).dtu.setpoint = s.dtu.setpoint ∧
    (enterReplyFrame a q v s).dtu.tripSet = s.dtu.tripSet ∧
    (enterReplyFrame a q v s).dtu.pendingTrip = s.dtu.pendingTrip ∧
    (enterReplyFrame a q v s).dtu.duty = s.dtu.duty ∧
    (enterReplyFrame a q v s).dtu.runReq = s.dtu.runReq ∧
    (enterReplyFrame a q v s).dtu.runAck = s.dtu.runAck ∧
    (enterReplyFrame a q v s).dtu.startTimer = s.dtu.startTimer ∧
    (enterReplyFrame a q v s).dtu.warmTimer = s.dtu.warmTimer ∧
    (enterReplyFrame a q v s).dtu.stopTimer = s.dtu.stopTimer ∧
    (enterReplyFrame a q v s).dtu.setpt = s.dtu.setpt ∧
    (enterReplyFrame a q v s).rng = s.rng ∧
    (enterReplyFrame a q v s).srg = s.srg ∧
    (enterReplyFrame a q v s).xcp = s.xcp ∧
    (enterReplyFrame a q v s).evu.refreshCount = s.evu.refreshCount ∧
    (enterReplyFrame a q v s).pnp = s.pnp ∧
    (enterReplyFrame a q v s).pending = s.pending := by
  simp only [enterReplyFrame]
  repeat' split
  all_goals simp


end Sys2Proof.Machine
end

