-- ==== Sys2Proof/Laws/Duty.lean ====
section
/-! SUPPORT. What each operation of Machine/Duty.lean leaves as it stands. -/

namespace Sys2Proof.Machine

/-- What `startWord` leaves as it stands. -/
@[simp] theorem startWord_keeps (s : State) :
    (startWord s).pins = s.pins ∧
    (startWord s).stl = s.stl ∧
    (startWord s).settings = s.settings ∧
    (startWord s).lif = s.lif ∧
    (startWord s).frh = s.frh ∧
    (startWord s).pvw = s.pvw ∧
    (startWord s).msu = s.msu ∧
    (startWord s).dtu.derateTotal = s.dtu.derateTotal ∧
    (startWord s).dtu.quietCount = s.dtu.quietCount ∧
    (startWord s).dtu.normalTarget = s.dtu.normalTarget ∧
    (startWord s).dtu.target = s.dtu.target ∧
    (startWord s).dtu.setpoint = s.dtu.setpoint ∧
    (startWord s).dtu.tripSet = s.dtu.tripSet ∧
    (startWord s).dtu.pendingTrip = s.dtu.pendingTrip ∧
    (startWord s).dtu.duty = s.dtu.duty ∧
    (startWord s).dtu.runReq = s.dtu.runReq ∧
    (startWord s).dtu.runAck = s.dtu.runAck ∧
    (startWord s).dtu.recallTimer = s.dtu.recallTimer ∧
    (startWord s).dtu.startTimer = s.dtu.startTimer ∧
    (startWord s).dtu.warmTimer = s.dtu.warmTimer ∧
    (startWord s).dtu.stopTimer = s.dtu.stopTimer ∧
    (startWord s).rng = s.rng ∧
    (startWord s).srg = s.srg ∧
    (startWord s).xcp = s.xcp ∧
    (startWord s).evu = s.evu ∧
    (startWord s).pnp = s.pnp ∧
    (startWord s).pending = s.pending := by
  simp [startWord]


/-- What `sendWord` leaves as it stands. -/
@[simp] theorem sendWord_keeps (s : State) :
    (sendWord s).pins = s.pins ∧
    (sendWord s).stl = s.stl ∧
    (sendWord s).settings = s.settings ∧
    (sendWord s).lif = s.lif ∧
    (sendWord s).frh = s.frh ∧
    (sendWord s).pvw = s.pvw ∧
    (sendWord s).msu = s.msu ∧
    (sendWord s).dtu.derateTotal = s.dtu.derateTotal ∧
    (sendWord s).dtu.quietCount = s.dtu.quietCount ∧
    (sendWord s).dtu.normalTarget = s.dtu.normalTarget ∧
    (sendWord s).dtu.target = s.dtu.target ∧
    (sendWord s).dtu.setpoint = s.dtu.setpoint ∧
    (sendWord s).dtu.tripSet = s.dtu.tripSet ∧
    (sendWord s).dtu.pendingTrip = s.dtu.pendingTrip ∧
    (sendWord s).dtu.duty = s.dtu.duty ∧
    (sendWord s).dtu.runReq = s.dtu.runReq ∧
    (sendWord s).dtu.runAck = s.dtu.runAck ∧
    (sendWord s).dtu.recallTimer = s.dtu.recallTimer ∧
    (sendWord s).dtu.startTimer = s.dtu.startTimer ∧
    (sendWord s).dtu.warmTimer = s.dtu.warmTimer ∧
    (sendWord s).dtu.stopTimer = s.dtu.stopTimer ∧
    (sendWord s).rng = s.rng ∧
    (sendWord s).srg = s.srg ∧
    (sendWord s).xcp = s.xcp ∧
    (sendWord s).evu = s.evu ∧
    (sendWord s).pnp = s.pnp ∧
    (sendWord s).pending = s.pending := by
  simp only [sendWord]
  repeat' split
  all_goals simp


/-- What `tripStep` leaves as it stands. -/
@[simp] theorem tripStep_keeps (s : State) :
    (tripStep s).pins = s.pins ∧
    (tripStep s).stl = s.stl ∧
    (tripStep s).settings = s.settings ∧
    (tripStep s).lif = s.lif ∧
    (tripStep s).frh = s.frh ∧
    (tripStep s).pvw = s.pvw ∧
    (tripStep s).msu = s.msu ∧
    (tripStep s).dtu.derateTotal = s.dtu.derateTotal ∧
    (tripStep s).dtu.quietCount = s.dtu.quietCount ∧
    (tripStep s).dtu.normalTarget = s.dtu.normalTarget ∧
    (tripStep s).dtu.tripSet = s.dtu.tripSet ∧
    (tripStep s).dtu.pendingTrip = s.dtu.pendingTrip ∧
    (tripStep s).dtu.duty = s.dtu.duty ∧
    (tripStep s).dtu.runReq = s.dtu.runReq ∧
    (tripStep s).dtu.runAck = s.dtu.runAck ∧
    (tripStep s).dtu.recallTimer = s.dtu.recallTimer ∧
    (tripStep s).dtu.startTimer = s.dtu.startTimer ∧
    (tripStep s).dtu.warmTimer = s.dtu.warmTimer ∧
    (tripStep s).dtu.stopTimer = s.dtu.stopTimer ∧
    (tripStep s).rng = s.rng ∧
    (tripStep s).srg = s.srg ∧
    (tripStep s).xcp = s.xcp ∧
    (tripStep s).evu = s.evu ∧
    (tripStep s).pnp = s.pnp ∧
    (tripStep s).pending = s.pending := by
  simp only [tripStep]
  repeat' split
  all_goals simp


/-- What `enterDuty` leaves as it stands. -/
@[simp] theorem enterDuty_keeps (new : Duty) (s : State) :
    (enterDuty new s).pins = s.pins ∧
    (enterDuty new s).stl = s.stl ∧
    (enterDuty new s).settings = s.settings ∧
    (enterDuty new s).lif = s.lif ∧
    (enterDuty new s).frh = s.frh ∧
    (enterDuty new s).pvw = s.pvw ∧
    (enterDuty new s).msu = s.msu ∧
    (enterDuty new s).dtu.derateTotal = s.dtu.derateTotal ∧
    (enterDuty new s).dtu.quietCount = s.dtu.quietCount ∧
    (enterDuty new s).dtu.tripSet = s.dtu.tripSet ∧
    (enterDuty new s).dtu.pendingTrip = s.dtu.pendingTrip ∧
    (enterDuty new s).dtu.runAck = s.dtu.runAck ∧
    (enterDuty new s).dtu.setpt = s.dtu.setpt ∧
    (enterDuty new s).rng = s.rng ∧
    (enterDuty new s).srg = s.srg ∧
    (enterDuty new s).xcp = s.xcp ∧
    (enterDuty new s).evu = s.evu ∧
    (enterDuty new s).pnp = s.pnp ∧
    (enterDuty new s).pending = s.pending := by
  unfold enterDuty
  cases new <;> (repeat' split) <;> simp


/-- What `tellNegotiator` leaves as it stands. -/
@[simp] theorem tellNegotiator_keeps (new old : Duty) (s : State) :
    (tellNegotiator new old s).pins = s.pins ∧
    (tellNegotiator new old s).stl = s.stl ∧
    (tellNegotiator new old s).settings = s.settings ∧
    (tellNegotiator new old s).lif = s.lif ∧
    (tellNegotiator new old s).frh = s.frh ∧
    (tellNegotiator new old s).pvw = s.pvw ∧
    (tellNegotiator new old s).msu = s.msu ∧
    (tellNegotiator new old s).dtu = s.dtu ∧
    (tellNegotiator new old s).rng.grants = s.rng.grants ∧
    (tellNegotiator new old s).srg = s.srg ∧
    (tellNegotiator new old s).xcp = s.xcp ∧
    (tellNegotiator new old s).evu = s.evu ∧
    (tellNegotiator new old s).pnp = s.pnp ∧
    (tellNegotiator new old s).pending = s.pending := by
  simp only [tellNegotiator]
  repeat' split
  all_goals simp


/-- What `takeDuty` leaves as it stands. -/
@[simp] theorem takeDuty_keeps (new : Duty) (cause : List Firing) (s : State) :
    (takeDuty new cause s).pins = s.pins ∧
    (takeDuty new cause s).stl = s.stl ∧
    (takeDuty new cause s).settings = s.settings ∧
    (takeDuty new cause s).lif.quiet = s.lif.quiet ∧
    (takeDuty new cause s).lif.rx = s.lif.rx ∧
    (takeDuty new cause s).lif.leadFrom = s.lif.leadFrom ∧
    (takeDuty new cause s).lif.cells = s.lif.cells ∧
    (takeDuty new cause s).lif.report = s.lif.report ∧
    (takeDuty new cause s).lif.rxHeader = s.lif.rxHeader ∧
    (takeDuty new cause s).lif.rxStartedSending = s.lif.rxStartedSending ∧
    (takeDuty new cause s).frh.lineState = s.frh.lineState ∧
    (takeDuty new cause s).frh.joinTimer = s.frh.joinTimer ∧
    (takeDuty new cause s).frh.nextSeq = s.frh.nextSeq ∧
    (takeDuty new cause s).frh.outbox.trip = s.frh.outbox.trip ∧
    (takeDuty new cause s).frh.outbox.clear = s.frh.outbox.clear ∧
    (takeDuty new cause s).frh.outbox.replies = s.frh.outbox.replies ∧
    (takeDuty new cause s).frh.outbox.restAsk = s.frh.outbox.restAsk ∧
    (takeDuty new cause s).frh.outbox.demand = s.frh.outbox.demand ∧
    (takeDuty new cause s).frh.inFlight = s.frh.inFlight ∧
    (takeDuty new cause s).frh.lastDemand = s.frh.lastDemand ∧
    (takeDuty new cause s).frh.notice = s.frh.notice ∧
    (takeDuty new cause s).pvw = s.pvw ∧
    (takeDuty new cause s).msu.gathered = s.msu.gathered ∧
    (takeDuty new cause s).msu.idleReached = s.msu.idleReached ∧
    (takeDuty new cause s).msu.awaitHigh = s.msu.awaitHigh ∧
    (takeDuty new cause s).msu.rejected = s.msu.rejected ∧
    (takeDuty new cause s).msu.lastRejection = s.msu.lastRejection ∧
    (takeDuty new cause s).msu.latches = s.msu.latches ∧
    (takeDuty new cause s).msu.windows = s.msu.windows ∧
    (takeDuty new cause s).dtu.tripSet = s.dtu.tripSet ∧
    (takeDuty new cause s).dtu.pendingTrip = s.dtu.pendingTrip ∧
    (takeDuty new cause s).dtu.runAck = s.dtu.runAck ∧
    (takeDuty new cause s).rng.grants = s.rng.grants ∧
    (takeDuty new cause s).srg = s.srg ∧
    (takeDuty new cause s).xcp = s.xcp ∧
    (takeDuty new cause s).evu.refreshCount = s.evu.refreshCount ∧
    (takeDuty new cause s).pnp = s.pnp ∧
    (takeDuty new cause s).pending = s.pending := by
  simp only [takeDuty]
  repeat' split
  all_goals simp


/-- What `driveLoss` leaves as it stands. -/
@[simp] theorem driveLoss_keeps (s : State) :
    (driveLoss s).pins = s.pins ∧
    (driveLoss s).stl = s.stl ∧
    (driveLoss s).settings = s.settings ∧
    (driveLoss s).lif.quiet = s.lif.quiet ∧
    (driveLoss s).lif.rx = s.lif.rx ∧
    (driveLoss s).lif.leadFrom = s.lif.leadFrom ∧
    (driveLoss s).lif.cells = s.lif.cells ∧
    (driveLoss s).lif.report = s.lif.report ∧
    (driveLoss s).lif.rxHeader = s.lif.rxHeader ∧
    (driveLoss s).lif.rxStartedSending = s.lif.rxStartedSending ∧
    (driveLoss s).frh.lineState = s.frh.lineState ∧
    (driveLoss s).frh.joinTimer = s.frh.joinTimer ∧
    (driveLoss s).frh.nextSeq = s.frh.nextSeq ∧
    (driveLoss s).frh.outbox.trip = s.frh.outbox.trip ∧
    (driveLoss s).frh.outbox.clear = s.frh.outbox.clear ∧
    (driveLoss s).frh.outbox.replies = s.frh.outbox.replies ∧
    (driveLoss s).frh.outbox.restAsk = s.frh.outbox.restAsk ∧
    (driveLoss s).frh.outbox.demand = s.frh.outbox.demand ∧
    (driveLoss s).frh.inFlight = s.frh.inFlight ∧
    (driveLoss s).frh.lastDemand = s.frh.lastDemand ∧
    (driveLoss s).frh.notice = s.frh.notice ∧
    (driveLoss s).pvw = s.pvw ∧
    (driveLoss s).msu.gathered = s.msu.gathered ∧
    (driveLoss s).msu.idleReached = s.msu.idleReached ∧
    (driveLoss s).msu.awaitHigh = s.msu.awaitHigh ∧
    (driveLoss s).msu.rejected = s.msu.rejected ∧
    (driveLoss s).msu.lastRejection = s.msu.lastRejection ∧
    (driveLoss s).msu.latches = s.msu.latches ∧
    (driveLoss s).msu.windows = s.msu.windows ∧
    (driveLoss s).dtu.tripSet = s.dtu.tripSet ∧
    (driveLoss s).dtu.pendingTrip = s.dtu.pendingTrip ∧
    (driveLoss s).dtu.runAck = s.dtu.runAck ∧
    (driveLoss s).rng.grants = s.rng.grants ∧
    (driveLoss s).srg = s.srg ∧
    (driveLoss s).xcp = s.xcp ∧
    (driveLoss s).evu.refreshCount = s.evu.refreshCount ∧
    (driveLoss s).pnp = s.pnp ∧
    (driveLoss s).pending = s.pending := by
  simp [driveLoss]


/-- What `warmUpEnds` leaves as it stands. -/
@[simp] theorem warmUpEnds_keeps (s : State) :
    (warmUpEnds s).pins = s.pins ∧
    (warmUpEnds s).stl = s.stl ∧
    (warmUpEnds s).settings = s.settings ∧
    (warmUpEnds s).lif.quiet = s.lif.quiet ∧
    (warmUpEnds s).lif.rx = s.lif.rx ∧
    (warmUpEnds s).lif.leadFrom = s.lif.leadFrom ∧
    (warmUpEnds s).lif.cells = s.lif.cells ∧
    (warmUpEnds s).lif.report = s.lif.report ∧
    (warmUpEnds s).lif.rxHeader = s.lif.rxHeader ∧
    (warmUpEnds s).lif.rxStartedSending = s.lif.rxStartedSending ∧
    (warmUpEnds s).frh.lineState = s.frh.lineState ∧
    (warmUpEnds s).frh.joinTimer = s.frh.joinTimer ∧
    (warmUpEnds s).frh.nextSeq = s.frh.nextSeq ∧
    (warmUpEnds s).frh.outbox.trip = s.frh.outbox.trip ∧
    (warmUpEnds s).frh.outbox.clear = s.frh.outbox.clear ∧
    (warmUpEnds s).frh.outbox.replies = s.frh.outbox.replies ∧
    (warmUpEnds s).frh.outbox.restAsk = s.frh.outbox.restAsk ∧
    (warmUpEnds s).frh.outbox.demand = s.frh.outbox.demand ∧
    (warmUpEnds s).frh.inFlight = s.frh.inFlight ∧
    (warmUpEnds s).frh.lastDemand = s.frh.lastDemand ∧
    (warmUpEnds s).frh.notice = s.frh.notice ∧
    (warmUpEnds s).pvw = s.pvw ∧
    (warmUpEnds s).msu.gathered = s.msu.gathered ∧
    (warmUpEnds s).msu.idleReached = s.msu.idleReached ∧
    (warmUpEnds s).msu.awaitHigh = s.msu.awaitHigh ∧
    (warmUpEnds s).msu.rejected = s.msu.rejected ∧
    (warmUpEnds s).msu.lastRejection = s.msu.lastRejection ∧
    (warmUpEnds s).msu.latches = s.msu.latches ∧
    (warmUpEnds s).msu.windows = s.msu.windows ∧
    (warmUpEnds s).dtu.tripSet = s.dtu.tripSet ∧
    (warmUpEnds s).dtu.pendingTrip = s.dtu.pendingTrip ∧
    (warmUpEnds s).dtu.runAck = s.dtu.runAck ∧
    (warmUpEnds s).rng.grants = s.rng.grants ∧
    (warmUpEnds s).srg = s.srg ∧
    (warmUpEnds s).xcp = s.xcp ∧
    (warmUpEnds s).evu.refreshCount = s.evu.refreshCount ∧
    (warmUpEnds s).pnp = s.pnp ∧
    (warmUpEnds s).pending = s.pending := by
  simp [warmUpEnds]


/-- What `acknowledge` leaves as it stands. -/
@[simp] theorem acknowledge_keeps (s : State) :
    (acknowledge s).pins = s.pins ∧
    (acknowledge s).stl = s.stl ∧
    (acknowledge s).settings = s.settings ∧
    (acknowledge s).lif.quiet = s.lif.quiet ∧
    (acknowledge s).lif.rx = s.lif.rx ∧
    (acknowledge s).lif.leadFrom = s.lif.leadFrom ∧
    (acknowledge s).lif.cells = s.lif.cells ∧
    (acknowledge s).lif.report = s.lif.report ∧
    (acknowledge s).lif.rxHeader = s.lif.rxHeader ∧
    (acknowledge s).lif.rxStartedSending = s.lif.rxStartedSending ∧
    (acknowledge s).frh.lineState = s.frh.lineState ∧
    (acknowledge s).frh.joinTimer = s.frh.joinTimer ∧
    (acknowledge s).frh.nextSeq = s.frh.nextSeq ∧
    (acknowledge s).frh.outbox.trip = s.frh.outbox.trip ∧
    (acknowledge s).frh.outbox.clear = s.frh.outbox.clear ∧
    (acknowledge s).frh.outbox.replies = s.frh.outbox.replies ∧
    (acknowledge s).frh.outbox.restAsk = s.frh.outbox.restAsk ∧
    (acknowledge s).frh.outbox.demand = s.frh.outbox.demand ∧
    (acknowledge s).frh.inFlight = s.frh.inFlight ∧
    (acknowledge s).frh.lastDemand = s.frh.lastDemand ∧
    (acknowledge s).frh.notice = s.frh.notice ∧
    (acknowledge s).pvw = s.pvw ∧
    (acknowledge s).msu.gathered = s.msu.gathered ∧
    (acknowledge s).msu.idleReached = s.msu.idleReached ∧
    (acknowledge s).msu.awaitHigh = s.msu.awaitHigh ∧
    (acknowledge s).msu.rejected = s.msu.rejected ∧
    (acknowledge s).msu.lastRejection = s.msu.lastRejection ∧
    (acknowledge s).msu.latches = s.msu.latches ∧
    (acknowledge s).msu.windows = s.msu.windows ∧
    (acknowledge s).dtu.tripSet = s.dtu.tripSet ∧
    (acknowledge s).dtu.pendingTrip = s.dtu.pendingTrip ∧
    (acknowledge s).dtu.runAck = s.dtu.runAck ∧
    (acknowledge s).rng.grants = s.rng.grants ∧
    (acknowledge s).srg = s.srg ∧
    (acknowledge s).xcp = s.xcp ∧
    (acknowledge s).evu.refreshCount = s.evu.refreshCount ∧
    (acknowledge s).pnp = s.pnp ∧
    (acknowledge s).pending = s.pending := by
  simp only [acknowledge]
  repeat' split
  all_goals simp


/-- What `afterTripChange` leaves as it stands. -/
@[simp] theorem afterTripChange_keeps (b : Bool) (s : State) :
    (afterTripChange b s).pins = s.pins ∧
    (afterTripChange b s).stl = s.stl ∧
    (afterTripChange b s).settings = s.settings ∧
    (afterTripChange b s).lif = s.lif ∧
    (afterTripChange b s).frh = s.frh ∧
    (afterTripChange b s).pvw = s.pvw ∧
    (afterTripChange b s).msu = s.msu ∧
    (afterTripChange b s).dtu.derateTotal = s.dtu.derateTotal ∧
    (afterTripChange b s).dtu.quietCount = s.dtu.quietCount ∧
    (afterTripChange b s).dtu.normalTarget = s.dtu.normalTarget ∧
    (afterTripChange b s).dtu.tripSet = s.dtu.tripSet ∧
    (afterTripChange b s).dtu.pendingTrip = s.dtu.pendingTrip ∧
    (afterTripChange b s).dtu.duty = s.dtu.duty ∧
    (afterTripChange b s).dtu.runReq = s.dtu.runReq ∧
    (afterTripChange b s).dtu.runAck = s.dtu.runAck ∧
    (afterTripChange b s).dtu.startTimer = s.dtu.startTimer ∧
    (afterTripChange b s).dtu.warmTimer = s.dtu.warmTimer ∧
    (afterTripChange b s).dtu.stopTimer = s.dtu.stopTimer ∧
    (afterTripChange b s).rng = s.rng ∧
    (afterTripChange b s).srg = s.srg ∧
    (afterTripChange b s).xcp = s.xcp ∧
    (afterTripChange b s).evu = s.evu ∧
    (afterTripChange b s).pnp = s.pnp ∧
    (afterTripChange b s).pending = s.pending := by
  simp only [afterTripChange]
  repeat' split
  all_goals simp


/-- What `announceTrip` leaves as it stands. -/
@[simp] theorem announceTrip_keeps (n c : Nat) (s : State) :
    (announceTrip n c s).pins = s.pins ∧
    (announceTrip n c s).stl = s.stl ∧
    (announceTrip n c s).settings = s.settings ∧
    (announceTrip n c s).lif.quiet = s.lif.quiet ∧
    (announceTrip n c s).lif.rx = s.lif.rx ∧
    (announceTrip n c s).lif.leadFrom = s.lif.leadFrom ∧
    (announceTrip n c s).lif.cells = s.lif.cells ∧
    (announceTrip n c s).lif.report = s.lif.report ∧
    (announceTrip n c s).lif.rxHeader = s.lif.rxHeader ∧
    (announceTrip n c s).lif.rxStartedSending = s.lif.rxStartedSending ∧
    (announceTrip n c s).frh.lineState = s.frh.lineState ∧
    (announceTrip n c s).frh.joinTimer = s.frh.joinTimer ∧
    (announceTrip n c s).frh.nextSeq = s.frh.nextSeq ∧
    (announceTrip n c s).frh.outbox.trip = s.frh.outbox.trip ∧
    (announceTrip n c s).frh.outbox.clear = s.frh.outbox.clear ∧
    (announceTrip n c s).frh.outbox.replies = s.frh.outbox.replies ∧
    (announceTrip n c s).frh.outbox.restAsk = s.frh.outbox.restAsk ∧
    (announceTrip n c s).frh.outbox.demand = s.frh.outbox.demand ∧
    (announceTrip n c s).frh.inFlight = s.frh.inFlight ∧
    (announceTrip n c s).frh.lastDemand = s.frh.lastDemand ∧
    (announceTrip n c s).frh.notice = s.frh.notice ∧
    (announceTrip n c s).pvw = s.pvw ∧
    (announceTrip n c s).msu.gathered = s.msu.gathered ∧
    (announceTrip n c s).msu.idleReached = s.msu.idleReached ∧
    (announceTrip n c s).msu.awaitHigh = s.msu.awaitHigh ∧
    (announceTrip n c s).msu.rejected = s.msu.rejected ∧
    (announceTrip n c s).msu.lastRejection = s.msu.lastRejection ∧
    (announceTrip n c s).msu.latches = s.msu.latches ∧
    (announceTrip n c s).msu.windows = s.msu.windows ∧
    (announceTrip n c s).dtu.normalTarget = s.dtu.normalTarget ∧
    (announceTrip n c s).dtu.pendingTrip = s.dtu.pendingTrip ∧
    (announceTrip n c s).dtu.duty = s.dtu.duty ∧
    (announceTrip n c s).dtu.runReq = s.dtu.runReq ∧
    (announceTrip n c s).dtu.runAck = s.dtu.runAck ∧
    (announceTrip n c s).dtu.startTimer = s.dtu.startTimer ∧
    (announceTrip n c s).dtu.warmTimer = s.dtu.warmTimer ∧
    (announceTrip n c s).dtu.stopTimer = s.dtu.stopTimer ∧
    (announceTrip n c s).rng = s.rng ∧
    (announceTrip n c s).srg = s.srg ∧
    (announceTrip n c s).xcp = s.xcp ∧
    (announceTrip n c s).evu.refreshCount = s.evu.refreshCount ∧
    (announceTrip n c s).pnp = s.pnp ∧
    (announceTrip n c s).pending = s.pending := by
  simp only [announceTrip]
  repeat' split
  all_goals simp


/-- What `removeTrip` leaves as it stands. -/
@[simp] theorem removeTrip_keeps (n d : Nat) (s : State) :
    (removeTrip n d s).pins = s.pins ∧
    (removeTrip n d s).stl = s.stl ∧
    (removeTrip n d s).settings = s.settings ∧
    (removeTrip n d s).lif.quiet = s.lif.quiet ∧
    (removeTrip n d s).lif.rx = s.lif.rx ∧
    (removeTrip n d s).lif.leadFrom = s.lif.leadFrom ∧
    (removeTrip n d s).lif.cells = s.lif.cells ∧
    (removeTrip n d s).lif.report = s.lif.report ∧
    (removeTrip n d s).lif.rxHeader = s.lif.rxHeader ∧
    (removeTrip n d s).lif.rxStartedSending = s.lif.rxStartedSending ∧
    (removeTrip n d s).frh.lineState = s.frh.lineState ∧
    (removeTrip n d s).frh.joinTimer = s.frh.joinTimer ∧
    (removeTrip n d s).frh.nextSeq = s.frh.nextSeq ∧
    (removeTrip n d s).frh.outbox.trip = s.frh.outbox.trip ∧
    (removeTrip n d s).frh.outbox.clear = s.frh.outbox.clear ∧
    (removeTrip n d s).frh.outbox.replies = s.frh.outbox.replies ∧
    (removeTrip n d s).frh.outbox.restAsk = s.frh.outbox.restAsk ∧
    (removeTrip n d s).frh.outbox.demand = s.frh.outbox.demand ∧
    (removeTrip n d s).frh.inFlight = s.frh.inFlight ∧
    (removeTrip n d s).frh.lastDemand = s.frh.lastDemand ∧
    (removeTrip n d s).frh.notice = s.frh.notice ∧
    (removeTrip n d s).pvw = s.pvw ∧
    (removeTrip n d s).msu.gathered = s.msu.gathered ∧
    (removeTrip n d s).msu.idleReached = s.msu.idleReached ∧
    (removeTrip n d s).msu.awaitHigh = s.msu.awaitHigh ∧
    (removeTrip n d s).msu.rejected = s.msu.rejected ∧
    (removeTrip n d s).msu.lastRejection = s.msu.lastRejection ∧
    (removeTrip n d s).msu.latches = s.msu.latches ∧
    (removeTrip n d s).msu.windows = s.msu.windows ∧
    (removeTrip n d s).dtu.normalTarget = s.dtu.normalTarget ∧
    (removeTrip n d s).dtu.setpoint = s.dtu.setpoint ∧
    (removeTrip n d s).dtu.pendingTrip = s.dtu.pendingTrip ∧
    (removeTrip n d s).dtu.duty = s.dtu.duty ∧
    (removeTrip n d s).dtu.runReq = s.dtu.runReq ∧
    (removeTrip n d s).dtu.runAck = s.dtu.runAck ∧
    (removeTrip n d s).dtu.startTimer = s.dtu.startTimer ∧
    (removeTrip n d s).dtu.warmTimer = s.dtu.warmTimer ∧
    (removeTrip n d s).dtu.stopTimer = s.dtu.stopTimer ∧
    (removeTrip n d s).dtu.setpt = s.dtu.setpt ∧
    (removeTrip n d s).rng = s.rng ∧
    (removeTrip n d s).srg = s.srg ∧
    (removeTrip n d s).xcp = s.xcp ∧
    (removeTrip n d s).evu.refreshCount = s.evu.refreshCount ∧
    (removeTrip n d s).pnp = s.pnp ∧
    (removeTrip n d s).pending = s.pending := by
  simp only [removeTrip]
  repeat' split
  all_goals simp


/-- What `earlyNotice` leaves as it stands. -/
@[simp] theorem earlyNotice_keeps (n : Nat) (s : State) :
    (earlyNotice n s).pins = s.pins ∧
    (earlyNotice n s).stl = s.stl ∧
    (earlyNotice n s).settings = s.settings ∧
    (earlyNotice n s).lif = s.lif ∧
    (earlyNotice n s).frh = s.frh ∧
    (earlyNotice n s).pvw = s.pvw ∧
    (earlyNotice n s).msu = s.msu ∧
    (earlyNotice n s).dtu.derateTotal = s.dtu.derateTotal ∧
    (earlyNotice n s).dtu.quietCount = s.dtu.quietCount ∧
    (earlyNotice n s).dtu.normalTarget = s.dtu.normalTarget ∧
    (earlyNotice n s).dtu.tripSet = s.dtu.tripSet ∧
    (earlyNotice n s).dtu.duty = s.dtu.duty ∧
    (earlyNotice n s).dtu.runReq = s.dtu.runReq ∧
    (earlyNotice n s).dtu.runAck = s.dtu.runAck ∧
    (earlyNotice n s).dtu.startTimer = s.dtu.startTimer ∧
    (earlyNotice n s).dtu.warmTimer = s.dtu.warmTimer ∧
    (earlyNotice n s).dtu.stopTimer = s.dtu.stopTimer ∧
    (earlyNotice n s).rng = s.rng ∧
    (earlyNotice n s).srg = s.srg ∧
    (earlyNotice n s).xcp = s.xcp ∧
    (earlyNotice n s).evu = s.evu ∧
    (earlyNotice n s).pnp = s.pnp ∧
    (earlyNotice n s).pending = s.pending := by
  simp only [earlyNotice]
  repeat' split
  all_goals simp


/-- What `withdrawTrip` leaves as it stands. -/
@[simp] theorem withdrawTrip_keeps (n d : Nat) (s : State) :
    (withdrawTrip n d s).pins = s.pins ∧
    (withdrawTrip n d s).stl = s.stl ∧
    (withdrawTrip n d s).settings = s.settings ∧
    (withdrawTrip n d s).lif.quiet = s.lif.quiet ∧
    (withdrawTrip n d s).lif.rx = s.lif.rx ∧
    (withdrawTrip n d s).lif.leadFrom = s.lif.leadFrom ∧
    (withdrawTrip n d s).lif.cells = s.lif.cells ∧
    (withdrawTrip n d s).lif.report = s.lif.report ∧
    (withdrawTrip n d s).lif.rxHeader = s.lif.rxHeader ∧
    (withdrawTrip n d s).lif.rxStartedSending = s.lif.rxStartedSending ∧
    (withdrawTrip n d s).frh.lineState = s.frh.lineState ∧
    (withdrawTrip n d s).frh.joinTimer = s.frh.joinTimer ∧
    (withdrawTrip n d s).frh.nextSeq = s.frh.nextSeq ∧
    (withdrawTrip n d s).frh.outbox.trip = s.frh.outbox.trip ∧
    (withdrawTrip n d s).frh.outbox.clear = s.frh.outbox.clear ∧
    (withdrawTrip n d s).frh.outbox.replies = s.frh.outbox.replies ∧
    (withdrawTrip n d s).frh.outbox.restAsk = s.frh.outbox.restAsk ∧
    (withdrawTrip n d s).frh.outbox.demand = s.frh.outbox.demand ∧
    (withdrawTrip n d s).frh.inFlight = s.frh.inFlight ∧
    (withdrawTrip n d s).frh.lastDemand = s.frh.lastDemand ∧
    (withdrawTrip n d s).frh.notice = s.frh.notice ∧
    (withdrawTrip n d s).pvw = s.pvw ∧
    (withdrawTrip n d s).msu.gathered = s.msu.gathered ∧
    (withdrawTrip n d s).msu.idleReached = s.msu.idleReached ∧
    (withdrawTrip n d s).msu.awaitHigh = s.msu.awaitHigh ∧
    (withdrawTrip n d s).msu.rejected = s.msu.rejected ∧
    (withdrawTrip n d s).msu.lastRejection = s.msu.lastRejection ∧
    (withdrawTrip n d s).msu.latches = s.msu.latches ∧
    (withdrawTrip n d s).msu.windows = s.msu.windows ∧
    (withdrawTrip n d s).dtu.normalTarget = s.dtu.normalTarget ∧
    (withdrawTrip n d s).dtu.setpoint = s.dtu.setpoint ∧
    (withdrawTrip n d s).dtu.tripSet = s.dtu.tripSet ∧
    (withdrawTrip n d s).dtu.duty = s.dtu.duty ∧
    (withdrawTrip n d s).dtu.runReq = s.dtu.runReq ∧
    (withdrawTrip n d s).dtu.runAck = s.dtu.runAck ∧
    (withdrawTrip n d s).dtu.startTimer = s.dtu.startTimer ∧
    (withdrawTrip n d s).dtu.warmTimer = s.dtu.warmTimer ∧
    (withdrawTrip n d s).dtu.stopTimer = s.dtu.stopTimer ∧
    (withdrawTrip n d s).dtu.setpt = s.dtu.setpt ∧
    (withdrawTrip n d s).rng = s.rng ∧
    (withdrawTrip n d s).srg = s.srg ∧
    (withdrawTrip n d s).xcp = s.xcp ∧
    (withdrawTrip n d s).evu.refreshCount = s.evu.refreshCount ∧
    (withdrawTrip n d s).pnp = s.pnp ∧
    (withdrawTrip n d s).pending = s.pending := by
  simp only [withdrawTrip]
  repeat' split
  all_goals simp


/-- What `completeTrip` leaves as it stands. -/
@[simp] theorem completeTrip_keeps (n : Nat) (s : State) :
    (completeTrip n s).pins = s.pins ∧
    (completeTrip n s).stl = s.stl ∧
    (completeTrip n s).settings = s.settings ∧
    (completeTrip n s).lif = s.lif ∧
    (completeTrip n s).frh = s.frh ∧
    (completeTrip n s).pvw = s.pvw ∧
    (completeTrip n s).msu = s.msu ∧
    (completeTrip n s).dtu.derateTotal = s.dtu.derateTotal ∧
    (completeTrip n s).dtu.quietCount = s.dtu.quietCount ∧
    (completeTrip n s).dtu.normalTarget = s.dtu.normalTarget ∧
    (completeTrip n s).dtu.target = s.dtu.target ∧
    (completeTrip n s).dtu.setpoint = s.dtu.setpoint ∧
    (completeTrip n s).dtu.tripSet = s.dtu.tripSet ∧
    (completeTrip n s).dtu.duty = s.dtu.duty ∧
    (completeTrip n s).dtu.runReq = s.dtu.runReq ∧
    (completeTrip n s).dtu.runAck = s.dtu.runAck ∧
    (completeTrip n s).dtu.startTimer = s.dtu.startTimer ∧
    (completeTrip n s).dtu.warmTimer = s.dtu.warmTimer ∧
    (completeTrip n s).dtu.stopTimer = s.dtu.stopTimer ∧
    (completeTrip n s).dtu.setpt = s.dtu.setpt ∧
    (completeTrip n s).rng = s.rng ∧
    (completeTrip n s).srg = s.srg ∧
    (completeTrip n s).xcp = s.xcp ∧
    (completeTrip n s).evu = s.evu ∧
    (completeTrip n s).pnp = s.pnp ∧
    (completeTrip n s).pending = s.pending := by
  simp only [completeTrip]
  repeat' split
  all_goals simp


end Sys2Proof.Machine
end

