-- ==== Sys2Proof/Laws/Rest.lean ====
section
/-! SUPPORT. What each operation of Machine/Rest.lean and Machine/PeerView.lean leaves as it stands. -/

namespace Sys2Proof.Machine

/-- What `reportRefusal` leaves as it stands. -/
@[simp] theorem reportRefusal_keeps (s : State) :
    (reportRefusal s).pins = s.pins ∧
    (reportRefusal s).stl = s.stl ∧
    (reportRefusal s).settings = s.settings ∧
    (reportRefusal s).lif.quiet = s.lif.quiet ∧
    (reportRefusal s).lif.rx = s.lif.rx ∧
    (reportRefusal s).lif.leadFrom = s.lif.leadFrom ∧
    (reportRefusal s).lif.cells = s.lif.cells ∧
    (reportRefusal s).lif.report = s.lif.report ∧
    (reportRefusal s).lif.rxHeader = s.lif.rxHeader ∧
    (reportRefusal s).lif.rxStartedSending = s.lif.rxStartedSending ∧
    (reportRefusal s).frh.lineState = s.frh.lineState ∧
    (reportRefusal s).frh.joinTimer = s.frh.joinTimer ∧
    (reportRefusal s).frh.nextSeq = s.frh.nextSeq ∧
    (reportRefusal s).frh.outbox.trip = s.frh.outbox.trip ∧
    (reportRefusal s).frh.outbox.clear = s.frh.outbox.clear ∧
    (reportRefusal s).frh.outbox.replies = s.frh.outbox.replies ∧
    (reportRefusal s).frh.outbox.restAsk = s.frh.outbox.restAsk ∧
    (reportRefusal s).frh.outbox.demand = s.frh.outbox.demand ∧
    (reportRefusal s).frh.inFlight = s.frh.inFlight ∧
    (reportRefusal s).frh.lastDemand = s.frh.lastDemand ∧
    (reportRefusal s).frh.notice = s.frh.notice ∧
    (reportRefusal s).pvw = s.pvw ∧
    (reportRefusal s).msu.gathered = s.msu.gathered ∧
    (reportRefusal s).msu.idleReached = s.msu.idleReached ∧
    (reportRefusal s).msu.awaitHigh = s.msu.awaitHigh ∧
    (reportRefusal s).msu.rejected = s.msu.rejected ∧
    (reportRefusal s).msu.lastRejection = s.msu.lastRejection ∧
    (reportRefusal s).msu.latches = s.msu.latches ∧
    (reportRefusal s).msu.windows = s.msu.windows ∧
    (reportRefusal s).dtu.tripSet = s.dtu.tripSet ∧
    (reportRefusal s).dtu.pendingTrip = s.dtu.pendingTrip ∧
    (reportRefusal s).dtu.runAck = s.dtu.runAck ∧
    (reportRefusal s).rng.grants = s.rng.grants ∧
    (reportRefusal s).srg = s.srg ∧
    (reportRefusal s).xcp = s.xcp ∧
    (reportRefusal s).evu.refreshCount = s.evu.refreshCount ∧
    (reportRefusal s).pnp = s.pnp ∧
    (reportRefusal s).pending = s.pending := by
  simp only [reportRefusal]
  repeat' split
  all_goals simp


/-- What `reportAgreement` leaves as it stands. -/
@[simp] theorem reportAgreement_keeps (s : State) :
    (reportAgreement s).pins = s.pins ∧
    (reportAgreement s).stl = s.stl ∧
    (reportAgreement s).settings = s.settings ∧
    (reportAgreement s).lif.quiet = s.lif.quiet ∧
    (reportAgreement s).lif.rx = s.lif.rx ∧
    (reportAgreement s).lif.leadFrom = s.lif.leadFrom ∧
    (reportAgreement s).lif.cells = s.lif.cells ∧
    (reportAgreement s).lif.report = s.lif.report ∧
    (reportAgreement s).lif.rxHeader = s.lif.rxHeader ∧
    (reportAgreement s).lif.rxStartedSending = s.lif.rxStartedSending ∧
    (reportAgreement s).frh.lineState = s.frh.lineState ∧
    (reportAgreement s).frh.joinTimer = s.frh.joinTimer ∧
    (reportAgreement s).frh.nextSeq = s.frh.nextSeq ∧
    (reportAgreement s).frh.outbox.trip = s.frh.outbox.trip ∧
    (reportAgreement s).frh.outbox.clear = s.frh.outbox.clear ∧
    (reportAgreement s).frh.outbox.replies = s.frh.outbox.replies ∧
    (reportAgreement s).frh.outbox.restAsk = s.frh.outbox.restAsk ∧
    (reportAgreement s).frh.outbox.demand = s.frh.outbox.demand ∧
    (reportAgreement s).frh.inFlight = s.frh.inFlight ∧
    (reportAgreement s).frh.lastDemand = s.frh.lastDemand ∧
    (reportAgreement s).frh.notice = s.frh.notice ∧
    (reportAgreement s).pvw = s.pvw ∧
    (reportAgreement s).msu.gathered = s.msu.gathered ∧
    (reportAgreement s).msu.idleReached = s.msu.idleReached ∧
    (reportAgreement s).msu.awaitHigh = s.msu.awaitHigh ∧
    (reportAgreement s).msu.rejected = s.msu.rejected ∧
    (reportAgreement s).msu.lastRejection = s.msu.lastRejection ∧
    (reportAgreement s).msu.latches = s.msu.latches ∧
    (reportAgreement s).msu.windows = s.msu.windows ∧
    (reportAgreement s).dtu.tripSet = s.dtu.tripSet ∧
    (reportAgreement s).dtu.pendingTrip = s.dtu.pendingTrip ∧
    (reportAgreement s).dtu.runAck = s.dtu.runAck ∧
    (reportAgreement s).rng.grants = s.rng.grants ∧
    (reportAgreement s).srg = s.srg ∧
    (reportAgreement s).xcp = s.xcp ∧
    (reportAgreement s).evu.refreshCount = s.evu.refreshCount ∧
    (reportAgreement s).pnp = s.pnp ∧
    (reportAgreement s).pending = s.pending := by
  simp only [reportAgreement]
  repeat' split
  all_goals simp


/-- What `refuseAsk` leaves as it stands. -/
@[simp] theorem refuseAsk_keeps (n : Option Nat) (d : Nat) (s : State) :
    (refuseAsk n d s).pins = s.pins ∧
    (refuseAsk n d s).stl = s.stl ∧
    (refuseAsk n d s).settings = s.settings ∧
    (refuseAsk n d s).lif.quiet = s.lif.quiet ∧
    (refuseAsk n d s).lif.rx = s.lif.rx ∧
    (refuseAsk n d s).lif.leadFrom = s.lif.leadFrom ∧
    (refuseAsk n d s).lif.cells = s.lif.cells ∧
    (refuseAsk n d s).lif.report = s.lif.report ∧
    (refuseAsk n d s).lif.rxHeader = s.lif.rxHeader ∧
    (refuseAsk n d s).lif.rxStartedSending = s.lif.rxStartedSending ∧
    (refuseAsk n d s).frh.lineState = s.frh.lineState ∧
    (refuseAsk n d s).frh.joinTimer = s.frh.joinTimer ∧
    (refuseAsk n d s).frh.nextSeq = s.frh.nextSeq ∧
    (refuseAsk n d s).frh.outbox.trip = s.frh.outbox.trip ∧
    (refuseAsk n d s).frh.outbox.clear = s.frh.outbox.clear ∧
    (refuseAsk n d s).frh.outbox.replies = s.frh.outbox.replies ∧
    (refuseAsk n d s).frh.outbox.restAsk = s.frh.outbox.restAsk ∧
    (refuseAsk n d s).frh.outbox.demand = s.frh.outbox.demand ∧
    (refuseAsk n d s).frh.inFlight = s.frh.inFlight ∧
    (refuseAsk n d s).frh.lastDemand = s.frh.lastDemand ∧
    (refuseAsk n d s).frh.notice = s.frh.notice ∧
    (refuseAsk n d s).pvw = s.pvw ∧
    (refuseAsk n d s).msu.gathered = s.msu.gathered ∧
    (refuseAsk n d s).msu.idleReached = s.msu.idleReached ∧
    (refuseAsk n d s).msu.awaitHigh = s.msu.awaitHigh ∧
    (refuseAsk n d s).msu.rejected = s.msu.rejected ∧
    (refuseAsk n d s).msu.lastRejection = s.msu.lastRejection ∧
    (refuseAsk n d s).msu.latches = s.msu.latches ∧
    (refuseAsk n d s).msu.windows = s.msu.windows ∧
    (refuseAsk n d s).dtu.tripSet = s.dtu.tripSet ∧
    (refuseAsk n d s).dtu.pendingTrip = s.dtu.pendingTrip ∧
    (refuseAsk n d s).dtu.runAck = s.dtu.runAck ∧
    (refuseAsk n d s).rng.grants = s.rng.grants ∧
    (refuseAsk n d s).srg = s.srg ∧
    (refuseAsk n d s).xcp = s.xcp ∧
    (refuseAsk n d s).evu.refreshCount = s.evu.refreshCount ∧
    (refuseAsk n d s).pnp = s.pnp ∧
    (refuseAsk n d s).pending = s.pending := by
  simp [refuseAsk]


/-- What `agreeAsk` leaves as it stands. -/
@[simp] theorem agreeAsk_keeps (n : Nat) (s : State) :
    (agreeAsk n s).pins = s.pins ∧
    (agreeAsk n s).stl = s.stl ∧
    (agreeAsk n s).settings = s.settings ∧
    (agreeAsk n s).lif.quiet = s.lif.quiet ∧
    (agreeAsk n s).lif.rx = s.lif.rx ∧
    (agreeAsk n s).lif.leadFrom = s.lif.leadFrom ∧
    (agreeAsk n s).lif.cells = s.lif.cells ∧
    (agreeAsk n s).lif.report = s.lif.report ∧
    (agreeAsk n s).lif.rxHeader = s.lif.rxHeader ∧
    (agreeAsk n s).lif.rxStartedSending = s.lif.rxStartedSending ∧
    (agreeAsk n s).frh.lineState = s.frh.lineState ∧
    (agreeAsk n s).frh.joinTimer = s.frh.joinTimer ∧
    (agreeAsk n s).frh.nextSeq = s.frh.nextSeq ∧
    (agreeAsk n s).frh.outbox.trip = s.frh.outbox.trip ∧
    (agreeAsk n s).frh.outbox.clear = s.frh.outbox.clear ∧
    (agreeAsk n s).frh.outbox.replies = s.frh.outbox.replies ∧
    (agreeAsk n s).frh.outbox.restAsk = s.frh.outbox.restAsk ∧
    (agreeAsk n s).frh.outbox.demand = s.frh.outbox.demand ∧
    (agreeAsk n s).frh.inFlight = s.frh.inFlight ∧
    (agreeAsk n s).frh.lastDemand = s.frh.lastDemand ∧
    (agreeAsk n s).frh.notice = s.frh.notice ∧
    (agreeAsk n s).pvw = s.pvw ∧
    (agreeAsk n s).msu.gathered = s.msu.gathered ∧
    (agreeAsk n s).msu.idleReached = s.msu.idleReached ∧
    (agreeAsk n s).msu.awaitHigh = s.msu.awaitHigh ∧
    (agreeAsk n s).msu.rejected = s.msu.rejected ∧
    (agreeAsk n s).msu.lastRejection = s.msu.lastRejection ∧
    (agreeAsk n s).msu.latches = s.msu.latches ∧
    (agreeAsk n s).msu.windows = s.msu.windows ∧
    (agreeAsk n s).dtu.tripSet = s.dtu.tripSet ∧
    (agreeAsk n s).dtu.pendingTrip = s.dtu.pendingTrip ∧
    (agreeAsk n s).dtu.runAck = s.dtu.runAck ∧
    (agreeAsk n s).rng.grants = s.rng.grants ∧
    (agreeAsk n s).srg = s.srg ∧
    (agreeAsk n s).xcp = s.xcp ∧
    (agreeAsk n s).evu.refreshCount = s.evu.refreshCount ∧
    (agreeAsk n s).pnp = s.pnp ∧
    (agreeAsk n s).pending = s.pending := by
  simp [agreeAsk]


/-- What `dropAsk` leaves as it stands. -/
@[simp] theorem dropAsk_keeps (s : State) :
    (dropAsk s).pins = s.pins ∧
    (dropAsk s).stl = s.stl ∧
    (dropAsk s).settings = s.settings ∧
    (dropAsk s).lif.quiet = s.lif.quiet ∧
    (dropAsk s).lif.rx = s.lif.rx ∧
    (dropAsk s).lif.leadFrom = s.lif.leadFrom ∧
    (dropAsk s).lif.cells = s.lif.cells ∧
    (dropAsk s).lif.report = s.lif.report ∧
    (dropAsk s).lif.rxHeader = s.lif.rxHeader ∧
    (dropAsk s).lif.rxStartedSending = s.lif.rxStartedSending ∧
    (dropAsk s).frh.lineState = s.frh.lineState ∧
    (dropAsk s).frh.joinTimer = s.frh.joinTimer ∧
    (dropAsk s).frh.nextSeq = s.frh.nextSeq ∧
    (dropAsk s).frh.outbox.trip = s.frh.outbox.trip ∧
    (dropAsk s).frh.outbox.clear = s.frh.outbox.clear ∧
    (dropAsk s).frh.outbox.replies = s.frh.outbox.replies ∧
    (dropAsk s).frh.outbox.restAsk = s.frh.outbox.restAsk ∧
    (dropAsk s).frh.outbox.demand = s.frh.outbox.demand ∧
    (dropAsk s).frh.inFlight = s.frh.inFlight ∧
    (dropAsk s).frh.lastDemand = s.frh.lastDemand ∧
    (dropAsk s).frh.notice = s.frh.notice ∧
    (dropAsk s).pvw = s.pvw ∧
    (dropAsk s).msu.gathered = s.msu.gathered ∧
    (dropAsk s).msu.idleReached = s.msu.idleReached ∧
    (dropAsk s).msu.awaitHigh = s.msu.awaitHigh ∧
    (dropAsk s).msu.rejected = s.msu.rejected ∧
    (dropAsk s).msu.lastRejection = s.msu.lastRejection ∧
    (dropAsk s).msu.latches = s.msu.latches ∧
    (dropAsk s).msu.windows = s.msu.windows ∧
    (dropAsk s).dtu.tripSet = s.dtu.tripSet ∧
    (dropAsk s).dtu.pendingTrip = s.dtu.pendingTrip ∧
    (dropAsk s).dtu.runAck = s.dtu.runAck ∧
    (dropAsk s).rng.grants = s.rng.grants ∧
    (dropAsk s).srg = s.srg ∧
    (dropAsk s).xcp = s.xcp ∧
    (dropAsk s).evu.refreshCount = s.evu.refreshCount ∧
    (dropAsk s).pnp = s.pnp ∧
    (dropAsk s).pending = s.pending := by
  simp [dropAsk]


/-- What `reportDropped` leaves as it stands. -/
@[simp] theorem reportDropped_keeps (q : Option Octet) (s : State) :
    (reportDropped q s).pins = s.pins ∧
    (reportDropped q s).stl = s.stl ∧
    (reportDropped q s).settings = s.settings ∧
    (reportDropped q s).lif.quiet = s.lif.quiet ∧
    (reportDropped q s).lif.rx = s.lif.rx ∧
    (reportDropped q s).lif.leadFrom = s.lif.leadFrom ∧
    (reportDropped q s).lif.cells = s.lif.cells ∧
    (reportDropped q s).lif.report = s.lif.report ∧
    (reportDropped q s).lif.rxHeader = s.lif.rxHeader ∧
    (reportDropped q s).lif.rxStartedSending = s.lif.rxStartedSending ∧
    (reportDropped q s).frh.lineState = s.frh.lineState ∧
    (reportDropped q s).frh.joinTimer = s.frh.joinTimer ∧
    (reportDropped q s).frh.nextSeq = s.frh.nextSeq ∧
    (reportDropped q s).frh.outbox.trip = s.frh.outbox.trip ∧
    (reportDropped q s).frh.outbox.clear = s.frh.outbox.clear ∧
    (reportDropped q s).frh.outbox.replies = s.frh.outbox.replies ∧
    (reportDropped q s).frh.outbox.restAsk = s.frh.outbox.restAsk ∧
    (reportDropped q s).frh.outbox.demand = s.frh.outbox.demand ∧
    (reportDropped q s).frh.inFlight = s.frh.inFlight ∧
    (reportDropped q s).frh.lastDemand = s.frh.lastDemand ∧
    (reportDropped q s).frh.notice = s.frh.notice ∧
    (reportDropped q s).pvw = s.pvw ∧
    (reportDropped q s).msu.gathered = s.msu.gathered ∧
    (reportDropped q s).msu.idleReached = s.msu.idleReached ∧
    (reportDropped q s).msu.awaitHigh = s.msu.awaitHigh ∧
    (reportDropped q s).msu.rejected = s.msu.rejected ∧
    (reportDropped q s).msu.lastRejection = s.msu.lastRejection ∧
    (reportDropped q s).msu.latches = s.msu.latches ∧
    (reportDropped q s).msu.windows = s.msu.windows ∧
    (reportDropped q s).dtu.tripSet = s.dtu.tripSet ∧
    (reportDropped q s).dtu.pendingTrip = s.dtu.pendingTrip ∧
    (reportDropped q s).dtu.runAck = s.dtu.runAck ∧
    (reportDropped q s).rng.grants = s.rng.grants ∧
    (reportDropped q s).srg = s.srg ∧
    (reportDropped q s).xcp = s.xcp ∧
    (reportDropped q s).evu.refreshCount = s.evu.refreshCount ∧
    (reportDropped q s).pnp = s.pnp ∧
    (reportDropped q s).pending = s.pending := by
  simp only [reportDropped]
  repeat' split
  all_goals simp


/-- What `reportNumber` leaves as it stands. -/
@[simp] theorem reportNumber_keeps (q : Octet) (s : State) :
    (reportNumber q s).pins = s.pins ∧
    (reportNumber q s).stl = s.stl ∧
    (reportNumber q s).settings = s.settings ∧
    (reportNumber q s).lif = s.lif ∧
    (reportNumber q s).frh = s.frh ∧
    (reportNumber q s).pvw = s.pvw ∧
    (reportNumber q s).msu = s.msu ∧
    (reportNumber q s).dtu = s.dtu ∧
    (reportNumber q s).rng.grants = s.rng.grants ∧
    (reportNumber q s).rng.holdOff = s.rng.holdOff ∧
    (reportNumber q s).srg = s.srg ∧
    (reportNumber q s).xcp = s.xcp ∧
    (reportNumber q s).evu = s.evu ∧
    (reportNumber q s).pnp = s.pnp ∧
    (reportNumber q s).pending = s.pending := by
  simp only [reportNumber]
  repeat' split
  all_goals simp


/-- What `enterAskFrame` leaves as it stands. -/
@[simp] theorem enterAskFrame_keeps (s : State) :
    (enterAskFrame s).pins = s.pins ∧
    (enterAskFrame s).stl = s.stl ∧
    (enterAskFrame s).settings = s.settings ∧
    (enterAskFrame s).lif.quiet = s.lif.quiet ∧
    (enterAskFrame s).lif.rx = s.lif.rx ∧
    (enterAskFrame s).lif.leadFrom = s.lif.leadFrom ∧
    (enterAskFrame s).lif.cells = s.lif.cells ∧
    (enterAskFrame s).lif.report = s.lif.report ∧
    (enterAskFrame s).lif.rxHeader = s.lif.rxHeader ∧
    (enterAskFrame s).lif.rxStartedSending = s.lif.rxStartedSending ∧
    (enterAskFrame s).frh.lineState = s.frh.lineState ∧
    (enterAskFrame s).frh.joinTimer = s.frh.joinTimer ∧
    (enterAskFrame s).frh.nextSeq = s.frh.nextSeq ∧
    (enterAskFrame s).frh.outbox.trip = s.frh.outbox.trip ∧
    (enterAskFrame s).frh.outbox.clear = s.frh.outbox.clear ∧
    (enterAskFrame s).frh.outbox.replies = s.frh.outbox.replies ∧
    (enterAskFrame s).frh.outbox.demand = s.frh.outbox.demand ∧
    (enterAskFrame s).frh.inFlight = s.frh.inFlight ∧
    (enterAskFrame s).frh.lastDemand = s.frh.lastDemand ∧
    (enterAskFrame s).frh.notice = s.frh.notice ∧
    (enterAskFrame s).pvw = s.pvw ∧
    (enterAskFrame s).msu.gathered = s.msu.gathered ∧
    (enterAskFrame s).msu.idleReached = s.msu.idleReached ∧
    (enterAskFrame s).msu.awaitHigh = s.msu.awaitHigh ∧
    (enterAskFrame s).msu.rejected = s.msu.rejected ∧
    (enterAskFrame s).msu.lastRejection = s.msu.lastRejection ∧
    (enterAskFrame s).msu.latches = s.msu.latches ∧
    (enterAskFrame s).msu.windows = s.msu.windows ∧
    (enterAskFrame s).dtu.tripSet = s.dtu.tripSet ∧
    (enterAskFrame s).dtu.pendingTrip = s.dtu.pendingTrip ∧
    (enterAskFrame s).dtu.runAck = s.dtu.runAck ∧
    (enterAskFrame s).rng.grants = s.rng.grants ∧
    (enterAskFrame s).srg = s.srg ∧
    (enterAskFrame s).xcp = s.xcp ∧
    (enterAskFrame s).evu.refreshCount = s.evu.refreshCount ∧
    (enterAskFrame s).pnp = s.pnp ∧
    (enterAskFrame s).pending = s.pending := by
  simp only [enterAskFrame]
  repeat' split
  all_goals simp


/-- What `enterAsking` leaves as it stands. -/
@[simp] theorem enterAsking_keeps (s : State) :
    (enterAsking s).pins = s.pins ∧
    (enterAsking s).stl = s.stl ∧
    (enterAsking s).settings = s.settings ∧
    (enterAsking s).lif.quiet = s.lif.quiet ∧
    (enterAsking s).lif.rx = s.lif.rx ∧
    (enterAsking s).lif.leadFrom = s.lif.leadFrom ∧
    (enterAsking s).lif.cells = s.lif.cells ∧
    (enterAsking s).lif.report = s.lif.report ∧
    (enterAsking s).lif.rxHeader = s.lif.rxHeader ∧
    (enterAsking s).lif.rxStartedSending = s.lif.rxStartedSending ∧
    (enterAsking s).frh.lineState = s.frh.lineState ∧
    (enterAsking s).frh.joinTimer = s.frh.joinTimer ∧
    (enterAsking s).frh.nextSeq = s.frh.nextSeq ∧
    (enterAsking s).frh.outbox.trip = s.frh.outbox.trip ∧
    (enterAsking s).frh.outbox.clear = s.frh.outbox.clear ∧
    (enterAsking s).frh.outbox.replies = s.frh.outbox.replies ∧
    (enterAsking s).frh.outbox.demand = s.frh.outbox.demand ∧
    (enterAsking s).frh.inFlight = s.frh.inFlight ∧
    (enterAsking s).frh.lastDemand = s.frh.lastDemand ∧
    (enterAsking s).frh.notice = s.frh.notice ∧
    (enterAsking s).pvw = s.pvw ∧
    (enterAsking s).msu.gathered = s.msu.gathered ∧
    (enterAsking s).msu.idleReached = s.msu.idleReached ∧
    (enterAsking s).msu.awaitHigh = s.msu.awaitHigh ∧
    (enterAsking s).msu.rejected = s.msu.rejected ∧
    (enterAsking s).msu.lastRejection = s.msu.lastRejection ∧
    (enterAsking s).msu.latches = s.msu.latches ∧
    (enterAsking s).msu.windows = s.msu.windows ∧
    (enterAsking s).dtu.tripSet = s.dtu.tripSet ∧
    (enterAsking s).dtu.pendingTrip = s.dtu.pendingTrip ∧
    (enterAsking s).dtu.runAck = s.dtu.runAck ∧
    (enterAsking s).rng.grants = s.rng.grants ∧
    (enterAsking s).srg = s.srg ∧
    (enterAsking s).xcp = s.xcp ∧
    (enterAsking s).evu.refreshCount = s.evu.refreshCount ∧
    (enterAsking s).pnp = s.pnp ∧
    (enterAsking s).pending = s.pending := by
  simp [enterAsking]


/-- What `testRoll` leaves as it stands. -/
@[simp] theorem testRoll_keeps (s : State) :
    (testRoll s).pins = s.pins ∧
    (testRoll s).stl = s.stl ∧
    (testRoll s).settings = s.settings ∧
    (testRoll s).lif.quiet = s.lif.quiet ∧
    (testRoll s).lif.rx = s.lif.rx ∧
    (testRoll s).lif.leadFrom = s.lif.leadFrom ∧
    (testRoll s).lif.cells = s.lif.cells ∧
    (testRoll s).lif.report = s.lif.report ∧
    (testRoll s).lif.rxHeader = s.lif.rxHeader ∧
    (testRoll s).lif.rxStartedSending = s.lif.rxStartedSending ∧
    (testRoll s).frh.lineState = s.frh.lineState ∧
    (testRoll s).frh.joinTimer = s.frh.joinTimer ∧
    (testRoll s).frh.nextSeq = s.frh.nextSeq ∧
    (testRoll s).frh.outbox.trip = s.frh.outbox.trip ∧
    (testRoll s).frh.outbox.clear = s.frh.outbox.clear ∧
    (testRoll s).frh.outbox.replies = s.frh.outbox.replies ∧
    (testRoll s).frh.outbox.restAsk = s.frh.outbox.restAsk ∧
    (testRoll s).frh.outbox.demand = s.frh.outbox.demand ∧
    (testRoll s).frh.inFlight = s.frh.inFlight ∧
    (testRoll s).frh.lastDemand = s.frh.lastDemand ∧
    (testRoll s).frh.notice = s.frh.notice ∧
    (testRoll s).pvw = s.pvw ∧
    (testRoll s).msu.gathered = s.msu.gathered ∧
    (testRoll s).msu.idleReached = s.msu.idleReached ∧
    (testRoll s).msu.awaitHigh = s.msu.awaitHigh ∧
    (testRoll s).msu.rejected = s.msu.rejected ∧
    (testRoll s).msu.lastRejection = s.msu.lastRejection ∧
    (testRoll s).msu.latches = s.msu.latches ∧
    (testRoll s).msu.windows = s.msu.windows ∧
    (testRoll s).dtu.tripSet = s.dtu.tripSet ∧
    (testRoll s).dtu.pendingTrip = s.dtu.pendingTrip ∧
    (testRoll s).dtu.runAck = s.dtu.runAck ∧
    (testRoll s).rng.grants = s.rng.grants ∧
    (testRoll s).srg = s.srg ∧
    (testRoll s).xcp = s.xcp ∧
    (testRoll s).evu.refreshCount = s.evu.refreshCount ∧
    (testRoll s).pnp = s.pnp ∧
    (testRoll s).pending = s.pending := by
  simp only [testRoll]
  repeat' split
  all_goals simp


/-- What `ownEvaluation` leaves as it stands. -/
@[simp] theorem ownEvaluation_keeps (s : State) :
    (ownEvaluation s).pins = s.pins ∧
    (ownEvaluation s).stl = s.stl ∧
    (ownEvaluation s).settings = s.settings ∧
    (ownEvaluation s).lif.quiet = s.lif.quiet ∧
    (ownEvaluation s).lif.rx = s.lif.rx ∧
    (ownEvaluation s).lif.leadFrom = s.lif.leadFrom ∧
    (ownEvaluation s).lif.cells = s.lif.cells ∧
    (ownEvaluation s).lif.report = s.lif.report ∧
    (ownEvaluation s).lif.rxHeader = s.lif.rxHeader ∧
    (ownEvaluation s).lif.rxStartedSending = s.lif.rxStartedSending ∧
    (ownEvaluation s).frh.lineState = s.frh.lineState ∧
    (ownEvaluation s).frh.joinTimer = s.frh.joinTimer ∧
    (ownEvaluation s).frh.nextSeq = s.frh.nextSeq ∧
    (ownEvaluation s).frh.outbox.trip = s.frh.outbox.trip ∧
    (ownEvaluation s).frh.outbox.clear = s.frh.outbox.clear ∧
    (ownEvaluation s).frh.outbox.replies = s.frh.outbox.replies ∧
    (ownEvaluation s).frh.outbox.restAsk = s.frh.outbox.restAsk ∧
    (ownEvaluation s).frh.outbox.demand = s.frh.outbox.demand ∧
    (ownEvaluation s).frh.inFlight = s.frh.inFlight ∧
    (ownEvaluation s).frh.lastDemand = s.frh.lastDemand ∧
    (ownEvaluation s).frh.notice = s.frh.notice ∧
    (ownEvaluation s).pvw = s.pvw ∧
    (ownEvaluation s).msu.gathered = s.msu.gathered ∧
    (ownEvaluation s).msu.idleReached = s.msu.idleReached ∧
    (ownEvaluation s).msu.awaitHigh = s.msu.awaitHigh ∧
    (ownEvaluation s).msu.rejected = s.msu.rejected ∧
    (ownEvaluation s).msu.lastRejection = s.msu.lastRejection ∧
    (ownEvaluation s).msu.latches = s.msu.latches ∧
    (ownEvaluation s).msu.windows = s.msu.windows ∧
    (ownEvaluation s).dtu.tripSet = s.dtu.tripSet ∧
    (ownEvaluation s).dtu.pendingTrip = s.dtu.pendingTrip ∧
    (ownEvaluation s).dtu.runAck = s.dtu.runAck ∧
    (ownEvaluation s).rng.grants = s.rng.grants ∧
    (ownEvaluation s).srg = s.srg ∧
    (ownEvaluation s).xcp = s.xcp ∧
    (ownEvaluation s).evu.refreshCount = s.evu.refreshCount ∧
    (ownEvaluation s).pnp = s.pnp ∧
    (ownEvaluation s).pending = s.pending := by
  simp only [ownEvaluation]
  repeat' split
  all_goals simp


/-- What `decideRoll` leaves as it stands. -/
@[simp] theorem decideRoll_keeps (s : State) :
    (decideRoll s).pins = s.pins ∧
    (decideRoll s).stl = s.stl ∧
    (decideRoll s).settings = s.settings ∧
    (decideRoll s).lif.quiet = s.lif.quiet ∧
    (decideRoll s).lif.rx = s.lif.rx ∧
    (decideRoll s).lif.leadFrom = s.lif.leadFrom ∧
    (decideRoll s).lif.cells = s.lif.cells ∧
    (decideRoll s).lif.report = s.lif.report ∧
    (decideRoll s).lif.rxHeader = s.lif.rxHeader ∧
    (decideRoll s).lif.rxStartedSending = s.lif.rxStartedSending ∧
    (decideRoll s).frh.lineState = s.frh.lineState ∧
    (decideRoll s).frh.joinTimer = s.frh.joinTimer ∧
    (decideRoll s).frh.nextSeq = s.frh.nextSeq ∧
    (decideRoll s).frh.outbox.trip = s.frh.outbox.trip ∧
    (decideRoll s).frh.outbox.clear = s.frh.outbox.clear ∧
    (decideRoll s).frh.outbox.replies = s.frh.outbox.replies ∧
    (decideRoll s).frh.outbox.restAsk = s.frh.outbox.restAsk ∧
    (decideRoll s).frh.outbox.demand = s.frh.outbox.demand ∧
    (decideRoll s).frh.inFlight = s.frh.inFlight ∧
    (decideRoll s).frh.lastDemand = s.frh.lastDemand ∧
    (decideRoll s).frh.notice = s.frh.notice ∧
    (decideRoll s).pvw = s.pvw ∧
    (decideRoll s).msu.gathered = s.msu.gathered ∧
    (decideRoll s).msu.idleReached = s.msu.idleReached ∧
    (decideRoll s).msu.awaitHigh = s.msu.awaitHigh ∧
    (decideRoll s).msu.rejected = s.msu.rejected ∧
    (decideRoll s).msu.lastRejection = s.msu.lastRejection ∧
    (decideRoll s).msu.latches = s.msu.latches ∧
    (decideRoll s).msu.windows = s.msu.windows ∧
    (decideRoll s).dtu.tripSet = s.dtu.tripSet ∧
    (decideRoll s).dtu.pendingTrip = s.dtu.pendingTrip ∧
    (decideRoll s).dtu.runAck = s.dtu.runAck ∧
    (decideRoll s).rng.grants = s.rng.grants ∧
    (decideRoll s).srg = s.srg ∧
    (decideRoll s).xcp = s.xcp ∧
    (decideRoll s).evu.refreshCount = s.evu.refreshCount ∧
    (decideRoll s).pnp = s.pnp ∧
    (decideRoll s).pending = s.pending := by
  simp only [decideRoll]
  repeat' split
  all_goals simp


/-- What `reportSent` leaves as it stands. -/
@[simp] theorem reportSent_keeps (q : Octet) (s : State) :
    (reportSent q s).pins = s.pins ∧
    (reportSent q s).stl = s.stl ∧
    (reportSent q s).settings = s.settings ∧
    (reportSent q s).lif.quiet = s.lif.quiet ∧
    (reportSent q s).lif.rx = s.lif.rx ∧
    (reportSent q s).lif.leadFrom = s.lif.leadFrom ∧
    (reportSent q s).lif.cells = s.lif.cells ∧
    (reportSent q s).lif.report = s.lif.report ∧
    (reportSent q s).lif.rxHeader = s.lif.rxHeader ∧
    (reportSent q s).lif.rxStartedSending = s.lif.rxStartedSending ∧
    (reportSent q s).frh.lineState = s.frh.lineState ∧
    (reportSent q s).frh.joinTimer = s.frh.joinTimer ∧
    (reportSent q s).frh.nextSeq = s.frh.nextSeq ∧
    (reportSent q s).frh.outbox.trip = s.frh.outbox.trip ∧
    (reportSent q s).frh.outbox.clear = s.frh.outbox.clear ∧
    (reportSent q s).frh.outbox.replies = s.frh.outbox.replies ∧
    (reportSent q s).frh.outbox.restAsk = s.frh.outbox.restAsk ∧
    (reportSent q s).frh.outbox.demand = s.frh.outbox.demand ∧
    (reportSent q s).frh.inFlight = s.frh.inFlight ∧
    (reportSent q s).frh.lastDemand = s.frh.lastDemand ∧
    (reportSent q s).frh.notice = s.frh.notice ∧
    (reportSent q s).pvw = s.pvw ∧
    (reportSent q s).msu.gathered = s.msu.gathered ∧
    (reportSent q s).msu.idleReached = s.msu.idleReached ∧
    (reportSent q s).msu.awaitHigh = s.msu.awaitHigh ∧
    (reportSent q s).msu.rejected = s.msu.rejected ∧
    (reportSent q s).msu.lastRejection = s.msu.lastRejection ∧
    (reportSent q s).msu.latches = s.msu.latches ∧
    (reportSent q s).msu.windows = s.msu.windows ∧
    (reportSent q s).dtu.tripSet = s.dtu.tripSet ∧
    (reportSent q s).dtu.pendingTrip = s.dtu.pendingTrip ∧
    (reportSent q s).dtu.runAck = s.dtu.runAck ∧
    (reportSent q s).rng.grants = s.rng.grants ∧
    (reportSent q s).srg = s.srg ∧
    (reportSent q s).xcp = s.xcp ∧
    (reportSent q s).evu.refreshCount = s.evu.refreshCount ∧
    (reportSent q s).pnp = s.pnp ∧
    (reportSent q s).pending = s.pending := by
  simp only [reportSent]
  repeat' split
  all_goals simp


/-- What `takeReply` leaves as it stands. -/
@[simp] theorem takeReply_keeps (n a : Nat) (q : Octet) (v : Option Verdict) (s : State) :
    (takeReply n a q v s).pins = s.pins ∧
    (takeReply n a q v s).stl = s.stl ∧
    (takeReply n a q v s).settings = s.settings ∧
    (takeReply n a q v s).lif.quiet = s.lif.quiet ∧
    (takeReply n a q v s).lif.rx = s.lif.rx ∧
    (takeReply n a q v s).lif.leadFrom = s.lif.leadFrom ∧
    (takeReply n a q v s).lif.cells = s.lif.cells ∧
    (takeReply n a q v s).lif.report = s.lif.report ∧
    (takeReply n a q v s).lif.rxHeader = s.lif.rxHeader ∧
    (takeReply n a q v s).lif.rxStartedSending = s.lif.rxStartedSending ∧
    (takeReply n a q v s).frh.lineState = s.frh.lineState ∧
    (takeReply n a q v s).frh.joinTimer = s.frh.joinTimer ∧
    (takeReply n a q v s).frh.nextSeq = s.frh.nextSeq ∧
    (takeReply n a q v s).frh.outbox.trip = s.frh.outbox.trip ∧
    (takeReply n a q v s).frh.outbox.clear = s.frh.outbox.clear ∧
    (takeReply n a q v s).frh.outbox.replies = s.frh.outbox.replies ∧
    (takeReply n a q v s).frh.outbox.restAsk = s.frh.outbox.restAsk ∧
    (takeReply n a q v s).frh.outbox.demand = s.frh.outbox.demand ∧
    (takeReply n a q v s).frh.inFlight = s.frh.inFlight ∧
    (takeReply n a q v s).frh.lastDemand = s.frh.lastDemand ∧
    (takeReply n a q v s).frh.notice = s.frh.notice ∧
    (takeReply n a q v s).pvw = s.pvw ∧
    (takeReply n a q v s).msu.gathered = s.msu.gathered ∧
    (takeReply n a q v s).msu.idleReached = s.msu.idleReached ∧
    (takeReply n a q v s).msu.awaitHigh = s.msu.awaitHigh ∧
    (takeReply n a q v s).msu.rejected = s.msu.rejected ∧
    (takeReply n a q v s).msu.lastRejection = s.msu.lastRejection ∧
    (takeReply n a q v s).msu.latches = s.msu.latches ∧
    (takeReply n a q v s).msu.windows = s.msu.windows ∧
    (takeReply n a q v s).dtu.tripSet = s.dtu.tripSet ∧
    (takeReply n a q v s).dtu.pendingTrip = s.dtu.pendingTrip ∧
    (takeReply n a q v s).dtu.runAck = s.dtu.runAck ∧
    (takeReply n a q v s).rng.grants = s.rng.grants ∧
    (takeReply n a q v s).srg = s.srg ∧
    (takeReply n a q v s).xcp = s.xcp ∧
    (takeReply n a q v s).evu.refreshCount = s.evu.refreshCount ∧
    (takeReply n a q v s).pnp = s.pnp ∧
    (takeReply n a q v s).pending = s.pending := by
  simp only [takeReply]
  repeat' split
  all_goals simp


/-- What `strikeOff` leaves as it stands. -/
@[simp] theorem strikeOff_keeps (n : Nat) (s : State) :
    (strikeOff n s).pins = s.pins ∧
    (strikeOff n s).stl = s.stl ∧
    (strikeOff n s).settings = s.settings ∧
    (strikeOff n s).lif.quiet = s.lif.quiet ∧
    (strikeOff n s).lif.rx = s.lif.rx ∧
    (strikeOff n s).lif.leadFrom = s.lif.leadFrom ∧
    (strikeOff n s).lif.cells = s.lif.cells ∧
    (strikeOff n s).lif.report = s.lif.report ∧
    (strikeOff n s).lif.rxHeader = s.lif.rxHeader ∧
    (strikeOff n s).lif.rxStartedSending = s.lif.rxStartedSending ∧
    (strikeOff n s).frh.lineState = s.frh.lineState ∧
    (strikeOff n s).frh.joinTimer = s.frh.joinTimer ∧
    (strikeOff n s).frh.nextSeq = s.frh.nextSeq ∧
    (strikeOff n s).frh.outbox.trip = s.frh.outbox.trip ∧
    (strikeOff n s).frh.outbox.clear = s.frh.outbox.clear ∧
    (strikeOff n s).frh.outbox.replies = s.frh.outbox.replies ∧
    (strikeOff n s).frh.outbox.restAsk = s.frh.outbox.restAsk ∧
    (strikeOff n s).frh.outbox.demand = s.frh.outbox.demand ∧
    (strikeOff n s).frh.inFlight = s.frh.inFlight ∧
    (strikeOff n s).frh.lastDemand = s.frh.lastDemand ∧
    (strikeOff n s).frh.notice = s.frh.notice ∧
    (strikeOff n s).pvw = s.pvw ∧
    (strikeOff n s).msu.gathered = s.msu.gathered ∧
    (strikeOff n s).msu.idleReached = s.msu.idleReached ∧
    (strikeOff n s).msu.awaitHigh = s.msu.awaitHigh ∧
    (strikeOff n s).msu.rejected = s.msu.rejected ∧
    (strikeOff n s).msu.lastRejection = s.msu.lastRejection ∧
    (strikeOff n s).msu.latches = s.msu.latches ∧
    (strikeOff n s).msu.windows = s.msu.windows ∧
    (strikeOff n s).dtu.tripSet = s.dtu.tripSet ∧
    (strikeOff n s).dtu.pendingTrip = s.dtu.pendingTrip ∧
    (strikeOff n s).dtu.runAck = s.dtu.runAck ∧
    (strikeOff n s).rng.grants = s.rng.grants ∧
    (strikeOff n s).srg = s.srg ∧
    (strikeOff n s).xcp = s.xcp ∧
    (strikeOff n s).evu.refreshCount = s.evu.refreshCount ∧
    (strikeOff n s).pnp = s.pnp ∧
    (strikeOff n s).pending = s.pending := by
  simp only [strikeOff]
  repeat' split
  all_goals simp


/-- What `removeGrant` leaves as it stands. -/
@[simp] theorem removeGrant_keeps (n : Nat) (s : State) :
    (removeGrant n s).pins = s.pins ∧
    (removeGrant n s).stl = s.stl ∧
    (removeGrant n s).settings = s.settings ∧
    (removeGrant n s).lif = s.lif ∧
    (removeGrant n s).frh = s.frh ∧
    (removeGrant n s).pvw = s.pvw ∧
    (removeGrant n s).msu = s.msu ∧
    (removeGrant n s).dtu = s.dtu ∧
    (removeGrant n s).rng.ask = s.rng.ask ∧
    (removeGrant n s).rng.holdOff = s.rng.holdOff ∧
    (removeGrant n s).srg = s.srg ∧
    (removeGrant n s).xcp = s.xcp ∧
    (removeGrant n s).evu = s.evu ∧
    (removeGrant n s).pnp = s.pnp ∧
    (removeGrant n s).pending = s.pending := by
  simp [removeGrant]


/-- What `takeAsk` leaves as it stands. -/
@[simp] theorem takeAsk_keeps (n : Nat) (q : Octet) (s : State) :
    (takeAsk n q s).pins = s.pins ∧
    (takeAsk n q s).stl = s.stl ∧
    (takeAsk n q s).settings = s.settings ∧
    (takeAsk n q s).lif.quiet = s.lif.quiet ∧
    (takeAsk n q s).lif.rx = s.lif.rx ∧
    (takeAsk n q s).lif.leadFrom = s.lif.leadFrom ∧
    (takeAsk n q s).lif.cells = s.lif.cells ∧
    (takeAsk n q s).lif.report = s.lif.report ∧
    (takeAsk n q s).lif.rxHeader = s.lif.rxHeader ∧
    (takeAsk n q s).lif.rxStartedSending = s.lif.rxStartedSending ∧
    (takeAsk n q s).frh.lineState = s.frh.lineState ∧
    (takeAsk n q s).frh.joinTimer = s.frh.joinTimer ∧
    (takeAsk n q s).frh.nextSeq = s.frh.nextSeq ∧
    (takeAsk n q s).frh.outbox.trip = s.frh.outbox.trip ∧
    (takeAsk n q s).frh.outbox.clear = s.frh.outbox.clear ∧
    (takeAsk n q s).frh.outbox.restAsk = s.frh.outbox.restAsk ∧
    (takeAsk n q s).frh.outbox.demand = s.frh.outbox.demand ∧
    (takeAsk n q s).frh.inFlight = s.frh.inFlight ∧
    (takeAsk n q s).frh.lastDemand = s.frh.lastDemand ∧
    (takeAsk n q s).frh.notice = s.frh.notice ∧
    (takeAsk n q s).pvw = s.pvw ∧
    (takeAsk n q s).msu.gathered = s.msu.gathered ∧
    (takeAsk n q s).msu.idleReached = s.msu.idleReached ∧
    (takeAsk n q s).msu.awaitHigh = s.msu.awaitHigh ∧
    (takeAsk n q s).msu.rejected = s.msu.rejected ∧
    (takeAsk n q s).msu.lastRejection = s.msu.lastRejection ∧
    (takeAsk n q s).msu.latches = s.msu.latches ∧
    (takeAsk n q s).msu.windows = s.msu.windows ∧
    (takeAsk n q s).dtu.normalTarget = s.dtu.normalTarget ∧
    (takeAsk n q s).dtu.setpoint = s.dtu.setpoint ∧
    (takeAsk n q s).dtu.tripSet = s.dtu.tripSet ∧
    (takeAsk n q s).dtu.pendingTrip = s.dtu.pendingTrip ∧
    (takeAsk n q s).dtu.duty = s.dtu.duty ∧
    (takeAsk n q s).dtu.runReq = s.dtu.runReq ∧
    (takeAsk n q s).dtu.runAck = s.dtu.runAck ∧
    (takeAsk n q s).dtu.startTimer = s.dtu.startTimer ∧
    (takeAsk n q s).dtu.warmTimer = s.dtu.warmTimer ∧
    (takeAsk n q s).dtu.stopTimer = s.dtu.stopTimer ∧
    (takeAsk n q s).dtu.setpt = s.dtu.setpt ∧
    (takeAsk n q s).rng.ask = s.rng.ask ∧
    (takeAsk n q s).rng.holdOff = s.rng.holdOff ∧
    (takeAsk n q s).srg = s.srg ∧
    (takeAsk n q s).xcp = s.xcp ∧
    (takeAsk n q s).evu.refreshCount = s.evu.refreshCount ∧
    (takeAsk n q s).pnp = s.pnp ∧
    (takeAsk n q s).pending = s.pending := by
  simp only [takeAsk]
  repeat' split
  all_goals simp


/-- What `stateNotice` leaves as it stands. -/
@[simp] theorem stateNotice_keeps (n : Nat) (d : Option Duty) (s : State) :
    (stateNotice n d s).pins = s.pins ∧
    (stateNotice n d s).stl = s.stl ∧
    (stateNotice n d s).settings = s.settings ∧
    (stateNotice n d s).lif = s.lif ∧
    (stateNotice n d s).frh = s.frh ∧
    (stateNotice n d s).pvw = s.pvw ∧
    (stateNotice n d s).msu = s.msu ∧
    (stateNotice n d s).dtu = s.dtu ∧
    (stateNotice n d s).rng.ask = s.rng.ask ∧
    (stateNotice n d s).rng.holdOff = s.rng.holdOff ∧
    (stateNotice n d s).srg = s.srg ∧
    (stateNotice n d s).xcp = s.xcp ∧
    (stateNotice n d s).evu = s.evu ∧
    (stateNotice n d s).pnp = s.pnp ∧
    (stateNotice n d s).pending = s.pending := by
  simp only [stateNotice]
  repeat' split
  all_goals simp


/-- What `conditionNotice` leaves as it stands. -/
@[simp] theorem conditionNotice_keeps (n : Nat) (c : Condition) (s : State) :
    (conditionNotice n c s).pins = s.pins ∧
    (conditionNotice n c s).stl = s.stl ∧
    (conditionNotice n c s).settings = s.settings ∧
    (conditionNotice n c s).lif.quiet = s.lif.quiet ∧
    (conditionNotice n c s).lif.rx = s.lif.rx ∧
    (conditionNotice n c s).lif.leadFrom = s.lif.leadFrom ∧
    (conditionNotice n c s).lif.cells = s.lif.cells ∧
    (conditionNotice n c s).lif.report = s.lif.report ∧
    (conditionNotice n c s).lif.rxHeader = s.lif.rxHeader ∧
    (conditionNotice n c s).lif.rxStartedSending = s.lif.rxStartedSending ∧
    (conditionNotice n c s).frh.lineState = s.frh.lineState ∧
    (conditionNotice n c s).frh.joinTimer = s.frh.joinTimer ∧
    (conditionNotice n c s).frh.nextSeq = s.frh.nextSeq ∧
    (conditionNotice n c s).frh.outbox.trip = s.frh.outbox.trip ∧
    (conditionNotice n c s).frh.outbox.clear = s.frh.outbox.clear ∧
    (conditionNotice n c s).frh.outbox.replies = s.frh.outbox.replies ∧
    (conditionNotice n c s).frh.outbox.restAsk = s.frh.outbox.restAsk ∧
    (conditionNotice n c s).frh.outbox.demand = s.frh.outbox.demand ∧
    (conditionNotice n c s).frh.inFlight = s.frh.inFlight ∧
    (conditionNotice n c s).frh.lastDemand = s.frh.lastDemand ∧
    (conditionNotice n c s).frh.notice = s.frh.notice ∧
    (conditionNotice n c s).pvw = s.pvw ∧
    (conditionNotice n c s).msu.gathered = s.msu.gathered ∧
    (conditionNotice n c s).msu.idleReached = s.msu.idleReached ∧
    (conditionNotice n c s).msu.awaitHigh = s.msu.awaitHigh ∧
    (conditionNotice n c s).msu.rejected = s.msu.rejected ∧
    (conditionNotice n c s).msu.lastRejection = s.msu.lastRejection ∧
    (conditionNotice n c s).msu.latches = s.msu.latches ∧
    (conditionNotice n c s).msu.windows = s.msu.windows ∧
    (conditionNotice n c s).dtu.tripSet = s.dtu.tripSet ∧
    (conditionNotice n c s).dtu.pendingTrip = s.dtu.pendingTrip ∧
    (conditionNotice n c s).dtu.runAck = s.dtu.runAck ∧
    (conditionNotice n c s).srg = s.srg ∧
    (conditionNotice n c s).xcp = s.xcp ∧
    (conditionNotice n c s).evu.refreshCount = s.evu.refreshCount ∧
    (conditionNotice n c s).pnp = s.pnp ∧
    (conditionNotice n c s).pending = s.pending := by
  simp only [conditionNotice]
  repeat' split
  all_goals simp


/-- What `endHoldOff` leaves as it stands. -/
@[simp] theorem endHoldOff_keeps (s : State) :
    (endHoldOff s).pins = s.pins ∧
    (endHoldOff s).stl = s.stl ∧
    (endHoldOff s).settings = s.settings ∧
    (endHoldOff s).lif.quiet = s.lif.quiet ∧
    (endHoldOff s).lif.rx = s.lif.rx ∧
    (endHoldOff s).lif.leadFrom = s.lif.leadFrom ∧
    (endHoldOff s).lif.cells = s.lif.cells ∧
    (endHoldOff s).lif.report = s.lif.report ∧
    (endHoldOff s).lif.rxHeader = s.lif.rxHeader ∧
    (endHoldOff s).lif.rxStartedSending = s.lif.rxStartedSending ∧
    (endHoldOff s).frh.lineState = s.frh.lineState ∧
    (endHoldOff s).frh.joinTimer = s.frh.joinTimer ∧
    (endHoldOff s).frh.nextSeq = s.frh.nextSeq ∧
    (endHoldOff s).frh.outbox.trip = s.frh.outbox.trip ∧
    (endHoldOff s).frh.outbox.clear = s.frh.outbox.clear ∧
    (endHoldOff s).frh.outbox.replies = s.frh.outbox.replies ∧
    (endHoldOff s).frh.outbox.restAsk = s.frh.outbox.restAsk ∧
    (endHoldOff s).frh.outbox.demand = s.frh.outbox.demand ∧
    (endHoldOff s).frh.inFlight = s.frh.inFlight ∧
    (endHoldOff s).frh.lastDemand = s.frh.lastDemand ∧
    (endHoldOff s).frh.notice = s.frh.notice ∧
    (endHoldOff s).pvw = s.pvw ∧
    (endHoldOff s).msu.gathered = s.msu.gathered ∧
    (endHoldOff s).msu.idleReached = s.msu.idleReached ∧
    (endHoldOff s).msu.awaitHigh = s.msu.awaitHigh ∧
    (endHoldOff s).msu.rejected = s.msu.rejected ∧
    (endHoldOff s).msu.lastRejection = s.msu.lastRejection ∧
    (endHoldOff s).msu.latches = s.msu.latches ∧
    (endHoldOff s).msu.windows = s.msu.windows ∧
    (endHoldOff s).dtu.tripSet = s.dtu.tripSet ∧
    (endHoldOff s).dtu.pendingTrip = s.dtu.pendingTrip ∧
    (endHoldOff s).dtu.runAck = s.dtu.runAck ∧
    (endHoldOff s).rng.grants = s.rng.grants ∧
    (endHoldOff s).srg = s.srg ∧
    (endHoldOff s).xcp = s.xcp ∧
    (endHoldOff s).evu.refreshCount = s.evu.refreshCount ∧
    (endHoldOff s).pnp = s.pnp ∧
    (endHoldOff s).pending = s.pending := by
  simp only [endHoldOff]
  repeat' split
  all_goals simp


/-- What `risenToOn` leaves as it stands. -/
@[simp] theorem risenToOn_keeps (s : State) :
    (risenToOn s).pins = s.pins ∧
    (risenToOn s).stl = s.stl ∧
    (risenToOn s).settings = s.settings ∧
    (risenToOn s).lif.quiet = s.lif.quiet ∧
    (risenToOn s).lif.rx = s.lif.rx ∧
    (risenToOn s).lif.leadFrom = s.lif.leadFrom ∧
    (risenToOn s).lif.cells = s.lif.cells ∧
    (risenToOn s).lif.report = s.lif.report ∧
    (risenToOn s).lif.rxHeader = s.lif.rxHeader ∧
    (risenToOn s).lif.rxStartedSending = s.lif.rxStartedSending ∧
    (risenToOn s).frh.lineState = s.frh.lineState ∧
    (risenToOn s).frh.joinTimer = s.frh.joinTimer ∧
    (risenToOn s).frh.nextSeq = s.frh.nextSeq ∧
    (risenToOn s).frh.outbox.trip = s.frh.outbox.trip ∧
    (risenToOn s).frh.outbox.clear = s.frh.outbox.clear ∧
    (risenToOn s).frh.outbox.replies = s.frh.outbox.replies ∧
    (risenToOn s).frh.outbox.restAsk = s.frh.outbox.restAsk ∧
    (risenToOn s).frh.outbox.demand = s.frh.outbox.demand ∧
    (risenToOn s).frh.inFlight = s.frh.inFlight ∧
    (risenToOn s).frh.lastDemand = s.frh.lastDemand ∧
    (risenToOn s).frh.notice = s.frh.notice ∧
    (risenToOn s).pvw = s.pvw ∧
    (risenToOn s).msu.gathered = s.msu.gathered ∧
    (risenToOn s).msu.idleReached = s.msu.idleReached ∧
    (risenToOn s).msu.awaitHigh = s.msu.awaitHigh ∧
    (risenToOn s).msu.rejected = s.msu.rejected ∧
    (risenToOn s).msu.lastRejection = s.msu.lastRejection ∧
    (risenToOn s).msu.latches = s.msu.latches ∧
    (risenToOn s).msu.windows = s.msu.windows ∧
    (risenToOn s).dtu.tripSet = s.dtu.tripSet ∧
    (risenToOn s).dtu.pendingTrip = s.dtu.pendingTrip ∧
    (risenToOn s).dtu.runAck = s.dtu.runAck ∧
    (risenToOn s).rng.grants = s.rng.grants ∧
    (risenToOn s).srg = s.srg ∧
    (risenToOn s).xcp = s.xcp ∧
    (risenToOn s).evu.refreshCount = s.evu.refreshCount ∧
    (risenToOn s).pnp = s.pnp ∧
    (risenToOn s).pending = s.pending := by
  simp only [risenToOn]
  repeat' split
  all_goals simp


/-- What `replyWindowEnds` leaves as it stands. -/
@[simp] theorem replyWindowEnds_keeps (s : State) :
    (replyWindowEnds s).pins = s.pins ∧
    (replyWindowEnds s).stl = s.stl ∧
    (replyWindowEnds s).settings = s.settings ∧
    (replyWindowEnds s).lif.quiet = s.lif.quiet ∧
    (replyWindowEnds s).lif.rx = s.lif.rx ∧
    (replyWindowEnds s).lif.leadFrom = s.lif.leadFrom ∧
    (replyWindowEnds s).lif.cells = s.lif.cells ∧
    (replyWindowEnds s).lif.report = s.lif.report ∧
    (replyWindowEnds s).lif.rxHeader = s.lif.rxHeader ∧
    (replyWindowEnds s).lif.rxStartedSending = s.lif.rxStartedSending ∧
    (replyWindowEnds s).frh.lineState = s.frh.lineState ∧
    (replyWindowEnds s).frh.joinTimer = s.frh.joinTimer ∧
    (replyWindowEnds s).frh.nextSeq = s.frh.nextSeq ∧
    (replyWindowEnds s).frh.outbox.trip = s.frh.outbox.trip ∧
    (replyWindowEnds s).frh.outbox.clear = s.frh.outbox.clear ∧
    (replyWindowEnds s).frh.outbox.replies = s.frh.outbox.replies ∧
    (replyWindowEnds s).frh.outbox.restAsk = s.frh.outbox.restAsk ∧
    (replyWindowEnds s).frh.outbox.demand = s.frh.outbox.demand ∧
    (replyWindowEnds s).frh.inFlight = s.frh.inFlight ∧
    (replyWindowEnds s).frh.lastDemand = s.frh.lastDemand ∧
    (replyWindowEnds s).frh.notice = s.frh.notice ∧
    (replyWindowEnds s).pvw = s.pvw ∧
    (replyWindowEnds s).msu.gathered = s.msu.gathered ∧
    (replyWindowEnds s).msu.idleReached = s.msu.idleReached ∧
    (replyWindowEnds s).msu.awaitHigh = s.msu.awaitHigh ∧
    (replyWindowEnds s).msu.rejected = s.msu.rejected ∧
    (replyWindowEnds s).msu.lastRejection = s.msu.lastRejection ∧
    (replyWindowEnds s).msu.latches = s.msu.latches ∧
    (replyWindowEnds s).msu.windows = s.msu.windows ∧
    (replyWindowEnds s).dtu.tripSet = s.dtu.tripSet ∧
    (replyWindowEnds s).dtu.pendingTrip = s.dtu.pendingTrip ∧
    (replyWindowEnds s).dtu.runAck = s.dtu.runAck ∧
    (replyWindowEnds s).rng.grants = s.rng.grants ∧
    (replyWindowEnds s).srg = s.srg ∧
    (replyWindowEnds s).xcp = s.xcp ∧
    (replyWindowEnds s).evu.refreshCount = s.evu.refreshCount ∧
    (replyWindowEnds s).pnp = s.pnp ∧
    (replyWindowEnds s).pending = s.pending := by
  simp only [replyWindowEnds]
  repeat' split
  all_goals simp


/-- What `viewChanged` leaves as it stands. -/
@[simp] theorem viewChanged_keeps (s : State) :
    (viewChanged s).pins = s.pins ∧
    (viewChanged s).stl = s.stl ∧
    (viewChanged s).settings = s.settings ∧
    (viewChanged s).lif = s.lif ∧
    (viewChanged s).frh = s.frh ∧
    (viewChanged s).pvw = s.pvw ∧
    (viewChanged s).msu = s.msu ∧
    (viewChanged s).dtu.derateTotal = s.dtu.derateTotal ∧
    (viewChanged s).dtu.quietCount = s.dtu.quietCount ∧
    (viewChanged s).dtu.normalTarget = s.dtu.normalTarget ∧
    (viewChanged s).dtu.target = s.dtu.target ∧
    (viewChanged s).dtu.setpoint = s.dtu.setpoint ∧
    (viewChanged s).dtu.tripSet = s.dtu.tripSet ∧
    (viewChanged s).dtu.pendingTrip = s.dtu.pendingTrip ∧
    (viewChanged s).dtu.duty = s.dtu.duty ∧
    (viewChanged s).dtu.runReq = s.dtu.runReq ∧
    (viewChanged s).dtu.runAck = s.dtu.runAck ∧
    (viewChanged s).dtu.startTimer = s.dtu.startTimer ∧
    (viewChanged s).dtu.warmTimer = s.dtu.warmTimer ∧
    (viewChanged s).dtu.stopTimer = s.dtu.stopTimer ∧
    (viewChanged s).dtu.setpt = s.dtu.setpt ∧
    (viewChanged s).rng = s.rng ∧
    (viewChanged s).srg = s.srg ∧
    (viewChanged s).xcp = s.xcp ∧
    (viewChanged s).evu = s.evu ∧
    (viewChanged s).pnp = s.pnp ∧
    (viewChanged s).pending = s.pending := by
  simp [viewChanged]


/-- What `conditionMoved` leaves as it stands. -/
@[simp] theorem conditionMoved_keeps (n : Nat) (c : Condition) (s : State) :
    (conditionMoved n c s).pins = s.pins ∧
    (conditionMoved n c s).stl = s.stl ∧
    (conditionMoved n c s).settings = s.settings ∧
    (conditionMoved n c s).lif.quiet = s.lif.quiet ∧
    (conditionMoved n c s).lif.rx = s.lif.rx ∧
    (conditionMoved n c s).lif.leadFrom = s.lif.leadFrom ∧
    (conditionMoved n c s).lif.cells = s.lif.cells ∧
    (conditionMoved n c s).lif.report = s.lif.report ∧
    (conditionMoved n c s).lif.rxHeader = s.lif.rxHeader ∧
    (conditionMoved n c s).lif.rxStartedSending = s.lif.rxStartedSending ∧
    (conditionMoved n c s).frh.lineState = s.frh.lineState ∧
    (conditionMoved n c s).frh.joinTimer = s.frh.joinTimer ∧
    (conditionMoved n c s).frh.nextSeq = s.frh.nextSeq ∧
    (conditionMoved n c s).frh.outbox.trip = s.frh.outbox.trip ∧
    (conditionMoved n c s).frh.outbox.clear = s.frh.outbox.clear ∧
    (conditionMoved n c s).frh.outbox.replies = s.frh.outbox.replies ∧
    (conditionMoved n c s).frh.outbox.restAsk = s.frh.outbox.restAsk ∧
    (conditionMoved n c s).frh.outbox.demand = s.frh.outbox.demand ∧
    (conditionMoved n c s).frh.inFlight = s.frh.inFlight ∧
    (conditionMoved n c s).frh.lastDemand = s.frh.lastDemand ∧
    (conditionMoved n c s).frh.notice = s.frh.notice ∧
    (conditionMoved n c s).pvw = s.pvw ∧
    (conditionMoved n c s).msu.gathered = s.msu.gathered ∧
    (conditionMoved n c s).msu.idleReached = s.msu.idleReached ∧
    (conditionMoved n c s).msu.awaitHigh = s.msu.awaitHigh ∧
    (conditionMoved n c s).msu.rejected = s.msu.rejected ∧
    (conditionMoved n c s).msu.lastRejection = s.msu.lastRejection ∧
    (conditionMoved n c s).msu.latches = s.msu.latches ∧
    (conditionMoved n c s).msu.windows = s.msu.windows ∧
    (conditionMoved n c s).dtu.tripSet = s.dtu.tripSet ∧
    (conditionMoved n c s).dtu.pendingTrip = s.dtu.pendingTrip ∧
    (conditionMoved n c s).dtu.runAck = s.dtu.runAck ∧
    (conditionMoved n c s).srg = s.srg ∧
    (conditionMoved n c s).xcp = s.xcp ∧
    (conditionMoved n c s).evu.refreshCount = s.evu.refreshCount ∧
    (conditionMoved n c s).pnp = s.pnp ∧
    (conditionMoved n c s).pending = s.pending := by
  simp only [conditionMoved]
  repeat' split
  all_goals simp


/-- What `refreshRow` leaves as it stands. -/
@[simp] theorem refreshRow_keeps (n : Nat) (r : Role) (k : FrameKind) (s : State) :
    (refreshRow n r k s).pins = s.pins ∧
    (refreshRow n r k s).stl = s.stl ∧
    (refreshRow n r k s).settings = s.settings ∧
    (refreshRow n r k s).lif.quiet = s.lif.quiet ∧
    (refreshRow n r k s).lif.rx = s.lif.rx ∧
    (refreshRow n r k s).lif.leadFrom = s.lif.leadFrom ∧
    (refreshRow n r k s).lif.cells = s.lif.cells ∧
    (refreshRow n r k s).lif.report = s.lif.report ∧
    (refreshRow n r k s).lif.rxHeader = s.lif.rxHeader ∧
    (refreshRow n r k s).lif.rxStartedSending = s.lif.rxStartedSending ∧
    (refreshRow n r k s).frh.lineState = s.frh.lineState ∧
    (refreshRow n r k s).frh.joinTimer = s.frh.joinTimer ∧
    (refreshRow n r k s).frh.nextSeq = s.frh.nextSeq ∧
    (refreshRow n r k s).frh.outbox.trip = s.frh.outbox.trip ∧
    (refreshRow n r k s).frh.outbox.clear = s.frh.outbox.clear ∧
    (refreshRow n r k s).frh.outbox.replies = s.frh.outbox.replies ∧
    (refreshRow n r k s).frh.outbox.restAsk = s.frh.outbox.restAsk ∧
    (refreshRow n r k s).frh.outbox.demand = s.frh.outbox.demand ∧
    (refreshRow n r k s).frh.inFlight = s.frh.inFlight ∧
    (refreshRow n r k s).frh.lastDemand = s.frh.lastDemand ∧
    (refreshRow n r k s).frh.notice = s.frh.notice ∧
    (refreshRow n r k s).msu.gathered = s.msu.gathered ∧
    (refreshRow n r k s).msu.idleReached = s.msu.idleReached ∧
    (refreshRow n r k s).msu.awaitHigh = s.msu.awaitHigh ∧
    (refreshRow n r k s).msu.rejected = s.msu.rejected ∧
    (refreshRow n r k s).msu.lastRejection = s.msu.lastRejection ∧
    (refreshRow n r k s).msu.latches = s.msu.latches ∧
    (refreshRow n r k s).msu.windows = s.msu.windows ∧
    (refreshRow n r k s).dtu.normalTarget = s.dtu.normalTarget ∧
    (refreshRow n r k s).dtu.setpoint = s.dtu.setpoint ∧
    (refreshRow n r k s).dtu.tripSet = s.dtu.tripSet ∧
    (refreshRow n r k s).dtu.pendingTrip = s.dtu.pendingTrip ∧
    (refreshRow n r k s).dtu.duty = s.dtu.duty ∧
    (refreshRow n r k s).dtu.runReq = s.dtu.runReq ∧
    (refreshRow n r k s).dtu.runAck = s.dtu.runAck ∧
    (refreshRow n r k s).dtu.startTimer = s.dtu.startTimer ∧
    (refreshRow n r k s).dtu.warmTimer = s.dtu.warmTimer ∧
    (refreshRow n r k s).dtu.stopTimer = s.dtu.stopTimer ∧
    (refreshRow n r k s).dtu.setpt = s.dtu.setpt ∧
    (refreshRow n r k s).rng = s.rng ∧
    (refreshRow n r k s).srg = s.srg ∧
    (refreshRow n r k s).xcp = s.xcp ∧
    (refreshRow n r k s).evu.refreshCount = s.evu.refreshCount ∧
    (refreshRow n r k s).pnp = s.pnp ∧
    (refreshRow n r k s).pending = s.pending := by
  simp only [refreshRow]
  repeat' split
  all_goals simp


/-- What `acceptSeq` leaves as it stands. -/
@[simp] theorem acceptSeq_keeps (n : Nat) (q : Octet) (s : State) :
    (acceptSeq n q s).pins = s.pins ∧
    (acceptSeq n q s).stl = s.stl ∧
    (acceptSeq n q s).settings = s.settings ∧
    (acceptSeq n q s).lif = s.lif ∧
    (acceptSeq n q s).frh = s.frh ∧
    (acceptSeq n q s).msu = s.msu ∧
    (acceptSeq n q s).dtu = s.dtu ∧
    (acceptSeq n q s).rng = s.rng ∧
    (acceptSeq n q s).srg = s.srg ∧
    (acceptSeq n q s).xcp = s.xcp ∧
    (acceptSeq n q s).evu = s.evu ∧
    (acceptSeq n q s).pnp = s.pnp ∧
    (acceptSeq n q s).pending = s.pending := by
  simp [acceptSeq]


/-- What `acceptState` leaves as it stands. -/
@[simp] theorem acceptState_keeps (n : Nat) (p : List Octet) (s : State) :
    (acceptState n p s).pins = s.pins ∧
    (acceptState n p s).stl = s.stl ∧
    (acceptState n p s).settings = s.settings ∧
    (acceptState n p s).lif.quiet = s.lif.quiet ∧
    (acceptState n p s).lif.rx = s.lif.rx ∧
    (acceptState n p s).lif.leadFrom = s.lif.leadFrom ∧
    (acceptState n p s).lif.cells = s.lif.cells ∧
    (acceptState n p s).lif.report = s.lif.report ∧
    (acceptState n p s).lif.rxHeader = s.lif.rxHeader ∧
    (acceptState n p s).lif.rxStartedSending = s.lif.rxStartedSending ∧
    (acceptState n p s).frh.lineState = s.frh.lineState ∧
    (acceptState n p s).frh.joinTimer = s.frh.joinTimer ∧
    (acceptState n p s).frh.nextSeq = s.frh.nextSeq ∧
    (acceptState n p s).frh.outbox.trip = s.frh.outbox.trip ∧
    (acceptState n p s).frh.outbox.clear = s.frh.outbox.clear ∧
    (acceptState n p s).frh.outbox.replies = s.frh.outbox.replies ∧
    (acceptState n p s).frh.outbox.restAsk = s.frh.outbox.restAsk ∧
    (acceptState n p s).frh.outbox.demand = s.frh.outbox.demand ∧
    (acceptState n p s).frh.inFlight = s.frh.inFlight ∧
    (acceptState n p s).frh.lastDemand = s.frh.lastDemand ∧
    (acceptState n p s).frh.notice = s.frh.notice ∧
    (acceptState n p s).msu.gathered = s.msu.gathered ∧
    (acceptState n p s).msu.idleReached = s.msu.idleReached ∧
    (acceptState n p s).msu.awaitHigh = s.msu.awaitHigh ∧
    (acceptState n p s).msu.rejected = s.msu.rejected ∧
    (acceptState n p s).msu.lastRejection = s.msu.lastRejection ∧
    (acceptState n p s).msu.latches = s.msu.latches ∧
    (acceptState n p s).msu.windows = s.msu.windows ∧
    (acceptState n p s).dtu.tripSet = s.dtu.tripSet ∧
    (acceptState n p s).dtu.pendingTrip = s.dtu.pendingTrip ∧
    (acceptState n p s).dtu.runAck = s.dtu.runAck ∧
    (acceptState n p s).srg = s.srg ∧
    (acceptState n p s).xcp = s.xcp ∧
    (acceptState n p s).evu.refreshCount = s.evu.refreshCount ∧
    (acceptState n p s).pnp = s.pnp ∧
    (acceptState n p s).pending = s.pending := by
  simp only [acceptState]
  repeat' split
  all_goals simp


/-- What `acceptDemand` leaves as it stands. -/
@[simp] theorem acceptDemand_keeps (n : Nat) (p : List Octet) (s : State) :
    (acceptDemand n p s).pins = s.pins ∧
    (acceptDemand n p s).stl = s.stl ∧
    (acceptDemand n p s).settings = s.settings ∧
    (acceptDemand n p s).lif = s.lif ∧
    (acceptDemand n p s).frh = s.frh ∧
    (acceptDemand n p s).msu = s.msu ∧
    (acceptDemand n p s).dtu.derateTotal = s.dtu.derateTotal ∧
    (acceptDemand n p s).dtu.quietCount = s.dtu.quietCount ∧
    (acceptDemand n p s).dtu.normalTarget = s.dtu.normalTarget ∧
    (acceptDemand n p s).dtu.target = s.dtu.target ∧
    (acceptDemand n p s).dtu.setpoint = s.dtu.setpoint ∧
    (acceptDemand n p s).dtu.tripSet = s.dtu.tripSet ∧
    (acceptDemand n p s).dtu.pendingTrip = s.dtu.pendingTrip ∧
    (acceptDemand n p s).dtu.duty = s.dtu.duty ∧
    (acceptDemand n p s).dtu.runReq = s.dtu.runReq ∧
    (acceptDemand n p s).dtu.runAck = s.dtu.runAck ∧
    (acceptDemand n p s).dtu.startTimer = s.dtu.startTimer ∧
    (acceptDemand n p s).dtu.warmTimer = s.dtu.warmTimer ∧
    (acceptDemand n p s).dtu.stopTimer = s.dtu.stopTimer ∧
    (acceptDemand n p s).dtu.setpt = s.dtu.setpt ∧
    (acceptDemand n p s).rng = s.rng ∧
    (acceptDemand n p s).srg = s.srg ∧
    (acceptDemand n p s).xcp = s.xcp ∧
    (acceptDemand n p s).evu = s.evu ∧
    (acceptDemand n p s).pnp = s.pnp ∧
    (acceptDemand n p s).pending = s.pending := by
  simp only [acceptDemand]
  repeat' split
  all_goals simp


/-- What `acceptAsk` leaves as it stands. -/
@[simp] theorem acceptAsk_keeps (n : Nat) (p : List Octet) (s : State) :
    (acceptAsk n p s).pins = s.pins ∧
    (acceptAsk n p s).stl = s.stl ∧
    (acceptAsk n p s).settings = s.settings ∧
    (acceptAsk n p s).lif = s.lif ∧
    (acceptAsk n p s).frh = s.frh ∧
    (acceptAsk n p s).msu = s.msu ∧
    (acceptAsk n p s).dtu.derateTotal = s.dtu.derateTotal ∧
    (acceptAsk n p s).dtu.quietCount = s.dtu.quietCount ∧
    (acceptAsk n p s).dtu.normalTarget = s.dtu.normalTarget ∧
    (acceptAsk n p s).dtu.target = s.dtu.target ∧
    (acceptAsk n p s).dtu.setpoint = s.dtu.setpoint ∧
    (acceptAsk n p s).dtu.tripSet = s.dtu.tripSet ∧
    (acceptAsk n p s).dtu.pendingTrip = s.dtu.pendingTrip ∧
    (acceptAsk n p s).dtu.duty = s.dtu.duty ∧
    (acceptAsk n p s).dtu.runReq = s.dtu.runReq ∧
    (acceptAsk n p s).dtu.runAck = s.dtu.runAck ∧
    (acceptAsk n p s).dtu.startTimer = s.dtu.startTimer ∧
    (acceptAsk n p s).dtu.warmTimer = s.dtu.warmTimer ∧
    (acceptAsk n p s).dtu.stopTimer = s.dtu.stopTimer ∧
    (acceptAsk n p s).dtu.setpt = s.dtu.setpt ∧
    (acceptAsk n p s).rng = s.rng ∧
    (acceptAsk n p s).srg = s.srg ∧
    (acceptAsk n p s).xcp = s.xcp ∧
    (acceptAsk n p s).evu = s.evu ∧
    (acceptAsk n p s).pnp = s.pnp ∧
    (acceptAsk n p s).pending = s.pending := by
  simp only [acceptAsk]
  repeat' split
  all_goals simp


/-- What `acceptPayload` leaves as it stands. -/
@[simp] theorem acceptPayload_keeps (k : FrameKind) (n : Nat) (p : List Octet) (s : State) :
    (acceptPayload k n p s).pins = s.pins ∧
    (acceptPayload k n p s).stl = s.stl ∧
    (acceptPayload k n p s).settings = s.settings ∧
    (acceptPayload k n p s).lif.quiet = s.lif.quiet ∧
    (acceptPayload k n p s).lif.rx = s.lif.rx ∧
    (acceptPayload k n p s).lif.leadFrom = s.lif.leadFrom ∧
    (acceptPayload k n p s).lif.cells = s.lif.cells ∧
    (acceptPayload k n p s).lif.report = s.lif.report ∧
    (acceptPayload k n p s).lif.rxHeader = s.lif.rxHeader ∧
    (acceptPayload k n p s).lif.rxStartedSending = s.lif.rxStartedSending ∧
    (acceptPayload k n p s).frh.lineState = s.frh.lineState ∧
    (acceptPayload k n p s).frh.joinTimer = s.frh.joinTimer ∧
    (acceptPayload k n p s).frh.nextSeq = s.frh.nextSeq ∧
    (acceptPayload k n p s).frh.outbox.trip = s.frh.outbox.trip ∧
    (acceptPayload k n p s).frh.outbox.clear = s.frh.outbox.clear ∧
    (acceptPayload k n p s).frh.outbox.replies = s.frh.outbox.replies ∧
    (acceptPayload k n p s).frh.outbox.restAsk = s.frh.outbox.restAsk ∧
    (acceptPayload k n p s).frh.outbox.demand = s.frh.outbox.demand ∧
    (acceptPayload k n p s).frh.inFlight = s.frh.inFlight ∧
    (acceptPayload k n p s).frh.lastDemand = s.frh.lastDemand ∧
    (acceptPayload k n p s).frh.notice = s.frh.notice ∧
    (acceptPayload k n p s).msu.gathered = s.msu.gathered ∧
    (acceptPayload k n p s).msu.idleReached = s.msu.idleReached ∧
    (acceptPayload k n p s).msu.awaitHigh = s.msu.awaitHigh ∧
    (acceptPayload k n p s).msu.rejected = s.msu.rejected ∧
    (acceptPayload k n p s).msu.lastRejection = s.msu.lastRejection ∧
    (acceptPayload k n p s).msu.latches = s.msu.latches ∧
    (acceptPayload k n p s).msu.windows = s.msu.windows ∧
    (acceptPayload k n p s).dtu.tripSet = s.dtu.tripSet ∧
    (acceptPayload k n p s).dtu.pendingTrip = s.dtu.pendingTrip ∧
    (acceptPayload k n p s).dtu.runAck = s.dtu.runAck ∧
    (acceptPayload k n p s).srg = s.srg ∧
    (acceptPayload k n p s).xcp = s.xcp ∧
    (acceptPayload k n p s).evu.refreshCount = s.evu.refreshCount ∧
    (acceptPayload k n p s).pnp = s.pnp ∧
    (acceptPayload k n p s).pending = s.pending := by
  simp only [acceptPayload]
  repeat' split
  all_goals simp


/-- What `ageRow` leaves as it stands. -/
@[simp] theorem ageRow_keeps (n : Nat) (s : State) :
    (ageRow s n).pins = s.pins ∧
    (ageRow s n).stl = s.stl ∧
    (ageRow s n).settings = s.settings ∧
    (ageRow s n).lif.quiet = s.lif.quiet ∧
    (ageRow s n).lif.rx = s.lif.rx ∧
    (ageRow s n).lif.leadFrom = s.lif.leadFrom ∧
    (ageRow s n).lif.cells = s.lif.cells ∧
    (ageRow s n).lif.report = s.lif.report ∧
    (ageRow s n).lif.rxHeader = s.lif.rxHeader ∧
    (ageRow s n).lif.rxStartedSending = s.lif.rxStartedSending ∧
    (ageRow s n).frh.lineState = s.frh.lineState ∧
    (ageRow s n).frh.joinTimer = s.frh.joinTimer ∧
    (ageRow s n).frh.nextSeq = s.frh.nextSeq ∧
    (ageRow s n).frh.outbox.trip = s.frh.outbox.trip ∧
    (ageRow s n).frh.outbox.clear = s.frh.outbox.clear ∧
    (ageRow s n).frh.outbox.replies = s.frh.outbox.replies ∧
    (ageRow s n).frh.outbox.restAsk = s.frh.outbox.restAsk ∧
    (ageRow s n).frh.outbox.demand = s.frh.outbox.demand ∧
    (ageRow s n).frh.inFlight = s.frh.inFlight ∧
    (ageRow s n).frh.lastDemand = s.frh.lastDemand ∧
    (ageRow s n).frh.notice = s.frh.notice ∧
    (ageRow s n).msu.gathered = s.msu.gathered ∧
    (ageRow s n).msu.idleReached = s.msu.idleReached ∧
    (ageRow s n).msu.awaitHigh = s.msu.awaitHigh ∧
    (ageRow s n).msu.rejected = s.msu.rejected ∧
    (ageRow s n).msu.lastRejection = s.msu.lastRejection ∧
    (ageRow s n).msu.latches = s.msu.latches ∧
    (ageRow s n).msu.windows = s.msu.windows ∧
    (ageRow s n).dtu.tripSet = s.dtu.tripSet ∧
    (ageRow s n).dtu.pendingTrip = s.dtu.pendingTrip ∧
    (ageRow s n).dtu.runAck = s.dtu.runAck ∧
    (ageRow s n).srg = s.srg ∧
    (ageRow s n).xcp = s.xcp ∧
    (ageRow s n).evu.refreshCount = s.evu.refreshCount ∧
    (ageRow s n).pnp = s.pnp ∧
    (ageRow s n).pending = s.pending := by
  simp only [ageRow]
  repeat' split
  all_goals simp


/-- What `ageView` leaves as it stands. -/
@[simp] theorem ageView_keeps (s : State) :
    (ageView s).pins = s.pins ∧
    (ageView s).stl = s.stl ∧
    (ageView s).settings = s.settings ∧
    (ageView s).lif.quiet = s.lif.quiet ∧
    (ageView s).lif.rx = s.lif.rx ∧
    (ageView s).lif.leadFrom = s.lif.leadFrom ∧
    (ageView s).lif.cells = s.lif.cells ∧
    (ageView s).lif.report = s.lif.report ∧
    (ageView s).lif.rxHeader = s.lif.rxHeader ∧
    (ageView s).lif.rxStartedSending = s.lif.rxStartedSending ∧
    (ageView s).frh.lineState = s.frh.lineState ∧
    (ageView s).frh.joinTimer = s.frh.joinTimer ∧
    (ageView s).frh.nextSeq = s.frh.nextSeq ∧
    (ageView s).frh.outbox.trip = s.frh.outbox.trip ∧
    (ageView s).frh.outbox.clear = s.frh.outbox.clear ∧
    (ageView s).frh.outbox.replies = s.frh.outbox.replies ∧
    (ageView s).frh.outbox.restAsk = s.frh.outbox.restAsk ∧
    (ageView s).frh.outbox.demand = s.frh.outbox.demand ∧
    (ageView s).frh.inFlight = s.frh.inFlight ∧
    (ageView s).frh.lastDemand = s.frh.lastDemand ∧
    (ageView s).frh.notice = s.frh.notice ∧
    (ageView s).msu.gathered = s.msu.gathered ∧
    (ageView s).msu.idleReached = s.msu.idleReached ∧
    (ageView s).msu.awaitHigh = s.msu.awaitHigh ∧
    (ageView s).msu.rejected = s.msu.rejected ∧
    (ageView s).msu.lastRejection = s.msu.lastRejection ∧
    (ageView s).msu.latches = s.msu.latches ∧
    (ageView s).msu.windows = s.msu.windows ∧
    (ageView s).dtu.tripSet = s.dtu.tripSet ∧
    (ageView s).dtu.pendingTrip = s.dtu.pendingTrip ∧
    (ageView s).dtu.runAck = s.dtu.runAck ∧
    (ageView s).srg = s.srg ∧
    (ageView s).xcp = s.xcp ∧
    (ageView s).evu.refreshCount = s.evu.refreshCount ∧
    (ageView s).pnp = s.pnp ∧
    (ageView s).pending = s.pending := by
  simp only [ageView]
  suffices h : ∀ l : List Nat, (l.foldl ageRow s).pins = s.pins ∧
    (l.foldl ageRow s).stl = s.stl ∧
    (l.foldl ageRow s).settings = s.settings ∧
    (l.foldl ageRow s).lif.quiet = s.lif.quiet ∧
    (l.foldl ageRow s).lif.rx = s.lif.rx ∧
    (l.foldl ageRow s).lif.leadFrom = s.lif.leadFrom ∧
    (l.foldl ageRow s).lif.cells = s.lif.cells ∧
    (l.foldl ageRow s).lif.report = s.lif.report ∧
    (l.foldl ageRow s).lif.rxHeader = s.lif.rxHeader ∧
    (l.foldl ageRow s).lif.rxStartedSending = s.lif.rxStartedSending ∧
    (l.foldl ageRow s).frh.lineState = s.frh.lineState ∧
    (l.foldl ageRow s).frh.joinTimer = s.frh.joinTimer ∧
    (l.foldl ageRow s).frh.nextSeq = s.frh.nextSeq ∧
    (l.foldl ageRow s).frh.outbox.trip = s.frh.outbox.trip ∧
    (l.foldl ageRow s).frh.outbox.clear = s.frh.outbox.clear ∧
    (l.foldl ageRow s).frh.outbox.replies = s.frh.outbox.replies ∧
    (l.foldl ageRow s).frh.outbox.restAsk = s.frh.outbox.restAsk ∧
    (l.foldl ageRow s).frh.outbox.demand = s.frh.outbox.demand ∧
    (l.foldl ageRow s).frh.inFlight = s.frh.inFlight ∧
    (l.foldl ageRow s).frh.lastDemand = s.frh.lastDemand ∧
    (l.foldl ageRow s).frh.notice = s.frh.notice ∧
    (l.foldl ageRow s).msu.gathered = s.msu.gathered ∧
    (l.foldl ageRow s).msu.idleReached = s.msu.idleReached ∧
    (l.foldl ageRow s).msu.awaitHigh = s.msu.awaitHigh ∧
    (l.foldl ageRow s).msu.rejected = s.msu.rejected ∧
    (l.foldl ageRow s).msu.lastRejection = s.msu.lastRejection ∧
    (l.foldl ageRow s).msu.latches = s.msu.latches ∧
    (l.foldl ageRow s).msu.windows = s.msu.windows ∧
    (l.foldl ageRow s).dtu.tripSet = s.dtu.tripSet ∧
    (l.foldl ageRow s).dtu.pendingTrip = s.dtu.pendingTrip ∧
    (l.foldl ageRow s).dtu.runAck = s.dtu.runAck ∧
    (l.foldl ageRow s).srg = s.srg ∧
    (l.foldl ageRow s).xcp = s.xcp ∧
    (l.foldl ageRow s).evu.refreshCount = s.evu.refreshCount ∧
    (l.foldl ageRow s).pnp = s.pnp ∧
    (l.foldl ageRow s).pending = s.pending from h _
  intro l
  induction l generalizing s with
  | nil => simp
  | cons n l ih =>
    have h := ih (ageRow s n)
    simp only [List.foldl_cons]
    simpa using h


/-- What `clearView` leaves as it stands. -/
@[simp] theorem clearView_keeps (s : State) :
    (clearView s).pins = s.pins ∧
    (clearView s).stl = s.stl ∧
    (clearView s).settings = s.settings ∧
    (clearView s).lif = s.lif ∧
    (clearView s).frh = s.frh ∧
    (clearView s).msu = s.msu ∧
    (clearView s).dtu.derateTotal = s.dtu.derateTotal ∧
    (clearView s).dtu.quietCount = s.dtu.quietCount ∧
    (clearView s).dtu.normalTarget = s.dtu.normalTarget ∧
    (clearView s).dtu.target = s.dtu.target ∧
    (clearView s).dtu.setpoint = s.dtu.setpoint ∧
    (clearView s).dtu.tripSet = s.dtu.tripSet ∧
    (clearView s).dtu.pendingTrip = s.dtu.pendingTrip ∧
    (clearView s).dtu.duty = s.dtu.duty ∧
    (clearView s).dtu.runReq = s.dtu.runReq ∧
    (clearView s).dtu.runAck = s.dtu.runAck ∧
    (clearView s).dtu.startTimer = s.dtu.startTimer ∧
    (clearView s).dtu.warmTimer = s.dtu.warmTimer ∧
    (clearView s).dtu.stopTimer = s.dtu.stopTimer ∧
    (clearView s).dtu.setpt = s.dtu.setpt ∧
    (clearView s).rng = s.rng ∧
    (clearView s).srg = s.srg ∧
    (clearView s).xcp = s.xcp ∧
    (clearView s).evu = s.evu ∧
    (clearView s).pnp = s.pnp ∧
    (clearView s).pending = s.pending := by
  simp only [clearView]
  repeat' split
  all_goals simp


/-- What `advanceRefreshCount` leaves as it stands. -/
@[simp] theorem advanceRefreshCount_keeps (s : State) :
    (advanceRefreshCount s).pins = s.pins ∧
    (advanceRefreshCount s).stl = s.stl ∧
    (advanceRefreshCount s).settings = s.settings ∧
    (advanceRefreshCount s).lif = s.lif ∧
    (advanceRefreshCount s).frh = s.frh ∧
    (advanceRefreshCount s).pvw = s.pvw ∧
    (advanceRefreshCount s).msu = s.msu ∧
    (advanceRefreshCount s).dtu = s.dtu ∧
    (advanceRefreshCount s).rng = s.rng ∧
    (advanceRefreshCount s).srg = s.srg ∧
    (advanceRefreshCount s).xcp = s.xcp ∧
    (advanceRefreshCount s).evu.queue = s.evu.queue ∧
    (advanceRefreshCount s).evu.dropped = s.evu.dropped ∧
    (advanceRefreshCount s).evu.channels = s.evu.channels ∧
    (advanceRefreshCount s).evu.dose0 = s.evu.dose0 ∧
    (advanceRefreshCount s).evu.dose1 = s.evu.dose1 ∧
    (advanceRefreshCount s).pnp = s.pnp ∧
    (advanceRefreshCount s).pending = s.pending := by
  and_intros <;> rfl


/-- What `publishDemand` leaves as it stands. -/
@[simp] theorem publishDemand_keeps (s : State) :
    (publishDemand s).pins = s.pins ∧
    (publishDemand s).stl = s.stl ∧
    (publishDemand s).settings = s.settings ∧
    (publishDemand s).lif.quiet = s.lif.quiet ∧
    (publishDemand s).lif.rx = s.lif.rx ∧
    (publishDemand s).lif.leadFrom = s.lif.leadFrom ∧
    (publishDemand s).lif.cells = s.lif.cells ∧
    (publishDemand s).lif.report = s.lif.report ∧
    (publishDemand s).lif.rxHeader = s.lif.rxHeader ∧
    (publishDemand s).lif.rxStartedSending = s.lif.rxStartedSending ∧
    (publishDemand s).frh.lineState = s.frh.lineState ∧
    (publishDemand s).frh.joinTimer = s.frh.joinTimer ∧
    (publishDemand s).frh.nextSeq = s.frh.nextSeq ∧
    (publishDemand s).frh.outbox.trip = s.frh.outbox.trip ∧
    (publishDemand s).frh.outbox.clear = s.frh.outbox.clear ∧
    (publishDemand s).frh.outbox.replies = s.frh.outbox.replies ∧
    (publishDemand s).frh.outbox.restAsk = s.frh.outbox.restAsk ∧
    (publishDemand s).frh.outbox.stateReport = s.frh.outbox.stateReport ∧
    (publishDemand s).frh.inFlight = s.frh.inFlight ∧
    (publishDemand s).frh.lastC = s.frh.lastC ∧
    (publishDemand s).frh.notice = s.frh.notice ∧
    (publishDemand s).pvw = s.pvw ∧
    (publishDemand s).msu = s.msu ∧
    (publishDemand s).dtu = s.dtu ∧
    (publishDemand s).rng = s.rng ∧
    (publishDemand s).srg = s.srg ∧
    (publishDemand s).xcp = s.xcp ∧
    (publishDemand s).evu = s.evu ∧
    (publishDemand s).pnp = s.pnp ∧
    (publishDemand s).pending = s.pending := by
  simp [publishDemand]


/-- What `periodicEntry` leaves as it stands. -/
@[simp] theorem periodicEntry_keeps (s : State) :
    (periodicEntry s).pins = s.pins ∧
    (periodicEntry s).stl = s.stl ∧
    (periodicEntry s).settings = s.settings ∧
    (periodicEntry s).lif.quiet = s.lif.quiet ∧
    (periodicEntry s).lif.rx = s.lif.rx ∧
    (periodicEntry s).lif.leadFrom = s.lif.leadFrom ∧
    (periodicEntry s).lif.cells = s.lif.cells ∧
    (periodicEntry s).lif.report = s.lif.report ∧
    (periodicEntry s).lif.rxHeader = s.lif.rxHeader ∧
    (periodicEntry s).lif.rxStartedSending = s.lif.rxStartedSending ∧
    (periodicEntry s).frh.lineState = s.frh.lineState ∧
    (periodicEntry s).frh.joinTimer = s.frh.joinTimer ∧
    (periodicEntry s).frh.nextSeq = s.frh.nextSeq ∧
    (periodicEntry s).frh.outbox.trip = s.frh.outbox.trip ∧
    (periodicEntry s).frh.outbox.clear = s.frh.outbox.clear ∧
    (periodicEntry s).frh.outbox.replies = s.frh.outbox.replies ∧
    (periodicEntry s).frh.outbox.restAsk = s.frh.outbox.restAsk ∧
    (periodicEntry s).frh.inFlight = s.frh.inFlight ∧
    (periodicEntry s).frh.notice = s.frh.notice ∧
    (periodicEntry s).pvw = s.pvw ∧
    (periodicEntry s).msu = s.msu ∧
    (periodicEntry s).dtu = s.dtu ∧
    (periodicEntry s).rng = s.rng ∧
    (periodicEntry s).srg = s.srg ∧
    (periodicEntry s).xcp = s.xcp ∧
    (periodicEntry s).evu = s.evu ∧
    (periodicEntry s).pnp = s.pnp ∧
    (periodicEntry s).pending = s.pending := by
  simp only [periodicEntry]
  repeat' split
  all_goals simp


end Sys2Proof.Machine
end

