-- ==== Sys2Proof/Laws/Frames.lean ====
section
/-! SUPPORT. What each operation of Machine/Send.lean, Machine/Receive.lean and Machine/Idle.lean leaves as it stands. -/

namespace Sys2Proof.Machine

/-- What `emptied` leaves as it stands. -/
@[simp] theorem emptied_keeps (l : LineState) (t : Timer) (s : State) :
    (emptied l t s).pins = s.pins ∧
    (emptied l t s).stl = s.stl ∧
    (emptied l t s).settings = s.settings ∧
    (emptied l t s).lif.quiet = s.lif.quiet ∧
    (emptied l t s).lif.rx = s.lif.rx ∧
    (emptied l t s).lif.leadFrom = s.lif.leadFrom ∧
    (emptied l t s).lif.cells = s.lif.cells ∧
    (emptied l t s).lif.report = s.lif.report ∧
    (emptied l t s).lif.rxHeader = s.lif.rxHeader ∧
    (emptied l t s).lif.rxStartedSending = s.lif.rxStartedSending ∧
    (emptied l t s).frh.nextSeq = s.frh.nextSeq ∧
    (emptied l t s).frh.notice = s.frh.notice ∧
    (emptied l t s).pvw = s.pvw ∧
    (emptied l t s).msu = s.msu ∧
    (emptied l t s).dtu = s.dtu ∧
    (emptied l t s).rng = s.rng ∧
    (emptied l t s).srg = s.srg ∧
    (emptied l t s).xcp = s.xcp ∧
    (emptied l t s).evu = s.evu ∧
    (emptied l t s).pnp = s.pnp ∧
    (emptied l t s).pending = s.pending := by
  and_intros <;> rfl


/-- What `leaveActive` leaves as it stands. -/
@[simp] theorem leaveActive_keeps (l : LineState) (t : Timer) (s : State) :
    (leaveActive l t s).pins = s.pins ∧
    (leaveActive l t s).stl = s.stl ∧
    (leaveActive l t s).settings = s.settings ∧
    (leaveActive l t s).lif.quiet = s.lif.quiet ∧
    (leaveActive l t s).lif.rx = s.lif.rx ∧
    (leaveActive l t s).lif.leadFrom = s.lif.leadFrom ∧
    (leaveActive l t s).lif.cells = s.lif.cells ∧
    (leaveActive l t s).lif.report = s.lif.report ∧
    (leaveActive l t s).lif.rxHeader = s.lif.rxHeader ∧
    (leaveActive l t s).lif.rxStartedSending = s.lif.rxStartedSending ∧
    (leaveActive l t s).frh.nextSeq = s.frh.nextSeq ∧
    (leaveActive l t s).frh.notice = s.frh.notice ∧
    (leaveActive l t s).pvw = s.pvw ∧
    (leaveActive l t s).msu.gathered = s.msu.gathered ∧
    (leaveActive l t s).msu.idleReached = s.msu.idleReached ∧
    (leaveActive l t s).msu.awaitHigh = s.msu.awaitHigh ∧
    (leaveActive l t s).msu.rejected = s.msu.rejected ∧
    (leaveActive l t s).msu.lastRejection = s.msu.lastRejection ∧
    (leaveActive l t s).msu.latches = s.msu.latches ∧
    (leaveActive l t s).msu.windows = s.msu.windows ∧
    (leaveActive l t s).dtu.tripSet = s.dtu.tripSet ∧
    (leaveActive l t s).dtu.pendingTrip = s.dtu.pendingTrip ∧
    (leaveActive l t s).dtu.runAck = s.dtu.runAck ∧
    (leaveActive l t s).rng.grants = s.rng.grants ∧
    (leaveActive l t s).srg = s.srg ∧
    (leaveActive l t s).xcp = s.xcp ∧
    (leaveActive l t s).evu.refreshCount = s.evu.refreshCount ∧
    (leaveActive l t s).pnp = s.pnp ∧
    (leaveActive l t s).pending = s.pending := by
  simp only [leaveActive]
  suffices h : ∀ (l : List (Option Octet)) (u : State), (l.foldl (fun s q => reportDropped q s) u).pins = u.pins ∧
    (l.foldl (fun s q => reportDropped q s) u).stl = u.stl ∧
    (l.foldl (fun s q => reportDropped q s) u).settings = u.settings ∧
    (l.foldl (fun s q => reportDropped q s) u).lif.quiet = u.lif.quiet ∧
    (l.foldl (fun s q => reportDropped q s) u).lif.rx = u.lif.rx ∧
    (l.foldl (fun s q => reportDropped q s) u).lif.leadFrom = u.lif.leadFrom ∧
    (l.foldl (fun s q => reportDropped q s) u).lif.cells = u.lif.cells ∧
    (l.foldl (fun s q => reportDropped q s) u).lif.report = u.lif.report ∧
    (l.foldl (fun s q => reportDropped q s) u).lif.rxHeader = u.lif.rxHeader ∧
    (l.foldl (fun s q => reportDropped q s) u).lif.rxStartedSending = u.lif.rxStartedSending ∧
    (l.foldl (fun s q => reportDropped q s) u).frh.nextSeq = u.frh.nextSeq ∧
    (l.foldl (fun s q => reportDropped q s) u).frh.notice = u.frh.notice ∧
    (l.foldl (fun s q => reportDropped q s) u).pvw = u.pvw ∧
    (l.foldl (fun s q => reportDropped q s) u).msu.gathered = u.msu.gathered ∧
    (l.foldl (fun s q => reportDropped q s) u).msu.idleReached = u.msu.idleReached ∧
    (l.foldl (fun s q => reportDropped q s) u).msu.awaitHigh = u.msu.awaitHigh ∧
    (l.foldl (fun s q => reportDropped q s) u).msu.rejected = u.msu.rejected ∧
    (l.foldl (fun s q => reportDropped q s) u).msu.lastRejection = u.msu.lastRejection ∧
    (l.foldl (fun s q => reportDropped q s) u).msu.latches = u.msu.latches ∧
    (l.foldl (fun s q => reportDropped q s) u).msu.windows = u.msu.windows ∧
    (l.foldl (fun s q => reportDropped q s) u).dtu.tripSet = u.dtu.tripSet ∧
    (l.foldl (fun s q => reportDropped q s) u).dtu.pendingTrip = u.dtu.pendingTrip ∧
    (l.foldl (fun s q => reportDropped q s) u).dtu.runAck = u.dtu.runAck ∧
    (l.foldl (fun s q => reportDropped q s) u).rng.grants = u.rng.grants ∧
    (l.foldl (fun s q => reportDropped q s) u).srg = u.srg ∧
    (l.foldl (fun s q => reportDropped q s) u).xcp = u.xcp ∧
    (l.foldl (fun s q => reportDropped q s) u).evu.refreshCount = u.evu.refreshCount ∧
    (l.foldl (fun s q => reportDropped q s) u).pnp = u.pnp ∧
    (l.foldl (fun s q => reportDropped q s) u).pending = u.pending from by simpa using h (removedAsks s) (emptied l t s)
  intro l
  induction l with
  | nil => intro u; simp
  | cons n l ih =>
    intro u
    have h := ih (reportDropped n u)
    simp only [List.foldl_cons]
    simpa using h


/-- What `enterJoining` leaves as it stands. -/
@[simp] theorem enterJoining_keeps (s : State) :
    (enterJoining s).pins = s.pins ∧
    (enterJoining s).stl = s.stl ∧
    (enterJoining s).settings = s.settings ∧
    (enterJoining s).lif.quiet = s.lif.quiet ∧
    (enterJoining s).lif.rx = s.lif.rx ∧
    (enterJoining s).lif.leadFrom = s.lif.leadFrom ∧
    (enterJoining s).lif.cells = s.lif.cells ∧
    (enterJoining s).lif.report = s.lif.report ∧
    (enterJoining s).lif.rxHeader = s.lif.rxHeader ∧
    (enterJoining s).lif.rxStartedSending = s.lif.rxStartedSending ∧
    (enterJoining s).frh.nextSeq = s.frh.nextSeq ∧
    (enterJoining s).frh.notice = s.frh.notice ∧
    (enterJoining s).pvw = s.pvw ∧
    (enterJoining s).msu.gathered = s.msu.gathered ∧
    (enterJoining s).msu.idleReached = s.msu.idleReached ∧
    (enterJoining s).msu.awaitHigh = s.msu.awaitHigh ∧
    (enterJoining s).msu.rejected = s.msu.rejected ∧
    (enterJoining s).msu.lastRejection = s.msu.lastRejection ∧
    (enterJoining s).msu.latches = s.msu.latches ∧
    (enterJoining s).msu.windows = s.msu.windows ∧
    (enterJoining s).dtu.tripSet = s.dtu.tripSet ∧
    (enterJoining s).dtu.pendingTrip = s.dtu.pendingTrip ∧
    (enterJoining s).dtu.runAck = s.dtu.runAck ∧
    (enterJoining s).rng.grants = s.rng.grants ∧
    (enterJoining s).srg = s.srg ∧
    (enterJoining s).xcp = s.xcp ∧
    (enterJoining s).evu.refreshCount = s.evu.refreshCount ∧
    (enterJoining s).pnp = s.pnp ∧
    (enterJoining s).pending = s.pending := by
  simp [enterJoining]


/-- What `enterListenOnly` leaves as it stands. -/
@[simp] theorem enterListenOnly_keeps (s : State) :
    (enterListenOnly s).pins = s.pins ∧
    (enterListenOnly s).stl = s.stl ∧
    (enterListenOnly s).settings = s.settings ∧
    (enterListenOnly s).lif.quiet = s.lif.quiet ∧
    (enterListenOnly s).lif.rx = s.lif.rx ∧
    (enterListenOnly s).lif.leadFrom = s.lif.leadFrom ∧
    (enterListenOnly s).lif.cells = s.lif.cells ∧
    (enterListenOnly s).lif.report = s.lif.report ∧
    (enterListenOnly s).lif.rxHeader = s.lif.rxHeader ∧
    (enterListenOnly s).lif.rxStartedSending = s.lif.rxStartedSending ∧
    (enterListenOnly s).frh.nextSeq = s.frh.nextSeq ∧
    (enterListenOnly s).frh.notice = s.frh.notice ∧
    (enterListenOnly s).pvw = s.pvw ∧
    (enterListenOnly s).msu.gathered = s.msu.gathered ∧
    (enterListenOnly s).msu.idleReached = s.msu.idleReached ∧
    (enterListenOnly s).msu.awaitHigh = s.msu.awaitHigh ∧
    (enterListenOnly s).msu.rejected = s.msu.rejected ∧
    (enterListenOnly s).msu.lastRejection = s.msu.lastRejection ∧
    (enterListenOnly s).msu.latches = s.msu.latches ∧
    (enterListenOnly s).msu.windows = s.msu.windows ∧
    (enterListenOnly s).dtu.tripSet = s.dtu.tripSet ∧
    (enterListenOnly s).dtu.pendingTrip = s.dtu.pendingTrip ∧
    (enterListenOnly s).dtu.runAck = s.dtu.runAck ∧
    (enterListenOnly s).rng.grants = s.rng.grants ∧
    (enterListenOnly s).srg = s.srg ∧
    (enterListenOnly s).xcp = s.xcp ∧
    (enterListenOnly s).evu.refreshCount = s.evu.refreshCount ∧
    (enterListenOnly s).pnp = s.pnp ∧
    (enterListenOnly s).pending = s.pending := by
  simp [enterListenOnly]


/-- What `enterActive` leaves as it stands. -/
@[simp] theorem enterActive_keeps (s : State) :
    (enterActive s).pins = s.pins ∧
    (enterActive s).stl = s.stl ∧
    (enterActive s).settings = s.settings ∧
    (enterActive s).lif.quiet = s.lif.quiet ∧
    (enterActive s).lif.rx = s.lif.rx ∧
    (enterActive s).lif.leadFrom = s.lif.leadFrom ∧
    (enterActive s).lif.cells = s.lif.cells ∧
    (enterActive s).lif.report = s.lif.report ∧
    (enterActive s).lif.rxHeader = s.lif.rxHeader ∧
    (enterActive s).lif.rxStartedSending = s.lif.rxStartedSending ∧
    (enterActive s).frh.nextSeq = s.frh.nextSeq ∧
    (enterActive s).frh.outbox = s.frh.outbox ∧
    (enterActive s).frh.inFlight = s.frh.inFlight ∧
    (enterActive s).frh.lastC = s.frh.lastC ∧
    (enterActive s).frh.lastDemand = s.frh.lastDemand ∧
    (enterActive s).frh.notice = s.frh.notice ∧
    (enterActive s).pvw = s.pvw ∧
    (enterActive s).msu = s.msu ∧
    (enterActive s).dtu.derateTotal = s.dtu.derateTotal ∧
    (enterActive s).dtu.quietCount = s.dtu.quietCount ∧
    (enterActive s).dtu.normalTarget = s.dtu.normalTarget ∧
    (enterActive s).dtu.target = s.dtu.target ∧
    (enterActive s).dtu.setpoint = s.dtu.setpoint ∧
    (enterActive s).dtu.tripSet = s.dtu.tripSet ∧
    (enterActive s).dtu.pendingTrip = s.dtu.pendingTrip ∧
    (enterActive s).dtu.duty = s.dtu.duty ∧
    (enterActive s).dtu.runReq = s.dtu.runReq ∧
    (enterActive s).dtu.runAck = s.dtu.runAck ∧
    (enterActive s).dtu.startTimer = s.dtu.startTimer ∧
    (enterActive s).dtu.warmTimer = s.dtu.warmTimer ∧
    (enterActive s).dtu.stopTimer = s.dtu.stopTimer ∧
    (enterActive s).dtu.setpt = s.dtu.setpt ∧
    (enterActive s).rng = s.rng ∧
    (enterActive s).srg = s.srg ∧
    (enterActive s).xcp = s.xcp ∧
    (enterActive s).evu = s.evu ∧
    (enterActive s).pnp = s.pnp ∧
    (enterActive s).pending = s.pending := by
  simp [enterActive]


/-- What `beginAttempt` leaves as it stands. -/
@[simp] theorem beginAttempt_keeps (s : State) :
    (beginAttempt s).pins = s.pins ∧
    (beginAttempt s).stl = s.stl ∧
    (beginAttempt s).settings = s.settings ∧
    (beginAttempt s).lif.quiet = s.lif.quiet ∧
    (beginAttempt s).lif.rx = s.lif.rx ∧
    (beginAttempt s).lif.leadFrom = s.lif.leadFrom ∧
    (beginAttempt s).lif.cells = s.lif.cells ∧
    (beginAttempt s).lif.report = s.lif.report ∧
    (beginAttempt s).lif.rxHeader = s.lif.rxHeader ∧
    (beginAttempt s).lif.rxStartedSending = s.lif.rxStartedSending ∧
    (beginAttempt s).frh.lineState = s.frh.lineState ∧
    (beginAttempt s).frh.joinTimer = s.frh.joinTimer ∧
    (beginAttempt s).frh.lastC = s.frh.lastC ∧
    (beginAttempt s).frh.lastDemand = s.frh.lastDemand ∧
    (beginAttempt s).frh.notice = s.frh.notice ∧
    (beginAttempt s).pvw = s.pvw ∧
    (beginAttempt s).msu = s.msu ∧
    (beginAttempt s).dtu = s.dtu ∧
    (beginAttempt s).rng.grants = s.rng.grants ∧
    (beginAttempt s).rng.holdOff = s.rng.holdOff ∧
    (beginAttempt s).srg = s.srg ∧
    (beginAttempt s).xcp = s.xcp ∧
    (beginAttempt s).evu = s.evu ∧
    (beginAttempt s).pnp = s.pnp ∧
    (beginAttempt s).pending = s.pending := by
  simp only [beginAttempt]
  repeat' split
  all_goals simp


/-- What `endAttempt` leaves as it stands. -/
@[simp] theorem endAttempt_keeps (s : State) :
    (endAttempt s).pins = s.pins ∧
    (endAttempt s).stl = s.stl ∧
    (endAttempt s).settings = s.settings ∧
    (endAttempt s).lif.quiet = s.lif.quiet ∧
    (endAttempt s).lif.rx = s.lif.rx ∧
    (endAttempt s).lif.leadFrom = s.lif.leadFrom ∧
    (endAttempt s).lif.cells = s.lif.cells ∧
    (endAttempt s).lif.report = s.lif.report ∧
    (endAttempt s).lif.rxHeader = s.lif.rxHeader ∧
    (endAttempt s).lif.rxStartedSending = s.lif.rxStartedSending ∧
    (endAttempt s).frh.lineState = s.frh.lineState ∧
    (endAttempt s).frh.joinTimer = s.frh.joinTimer ∧
    (endAttempt s).frh.nextSeq = s.frh.nextSeq ∧
    (endAttempt s).frh.outbox = s.frh.outbox ∧
    (endAttempt s).frh.lastC = s.frh.lastC ∧
    (endAttempt s).frh.lastDemand = s.frh.lastDemand ∧
    (endAttempt s).frh.notice = s.frh.notice ∧
    (endAttempt s).pvw = s.pvw ∧
    (endAttempt s).msu = s.msu ∧
    (endAttempt s).dtu = s.dtu ∧
    (endAttempt s).rng = s.rng ∧
    (endAttempt s).srg = s.srg ∧
    (endAttempt s).xcp = s.xcp ∧
    (endAttempt s).evu = s.evu ∧
    (endAttempt s).pnp = s.pnp ∧
    (endAttempt s).pending = s.pending := by
  simp [endAttempt]


/-- What `settleSent` leaves as it stands. -/
@[simp] theorem settleSent_keeps (f : InFlight) (s : State) :
    (settleSent f s).pins = s.pins ∧
    (settleSent f s).stl = s.stl ∧
    (settleSent f s).settings = s.settings ∧
    (settleSent f s).lif.quiet = s.lif.quiet ∧
    (settleSent f s).lif.rx = s.lif.rx ∧
    (settleSent f s).lif.leadFrom = s.lif.leadFrom ∧
    (settleSent f s).lif.cells = s.lif.cells ∧
    (settleSent f s).lif.report = s.lif.report ∧
    (settleSent f s).lif.rxHeader = s.lif.rxHeader ∧
    (settleSent f s).lif.rxStartedSending = s.lif.rxStartedSending ∧
    (settleSent f s).frh.lineState = s.frh.lineState ∧
    (settleSent f s).frh.joinTimer = s.frh.joinTimer ∧
    (settleSent f s).frh.nextSeq = s.frh.nextSeq ∧
    (settleSent f s).frh.outbox.trip = s.frh.outbox.trip ∧
    (settleSent f s).frh.outbox.clear = s.frh.outbox.clear ∧
    (settleSent f s).frh.outbox.replies = s.frh.outbox.replies ∧
    (settleSent f s).frh.outbox.restAsk = s.frh.outbox.restAsk ∧
    (settleSent f s).frh.outbox.demand = s.frh.outbox.demand ∧
    (settleSent f s).frh.lastDemand = s.frh.lastDemand ∧
    (settleSent f s).frh.notice = s.frh.notice ∧
    (settleSent f s).pvw = s.pvw ∧
    (settleSent f s).msu.gathered = s.msu.gathered ∧
    (settleSent f s).msu.idleReached = s.msu.idleReached ∧
    (settleSent f s).msu.awaitHigh = s.msu.awaitHigh ∧
    (settleSent f s).msu.rejected = s.msu.rejected ∧
    (settleSent f s).msu.lastRejection = s.msu.lastRejection ∧
    (settleSent f s).msu.latches = s.msu.latches ∧
    (settleSent f s).msu.windows = s.msu.windows ∧
    (settleSent f s).dtu.tripSet = s.dtu.tripSet ∧
    (settleSent f s).dtu.pendingTrip = s.dtu.pendingTrip ∧
    (settleSent f s).dtu.runAck = s.dtu.runAck ∧
    (settleSent f s).rng.grants = s.rng.grants ∧
    (settleSent f s).srg = s.srg ∧
    (settleSent f s).xcp = s.xcp ∧
    (settleSent f s).evu.refreshCount = s.evu.refreshCount ∧
    (settleSent f s).pnp = s.pnp ∧
    (settleSent f s).pending = s.pending := by
  simp only [settleSent]
  repeat' split
  all_goals simp


/-- What `settleSlots` leaves as it stands. -/
@[simp] theorem settleSlots_keeps (f : InFlight) (s : State) :
    (settleSlots f s).pins = s.pins ∧
    (settleSlots f s).stl = s.stl ∧
    (settleSlots f s).settings = s.settings ∧
    (settleSlots f s).lif.quiet = s.lif.quiet ∧
    (settleSlots f s).lif.rx = s.lif.rx ∧
    (settleSlots f s).lif.leadFrom = s.lif.leadFrom ∧
    (settleSlots f s).lif.cells = s.lif.cells ∧
    (settleSlots f s).lif.report = s.lif.report ∧
    (settleSlots f s).lif.rxHeader = s.lif.rxHeader ∧
    (settleSlots f s).lif.rxStartedSending = s.lif.rxStartedSending ∧
    (settleSlots f s).frh.lineState = s.frh.lineState ∧
    (settleSlots f s).frh.joinTimer = s.frh.joinTimer ∧
    (settleSlots f s).frh.nextSeq = s.frh.nextSeq ∧
    (settleSlots f s).frh.inFlight = s.frh.inFlight ∧
    (settleSlots f s).frh.lastDemand = s.frh.lastDemand ∧
    (settleSlots f s).frh.notice = s.frh.notice ∧
    (settleSlots f s).pvw = s.pvw ∧
    (settleSlots f s).msu.gathered = s.msu.gathered ∧
    (settleSlots f s).msu.idleReached = s.msu.idleReached ∧
    (settleSlots f s).msu.awaitHigh = s.msu.awaitHigh ∧
    (settleSlots f s).msu.rejected = s.msu.rejected ∧
    (settleSlots f s).msu.lastRejection = s.msu.lastRejection ∧
    (settleSlots f s).msu.latches = s.msu.latches ∧
    (settleSlots f s).msu.windows = s.msu.windows ∧
    (settleSlots f s).dtu.normalTarget = s.dtu.normalTarget ∧
    (settleSlots f s).dtu.setpoint = s.dtu.setpoint ∧
    (settleSlots f s).dtu.tripSet = s.dtu.tripSet ∧
    (settleSlots f s).dtu.pendingTrip = s.dtu.pendingTrip ∧
    (settleSlots f s).dtu.duty = s.dtu.duty ∧
    (settleSlots f s).dtu.runReq = s.dtu.runReq ∧
    (settleSlots f s).dtu.runAck = s.dtu.runAck ∧
    (settleSlots f s).dtu.startTimer = s.dtu.startTimer ∧
    (settleSlots f s).dtu.warmTimer = s.dtu.warmTimer ∧
    (settleSlots f s).dtu.stopTimer = s.dtu.stopTimer ∧
    (settleSlots f s).dtu.setpt = s.dtu.setpt ∧
    (settleSlots f s).rng = s.rng ∧
    (settleSlots f s).srg = s.srg ∧
    (settleSlots f s).xcp = s.xcp ∧
    (settleSlots f s).evu.refreshCount = s.evu.refreshCount ∧
    (settleSlots f s).pnp = s.pnp ∧
    (settleSlots f s).pending = s.pending := by
  simp only [settleSlots]
  repeat' split
  all_goals simp


/-- What `limitCheck` leaves as it stands. -/
@[simp] theorem limitCheck_keeps (k : FrameKind) (p : FailPoint) (s : State) :
    (limitCheck k p s).pins = s.pins ∧
    (limitCheck k p s).stl = s.stl ∧
    (limitCheck k p s).settings = s.settings ∧
    (limitCheck k p s).lif.quiet = s.lif.quiet ∧
    (limitCheck k p s).lif.rx = s.lif.rx ∧
    (limitCheck k p s).lif.leadFrom = s.lif.leadFrom ∧
    (limitCheck k p s).lif.cells = s.lif.cells ∧
    (limitCheck k p s).lif.report = s.lif.report ∧
    (limitCheck k p s).lif.rxHeader = s.lif.rxHeader ∧
    (limitCheck k p s).lif.rxStartedSending = s.lif.rxStartedSending ∧
    (limitCheck k p s).frh.lineState = s.frh.lineState ∧
    (limitCheck k p s).frh.joinTimer = s.frh.joinTimer ∧
    (limitCheck k p s).frh.nextSeq = s.frh.nextSeq ∧
    (limitCheck k p s).frh.inFlight = s.frh.inFlight ∧
    (limitCheck k p s).frh.lastDemand = s.frh.lastDemand ∧
    (limitCheck k p s).frh.notice = s.frh.notice ∧
    (limitCheck k p s).pvw = s.pvw ∧
    (limitCheck k p s).msu.gathered = s.msu.gathered ∧
    (limitCheck k p s).msu.idleReached = s.msu.idleReached ∧
    (limitCheck k p s).msu.awaitHigh = s.msu.awaitHigh ∧
    (limitCheck k p s).msu.rejected = s.msu.rejected ∧
    (limitCheck k p s).msu.lastRejection = s.msu.lastRejection ∧
    (limitCheck k p s).msu.latches = s.msu.latches ∧
    (limitCheck k p s).msu.windows = s.msu.windows ∧
    (limitCheck k p s).dtu.tripSet = s.dtu.tripSet ∧
    (limitCheck k p s).dtu.pendingTrip = s.dtu.pendingTrip ∧
    (limitCheck k p s).dtu.runAck = s.dtu.runAck ∧
    (limitCheck k p s).rng.grants = s.rng.grants ∧
    (limitCheck k p s).srg = s.srg ∧
    (limitCheck k p s).xcp = s.xcp ∧
    (limitCheck k p s).evu.refreshCount = s.evu.refreshCount ∧
    (limitCheck k p s).pnp = s.pnp ∧
    (limitCheck k p s).pending = s.pending := by
  simp only [limitCheck]
  repeat' split
  all_goals simp


/-- What `settleFailed` leaves as it stands. -/
@[simp] theorem settleFailed_keeps (f : InFlight) (p : FailPoint) (s : State) :
    (settleFailed f p s).pins = s.pins ∧
    (settleFailed f p s).stl = s.stl ∧
    (settleFailed f p s).settings = s.settings ∧
    (settleFailed f p s).lif.quiet = s.lif.quiet ∧
    (settleFailed f p s).lif.rx = s.lif.rx ∧
    (settleFailed f p s).lif.leadFrom = s.lif.leadFrom ∧
    (settleFailed f p s).lif.cells = s.lif.cells ∧
    (settleFailed f p s).lif.report = s.lif.report ∧
    (settleFailed f p s).lif.rxHeader = s.lif.rxHeader ∧
    (settleFailed f p s).lif.rxStartedSending = s.lif.rxStartedSending ∧
    (settleFailed f p s).frh.lineState = s.frh.lineState ∧
    (settleFailed f p s).frh.joinTimer = s.frh.joinTimer ∧
    (settleFailed f p s).frh.nextSeq = s.frh.nextSeq ∧
    (settleFailed f p s).frh.lastDemand = s.frh.lastDemand ∧
    (settleFailed f p s).frh.notice = s.frh.notice ∧
    (settleFailed f p s).pvw = s.pvw ∧
    (settleFailed f p s).msu.gathered = s.msu.gathered ∧
    (settleFailed f p s).msu.idleReached = s.msu.idleReached ∧
    (settleFailed f p s).msu.awaitHigh = s.msu.awaitHigh ∧
    (settleFailed f p s).msu.rejected = s.msu.rejected ∧
    (settleFailed f p s).msu.lastRejection = s.msu.lastRejection ∧
    (settleFailed f p s).msu.latches = s.msu.latches ∧
    (settleFailed f p s).msu.windows = s.msu.windows ∧
    (settleFailed f p s).dtu.tripSet = s.dtu.tripSet ∧
    (settleFailed f p s).dtu.pendingTrip = s.dtu.pendingTrip ∧
    (settleFailed f p s).dtu.runAck = s.dtu.runAck ∧
    (settleFailed f p s).rng.grants = s.rng.grants ∧
    (settleFailed f p s).srg = s.srg ∧
    (settleFailed f p s).xcp = s.xcp ∧
    (settleFailed f p s).evu.refreshCount = s.evu.refreshCount ∧
    (settleFailed f p s).pnp = s.pnp ∧
    (settleFailed f p s).pending = s.pending := by
  simp [settleFailed]


/-- What `rxHunt` leaves as it stands. -/
@[simp] theorem rxHunt_keeps (s : State) :
    (rxHunt s).pins = s.pins ∧
    (rxHunt s).stl = s.stl ∧
    (rxHunt s).settings = s.settings ∧
    (rxHunt s).lif.tx = s.lif.tx ∧
    (rxHunt s).lif.quiet = s.lif.quiet ∧
    (rxHunt s).frh = s.frh ∧
    (rxHunt s).pvw = s.pvw ∧
    (rxHunt s).msu = s.msu ∧
    (rxHunt s).dtu = s.dtu ∧
    (rxHunt s).rng = s.rng ∧
    (rxHunt s).srg = s.srg ∧
    (rxHunt s).xcp = s.xcp ∧
    (rxHunt s).evu = s.evu ∧
    (rxHunt s).pnp = s.pnp ∧
    (rxHunt s).pending = s.pending := by
  and_intros <;> rfl


/-- What `closeNotice` leaves as it stands. -/
@[simp] theorem closeNotice_keeps (d : Nat) (s : State) :
    (closeNotice d s).pins = s.pins ∧
    (closeNotice d s).stl = s.stl ∧
    (closeNotice d s).settings = s.settings ∧
    (closeNotice d s).lif.quiet = s.lif.quiet ∧
    (closeNotice d s).lif.rx = s.lif.rx ∧
    (closeNotice d s).lif.leadFrom = s.lif.leadFrom ∧
    (closeNotice d s).lif.cells = s.lif.cells ∧
    (closeNotice d s).lif.report = s.lif.report ∧
    (closeNotice d s).lif.rxHeader = s.lif.rxHeader ∧
    (closeNotice d s).lif.rxStartedSending = s.lif.rxStartedSending ∧
    (closeNotice d s).frh.lineState = s.frh.lineState ∧
    (closeNotice d s).frh.joinTimer = s.frh.joinTimer ∧
    (closeNotice d s).frh.nextSeq = s.frh.nextSeq ∧
    (closeNotice d s).frh.outbox.trip = s.frh.outbox.trip ∧
    (closeNotice d s).frh.outbox.clear = s.frh.outbox.clear ∧
    (closeNotice d s).frh.outbox.replies = s.frh.outbox.replies ∧
    (closeNotice d s).frh.outbox.restAsk = s.frh.outbox.restAsk ∧
    (closeNotice d s).frh.outbox.demand = s.frh.outbox.demand ∧
    (closeNotice d s).frh.inFlight = s.frh.inFlight ∧
    (closeNotice d s).frh.lastDemand = s.frh.lastDemand ∧
    (closeNotice d s).pvw = s.pvw ∧
    (closeNotice d s).msu.gathered = s.msu.gathered ∧
    (closeNotice d s).msu.idleReached = s.msu.idleReached ∧
    (closeNotice d s).msu.awaitHigh = s.msu.awaitHigh ∧
    (closeNotice d s).msu.rejected = s.msu.rejected ∧
    (closeNotice d s).msu.lastRejection = s.msu.lastRejection ∧
    (closeNotice d s).msu.latches = s.msu.latches ∧
    (closeNotice d s).msu.windows = s.msu.windows ∧
    (closeNotice d s).dtu.normalTarget = s.dtu.normalTarget ∧
    (closeNotice d s).dtu.setpoint = s.dtu.setpoint ∧
    (closeNotice d s).dtu.tripSet = s.dtu.tripSet ∧
    (closeNotice d s).dtu.duty = s.dtu.duty ∧
    (closeNotice d s).dtu.runReq = s.dtu.runReq ∧
    (closeNotice d s).dtu.runAck = s.dtu.runAck ∧
    (closeNotice d s).dtu.startTimer = s.dtu.startTimer ∧
    (closeNotice d s).dtu.warmTimer = s.dtu.warmTimer ∧
    (closeNotice d s).dtu.stopTimer = s.dtu.stopTimer ∧
    (closeNotice d s).dtu.setpt = s.dtu.setpt ∧
    (closeNotice d s).rng = s.rng ∧
    (closeNotice d s).srg = s.srg ∧
    (closeNotice d s).xcp = s.xcp ∧
    (closeNotice d s).evu.refreshCount = s.evu.refreshCount ∧
    (closeNotice d s).pnp = s.pnp ∧
    (closeNotice d s).pending = s.pending := by
  simp only [closeNotice]
  repeat' split
  all_goals simp


/-- What `malformed` leaves as it stands. -/
@[simp] theorem malformed_keeps (r : Nat) (s : State) :
    (malformed r s).pins = s.pins ∧
    (malformed r s).stl = s.stl ∧
    (malformed r s).settings = s.settings ∧
    (malformed r s).lif.quiet = s.lif.quiet ∧
    (malformed r s).lif.rx = s.lif.rx ∧
    (malformed r s).lif.leadFrom = s.lif.leadFrom ∧
    (malformed r s).lif.cells = s.lif.cells ∧
    (malformed r s).lif.report = s.lif.report ∧
    (malformed r s).lif.rxHeader = s.lif.rxHeader ∧
    (malformed r s).lif.rxStartedSending = s.lif.rxStartedSending ∧
    (malformed r s).frh.lineState = s.frh.lineState ∧
    (malformed r s).frh.joinTimer = s.frh.joinTimer ∧
    (malformed r s).frh.nextSeq = s.frh.nextSeq ∧
    (malformed r s).frh.outbox.trip = s.frh.outbox.trip ∧
    (malformed r s).frh.outbox.clear = s.frh.outbox.clear ∧
    (malformed r s).frh.outbox.replies = s.frh.outbox.replies ∧
    (malformed r s).frh.outbox.restAsk = s.frh.outbox.restAsk ∧
    (malformed r s).frh.outbox.demand = s.frh.outbox.demand ∧
    (malformed r s).frh.inFlight = s.frh.inFlight ∧
    (malformed r s).frh.lastDemand = s.frh.lastDemand ∧
    (malformed r s).pvw = s.pvw ∧
    (malformed r s).msu.gathered = s.msu.gathered ∧
    (malformed r s).msu.idleReached = s.msu.idleReached ∧
    (malformed r s).msu.awaitHigh = s.msu.awaitHigh ∧
    (malformed r s).msu.rejected = s.msu.rejected ∧
    (malformed r s).msu.lastRejection = s.msu.lastRejection ∧
    (malformed r s).msu.latches = s.msu.latches ∧
    (malformed r s).msu.windows = s.msu.windows ∧
    (malformed r s).dtu.normalTarget = s.dtu.normalTarget ∧
    (malformed r s).dtu.setpoint = s.dtu.setpoint ∧
    (malformed r s).dtu.tripSet = s.dtu.tripSet ∧
    (malformed r s).dtu.duty = s.dtu.duty ∧
    (malformed r s).dtu.runReq = s.dtu.runReq ∧
    (malformed r s).dtu.runAck = s.dtu.runAck ∧
    (malformed r s).dtu.startTimer = s.dtu.startTimer ∧
    (malformed r s).dtu.warmTimer = s.dtu.warmTimer ∧
    (malformed r s).dtu.stopTimer = s.dtu.stopTimer ∧
    (malformed r s).dtu.setpt = s.dtu.setpt ∧
    (malformed r s).rng = s.rng ∧
    (malformed r s).srg = s.srg ∧
    (malformed r s).xcp = s.xcp ∧
    (malformed r s).evu.refreshCount = s.evu.refreshCount ∧
    (malformed r s).pnp = s.pnp ∧
    (malformed r s).pending = s.pending := by
  simp [malformed]


/-- What `stationClash` leaves as it stands. -/
@[simp] theorem stationClash_keeps (k : FrameKind) (s : State) :
    (stationClash k s).pins = s.pins ∧
    (stationClash k s).stl = s.stl ∧
    (stationClash k s).settings = s.settings ∧
    (stationClash k s).lif.quiet = s.lif.quiet ∧
    (stationClash k s).lif.rx = s.lif.rx ∧
    (stationClash k s).lif.leadFrom = s.lif.leadFrom ∧
    (stationClash k s).lif.cells = s.lif.cells ∧
    (stationClash k s).lif.report = s.lif.report ∧
    (stationClash k s).lif.rxHeader = s.lif.rxHeader ∧
    (stationClash k s).lif.rxStartedSending = s.lif.rxStartedSending ∧
    (stationClash k s).frh.nextSeq = s.frh.nextSeq ∧
    (stationClash k s).frh.notice = s.frh.notice ∧
    (stationClash k s).pvw = s.pvw ∧
    (stationClash k s).msu.gathered = s.msu.gathered ∧
    (stationClash k s).msu.idleReached = s.msu.idleReached ∧
    (stationClash k s).msu.awaitHigh = s.msu.awaitHigh ∧
    (stationClash k s).msu.rejected = s.msu.rejected ∧
    (stationClash k s).msu.lastRejection = s.msu.lastRejection ∧
    (stationClash k s).msu.latches = s.msu.latches ∧
    (stationClash k s).msu.windows = s.msu.windows ∧
    (stationClash k s).dtu.tripSet = s.dtu.tripSet ∧
    (stationClash k s).dtu.pendingTrip = s.dtu.pendingTrip ∧
    (stationClash k s).dtu.runAck = s.dtu.runAck ∧
    (stationClash k s).rng.grants = s.rng.grants ∧
    (stationClash k s).srg = s.srg ∧
    (stationClash k s).xcp = s.xcp ∧
    (stationClash k s).evu.refreshCount = s.evu.refreshCount ∧
    (stationClash k s).pnp = s.pnp ∧
    (stationClash k s).pending = s.pending := by
  simp only [stationClash]
  repeat' split
  all_goals simp


/-- What `handDemand` leaves as it stands. -/
@[simp] theorem handDemand_keeps (n : Nat) (r : Role) (p : List Octet) (s : State) :
    (handDemand n r p s).pins = s.pins ∧
    (handDemand n r p s).stl = s.stl ∧
    (handDemand n r p s).settings = s.settings ∧
    (handDemand n r p s).lif.quiet = s.lif.quiet ∧
    (handDemand n r p s).lif.rx = s.lif.rx ∧
    (handDemand n r p s).lif.leadFrom = s.lif.leadFrom ∧
    (handDemand n r p s).lif.cells = s.lif.cells ∧
    (handDemand n r p s).lif.report = s.lif.report ∧
    (handDemand n r p s).lif.rxHeader = s.lif.rxHeader ∧
    (handDemand n r p s).lif.rxStartedSending = s.lif.rxStartedSending ∧
    (handDemand n r p s).frh.lineState = s.frh.lineState ∧
    (handDemand n r p s).frh.joinTimer = s.frh.joinTimer ∧
    (handDemand n r p s).frh.nextSeq = s.frh.nextSeq ∧
    (handDemand n r p s).frh.outbox.trip = s.frh.outbox.trip ∧
    (handDemand n r p s).frh.outbox.clear = s.frh.outbox.clear ∧
    (handDemand n r p s).frh.outbox.replies = s.frh.outbox.replies ∧
    (handDemand n r p s).frh.outbox.restAsk = s.frh.outbox.restAsk ∧
    (handDemand n r p s).frh.outbox.demand = s.frh.outbox.demand ∧
    (handDemand n r p s).frh.inFlight = s.frh.inFlight ∧
    (handDemand n r p s).frh.lastDemand = s.frh.lastDemand ∧
    (handDemand n r p s).frh.notice = s.frh.notice ∧
    (handDemand n r p s).pvw = s.pvw ∧
    (handDemand n r p s).msu.gathered = s.msu.gathered ∧
    (handDemand n r p s).msu.idleReached = s.msu.idleReached ∧
    (handDemand n r p s).msu.awaitHigh = s.msu.awaitHigh ∧
    (handDemand n r p s).msu.rejected = s.msu.rejected ∧
    (handDemand n r p s).msu.lastRejection = s.msu.lastRejection ∧
    (handDemand n r p s).msu.latches = s.msu.latches ∧
    (handDemand n r p s).msu.windows = s.msu.windows ∧
    (handDemand n r p s).dtu.normalTarget = s.dtu.normalTarget ∧
    (handDemand n r p s).dtu.pendingTrip = s.dtu.pendingTrip ∧
    (handDemand n r p s).dtu.duty = s.dtu.duty ∧
    (handDemand n r p s).dtu.runReq = s.dtu.runReq ∧
    (handDemand n r p s).dtu.runAck = s.dtu.runAck ∧
    (handDemand n r p s).dtu.startTimer = s.dtu.startTimer ∧
    (handDemand n r p s).dtu.warmTimer = s.dtu.warmTimer ∧
    (handDemand n r p s).dtu.stopTimer = s.dtu.stopTimer ∧
    (handDemand n r p s).rng = s.rng ∧
    (handDemand n r p s).srg = s.srg ∧
    (handDemand n r p s).xcp = s.xcp ∧
    (handDemand n r p s).evu.refreshCount = s.evu.refreshCount ∧
    (handDemand n r p s).pnp = s.pnp ∧
    (handDemand n r p s).pending = s.pending := by
  simp only [handDemand]
  repeat' split
  all_goals simp


/-- What `handOn` leaves as it stands. -/
@[simp] theorem handOn_keeps (k : FrameKind) (r : Role) (n : Nat) (q : Octet) (p : List Octet) (s : State) :
    (handOn k r n q p s).pins = s.pins ∧
    (handOn k r n q p s).stl = s.stl ∧
    (handOn k r n q p s).settings = s.settings ∧
    (handOn k r n q p s).lif.quiet = s.lif.quiet ∧
    (handOn k r n q p s).lif.rx = s.lif.rx ∧
    (handOn k r n q p s).lif.leadFrom = s.lif.leadFrom ∧
    (handOn k r n q p s).lif.cells = s.lif.cells ∧
    (handOn k r n q p s).lif.report = s.lif.report ∧
    (handOn k r n q p s).lif.rxHeader = s.lif.rxHeader ∧
    (handOn k r n q p s).lif.rxStartedSending = s.lif.rxStartedSending ∧
    (handOn k r n q p s).frh.lineState = s.frh.lineState ∧
    (handOn k r n q p s).frh.joinTimer = s.frh.joinTimer ∧
    (handOn k r n q p s).frh.nextSeq = s.frh.nextSeq ∧
    (handOn k r n q p s).frh.outbox.trip = s.frh.outbox.trip ∧
    (handOn k r n q p s).frh.outbox.clear = s.frh.outbox.clear ∧
    (handOn k r n q p s).frh.outbox.restAsk = s.frh.outbox.restAsk ∧
    (handOn k r n q p s).frh.outbox.demand = s.frh.outbox.demand ∧
    (handOn k r n q p s).frh.inFlight = s.frh.inFlight ∧
    (handOn k r n q p s).frh.lastDemand = s.frh.lastDemand ∧
    (handOn k r n q p s).frh.notice = s.frh.notice ∧
    (handOn k r n q p s).pvw = s.pvw ∧
    (handOn k r n q p s).msu.gathered = s.msu.gathered ∧
    (handOn k r n q p s).msu.idleReached = s.msu.idleReached ∧
    (handOn k r n q p s).msu.awaitHigh = s.msu.awaitHigh ∧
    (handOn k r n q p s).msu.rejected = s.msu.rejected ∧
    (handOn k r n q p s).msu.lastRejection = s.msu.lastRejection ∧
    (handOn k r n q p s).msu.latches = s.msu.latches ∧
    (handOn k r n q p s).msu.windows = s.msu.windows ∧
    (handOn k r n q p s).dtu.runAck = s.dtu.runAck ∧
    (handOn k r n q p s).srg = s.srg ∧
    (handOn k r n q p s).xcp = s.xcp ∧
    (handOn k r n q p s).evu.refreshCount = s.evu.refreshCount ∧
    (handOn k r n q p s).pnp = s.pnp ∧
    (handOn k r n q p s).pending = s.pending := by
  simp only [handOn]
  repeat' split
  all_goals simp


/-- What `closeCompleted` leaves as it stands. -/
@[simp] theorem closeCompleted_keeps (k : FrameKind) (n : Nat) (s : State) :
    (closeCompleted k n s).pins = s.pins ∧
    (closeCompleted k n s).stl = s.stl ∧
    (closeCompleted k n s).settings = s.settings ∧
    (closeCompleted k n s).lif.quiet = s.lif.quiet ∧
    (closeCompleted k n s).lif.rx = s.lif.rx ∧
    (closeCompleted k n s).lif.leadFrom = s.lif.leadFrom ∧
    (closeCompleted k n s).lif.cells = s.lif.cells ∧
    (closeCompleted k n s).lif.report = s.lif.report ∧
    (closeCompleted k n s).lif.rxHeader = s.lif.rxHeader ∧
    (closeCompleted k n s).lif.rxStartedSending = s.lif.rxStartedSending ∧
    (closeCompleted k n s).frh.lineState = s.frh.lineState ∧
    (closeCompleted k n s).frh.joinTimer = s.frh.joinTimer ∧
    (closeCompleted k n s).frh.nextSeq = s.frh.nextSeq ∧
    (closeCompleted k n s).frh.outbox.trip = s.frh.outbox.trip ∧
    (closeCompleted k n s).frh.outbox.clear = s.frh.outbox.clear ∧
    (closeCompleted k n s).frh.outbox.replies = s.frh.outbox.replies ∧
    (closeCompleted k n s).frh.outbox.restAsk = s.frh.outbox.restAsk ∧
    (closeCompleted k n s).frh.outbox.demand = s.frh.outbox.demand ∧
    (closeCompleted k n s).frh.inFlight = s.frh.inFlight ∧
    (closeCompleted k n s).frh.lastDemand = s.frh.lastDemand ∧
    (closeCompleted k n s).pvw = s.pvw ∧
    (closeCompleted k n s).msu.gathered = s.msu.gathered ∧
    (closeCompleted k n s).msu.idleReached = s.msu.idleReached ∧
    (closeCompleted k n s).msu.awaitHigh = s.msu.awaitHigh ∧
    (closeCompleted k n s).msu.rejected = s.msu.rejected ∧
    (closeCompleted k n s).msu.lastRejection = s.msu.lastRejection ∧
    (closeCompleted k n s).msu.latches = s.msu.latches ∧
    (closeCompleted k n s).msu.windows = s.msu.windows ∧
    (closeCompleted k n s).dtu.normalTarget = s.dtu.normalTarget ∧
    (closeCompleted k n s).dtu.setpoint = s.dtu.setpoint ∧
    (closeCompleted k n s).dtu.tripSet = s.dtu.tripSet ∧
    (closeCompleted k n s).dtu.duty = s.dtu.duty ∧
    (closeCompleted k n s).dtu.runReq = s.dtu.runReq ∧
    (closeCompleted k n s).dtu.runAck = s.dtu.runAck ∧
    (closeCompleted k n s).dtu.startTimer = s.dtu.startTimer ∧
    (closeCompleted k n s).dtu.warmTimer = s.dtu.warmTimer ∧
    (closeCompleted k n s).dtu.stopTimer = s.dtu.stopTimer ∧
    (closeCompleted k n s).dtu.setpt = s.dtu.setpt ∧
    (closeCompleted k n s).rng = s.rng ∧
    (closeCompleted k n s).srg = s.srg ∧
    (closeCompleted k n s).xcp = s.xcp ∧
    (closeCompleted k n s).evu.refreshCount = s.evu.refreshCount ∧
    (closeCompleted k n s).pnp = s.pnp ∧
    (closeCompleted k n s).pending = s.pending := by
  simp only [closeCompleted]
  repeat' split
  all_goals simp


/-- What `validFrame` leaves as it stands. -/
@[simp] theorem validFrame_keeps (k : FrameKind) (r : Role) (n : Nat) (q : Octet) (p : List Octet) (s : State) :
    (validFrame k r n q p s).pins = s.pins ∧
    (validFrame k r n q p s).stl = s.stl ∧
    (validFrame k r n q p s).settings = s.settings ∧
    (validFrame k r n q p s).lif.quiet = s.lif.quiet ∧
    (validFrame k r n q p s).lif.rx = s.lif.rx ∧
    (validFrame k r n q p s).lif.leadFrom = s.lif.leadFrom ∧
    (validFrame k r n q p s).lif.cells = s.lif.cells ∧
    (validFrame k r n q p s).lif.report = s.lif.report ∧
    (validFrame k r n q p s).lif.rxHeader = s.lif.rxHeader ∧
    (validFrame k r n q p s).lif.rxStartedSending = s.lif.rxStartedSending ∧
    (validFrame k r n q p s).frh.lineState = s.frh.lineState ∧
    (validFrame k r n q p s).frh.joinTimer = s.frh.joinTimer ∧
    (validFrame k r n q p s).frh.nextSeq = s.frh.nextSeq ∧
    (validFrame k r n q p s).frh.outbox.trip = s.frh.outbox.trip ∧
    (validFrame k r n q p s).frh.outbox.clear = s.frh.outbox.clear ∧
    (validFrame k r n q p s).frh.outbox.restAsk = s.frh.outbox.restAsk ∧
    (validFrame k r n q p s).frh.outbox.demand = s.frh.outbox.demand ∧
    (validFrame k r n q p s).frh.inFlight = s.frh.inFlight ∧
    (validFrame k r n q p s).frh.lastDemand = s.frh.lastDemand ∧
    (validFrame k r n q p s).msu.gathered = s.msu.gathered ∧
    (validFrame k r n q p s).msu.idleReached = s.msu.idleReached ∧
    (validFrame k r n q p s).msu.awaitHigh = s.msu.awaitHigh ∧
    (validFrame k r n q p s).msu.rejected = s.msu.rejected ∧
    (validFrame k r n q p s).msu.lastRejection = s.msu.lastRejection ∧
    (validFrame k r n q p s).msu.latches = s.msu.latches ∧
    (validFrame k r n q p s).msu.windows = s.msu.windows ∧
    (validFrame k r n q p s).dtu.runAck = s.dtu.runAck ∧
    (validFrame k r n q p s).srg = s.srg ∧
    (validFrame k r n q p s).xcp = s.xcp ∧
    (validFrame k r n q p s).evu.refreshCount = s.evu.refreshCount ∧
    (validFrame k r n q p s).pnp = s.pnp ∧
    (validFrame k r n q p s).pending = s.pending := by
  simp only [validFrame]
  repeat' split
  all_goals simp


/-- What `wellFormedFrame` leaves as it stands. -/
@[simp] theorem wellFormedFrame_keeps (k : FrameKind) (r : Role) (b : List Octet) (e st : Bool) (s : State) :
    (wellFormedFrame k r b e st s).pins = s.pins ∧
    (wellFormedFrame k r b e st s).stl = s.stl ∧
    (wellFormedFrame k r b e st s).settings = s.settings ∧
    (wellFormedFrame k r b e st s).lif.quiet = s.lif.quiet ∧
    (wellFormedFrame k r b e st s).lif.rx = s.lif.rx ∧
    (wellFormedFrame k r b e st s).lif.leadFrom = s.lif.leadFrom ∧
    (wellFormedFrame k r b e st s).lif.cells = s.lif.cells ∧
    (wellFormedFrame k r b e st s).lif.report = s.lif.report ∧
    (wellFormedFrame k r b e st s).lif.rxHeader = s.lif.rxHeader ∧
    (wellFormedFrame k r b e st s).lif.rxStartedSending = s.lif.rxStartedSending ∧
    (wellFormedFrame k r b e st s).frh.nextSeq = s.frh.nextSeq ∧
    (wellFormedFrame k r b e st s).msu.gathered = s.msu.gathered ∧
    (wellFormedFrame k r b e st s).msu.idleReached = s.msu.idleReached ∧
    (wellFormedFrame k r b e st s).msu.awaitHigh = s.msu.awaitHigh ∧
    (wellFormedFrame k r b e st s).msu.rejected = s.msu.rejected ∧
    (wellFormedFrame k r b e st s).msu.lastRejection = s.msu.lastRejection ∧
    (wellFormedFrame k r b e st s).msu.latches = s.msu.latches ∧
    (wellFormedFrame k r b e st s).msu.windows = s.msu.windows ∧
    (wellFormedFrame k r b e st s).dtu.runAck = s.dtu.runAck ∧
    (wellFormedFrame k r b e st s).srg = s.srg ∧
    (wellFormedFrame k r b e st s).xcp = s.xcp ∧
    (wellFormedFrame k r b e st s).evu.refreshCount = s.evu.refreshCount ∧
    (wellFormedFrame k r b e st s).pnp = s.pnp ∧
    (wellFormedFrame k r b e st s).pending = s.pending := by
  simp only [wellFormedFrame]
  repeat' split
  all_goals simp


/-- What `frhFrame` leaves as it stands. -/
@[simp] theorem frhFrame_keeps (b : List Octet) (e st : Bool) (s : State) :
    (frhFrame b e st s).pins = s.pins ∧
    (frhFrame b e st s).stl = s.stl ∧
    (frhFrame b e st s).settings = s.settings ∧
    (frhFrame b e st s).lif.quiet = s.lif.quiet ∧
    (frhFrame b e st s).lif.rx = s.lif.rx ∧
    (frhFrame b e st s).lif.leadFrom = s.lif.leadFrom ∧
    (frhFrame b e st s).lif.cells = s.lif.cells ∧
    (frhFrame b e st s).lif.report = s.lif.report ∧
    (frhFrame b e st s).lif.rxHeader = s.lif.rxHeader ∧
    (frhFrame b e st s).lif.rxStartedSending = s.lif.rxStartedSending ∧
    (frhFrame b e st s).frh.nextSeq = s.frh.nextSeq ∧
    (frhFrame b e st s).msu.gathered = s.msu.gathered ∧
    (frhFrame b e st s).msu.idleReached = s.msu.idleReached ∧
    (frhFrame b e st s).msu.awaitHigh = s.msu.awaitHigh ∧
    (frhFrame b e st s).msu.rejected = s.msu.rejected ∧
    (frhFrame b e st s).msu.lastRejection = s.msu.lastRejection ∧
    (frhFrame b e st s).msu.latches = s.msu.latches ∧
    (frhFrame b e st s).msu.windows = s.msu.windows ∧
    (frhFrame b e st s).dtu.runAck = s.dtu.runAck ∧
    (frhFrame b e st s).srg = s.srg ∧
    (frhFrame b e st s).xcp = s.xcp ∧
    (frhFrame b e st s).evu.refreshCount = s.evu.refreshCount ∧
    (frhFrame b e st s).pnp = s.pnp ∧
    (frhFrame b e st s).pending = s.pending := by
  simp only [frhFrame]
  repeat' split
  all_goals simp


/-- What `frameCompletes` leaves as it stands. -/
@[simp] theorem frameCompletes_keeps (o : List Octet) (e : Bool) (s : State) :
    (frameCompletes o e s).pins = s.pins ∧
    (frameCompletes o e s).stl = s.stl ∧
    (frameCompletes o e s).settings = s.settings ∧
    (frameCompletes o e s).lif.quiet = s.lif.quiet ∧
    (frameCompletes o e s).frh.nextSeq = s.frh.nextSeq ∧
    (frameCompletes o e s).msu.gathered = s.msu.gathered ∧
    (frameCompletes o e s).msu.idleReached = s.msu.idleReached ∧
    (frameCompletes o e s).msu.awaitHigh = s.msu.awaitHigh ∧
    (frameCompletes o e s).msu.rejected = s.msu.rejected ∧
    (frameCompletes o e s).msu.lastRejection = s.msu.lastRejection ∧
    (frameCompletes o e s).msu.latches = s.msu.latches ∧
    (frameCompletes o e s).msu.windows = s.msu.windows ∧
    (frameCompletes o e s).dtu.runAck = s.dtu.runAck ∧
    (frameCompletes o e s).srg = s.srg ∧
    (frameCompletes o e s).xcp = s.xcp ∧
    (frameCompletes o e s).evu.refreshCount = s.evu.refreshCount ∧
    (frameCompletes o e s).pnp = s.pnp ∧
    (frameCompletes o e s).pending = s.pending := by
  simp [frameCompletes]


/-- What `halfCellEnds` leaves as it stands. -/
@[simp] theorem halfCellEnds_keeps (s : State) :
    (halfCellEnds s).stl = s.stl ∧
    (halfCellEnds s).settings = s.settings ∧
    (halfCellEnds s).lif.rx = s.lif.rx ∧
    (halfCellEnds s).lif.leadFrom = s.lif.leadFrom ∧
    (halfCellEnds s).lif.rxHeader = s.lif.rxHeader ∧
    (halfCellEnds s).lif.rxStartedSending = s.lif.rxStartedSending ∧
    (halfCellEnds s).frh = s.frh ∧
    (halfCellEnds s).pvw = s.pvw ∧
    (halfCellEnds s).msu = s.msu ∧
    (halfCellEnds s).dtu = s.dtu ∧
    (halfCellEnds s).rng = s.rng ∧
    (halfCellEnds s).srg = s.srg ∧
    (halfCellEnds s).xcp = s.xcp ∧
    (halfCellEnds s).evu = s.evu ∧
    (halfCellEnds s).pnp = s.pnp ∧
    (halfCellEnds s).pending = s.pending := by
  and_intros <;> rfl


/-- What `lineAdvance` leaves as it stands. -/
@[simp] theorem lineAdvance_keeps (s : State) :
    (lineAdvance s).stl = s.stl ∧
    (lineAdvance s).settings = s.settings ∧
    (lineAdvance s).lif.rx = s.lif.rx ∧
    (lineAdvance s).lif.leadFrom = s.lif.leadFrom ∧
    (lineAdvance s).lif.rxHeader = s.lif.rxHeader ∧
    (lineAdvance s).lif.rxStartedSending = s.lif.rxStartedSending ∧
    (lineAdvance s).frh = s.frh ∧
    (lineAdvance s).pvw = s.pvw ∧
    (lineAdvance s).msu = s.msu ∧
    (lineAdvance s).dtu = s.dtu ∧
    (lineAdvance s).rng = s.rng ∧
    (lineAdvance s).srg = s.srg ∧
    (lineAdvance s).xcp = s.xcp ∧
    (lineAdvance s).evu = s.evu ∧
    (lineAdvance s).pnp = s.pnp ∧
    (lineAdvance s).pending = s.pending := by
  cases hd : lifEventDue s <;> simp [lineAdvance, hd]


/-- What `idle` leaves as it stands. -/
@[simp] theorem idle_keeps (s : State) :
    (idle s).settings = s.settings ∧
    (idle s).lif.rx = s.lif.rx ∧
    (idle s).lif.leadFrom = s.lif.leadFrom ∧
    (idle s).lif.rxHeader = s.lif.rxHeader ∧
    (idle s).lif.rxStartedSending = s.lif.rxStartedSending ∧
    (idle s).frh = s.frh ∧
    (idle s).pvw = s.pvw ∧
    (idle s).msu = s.msu ∧
    (idle s).dtu.derateTotal = s.dtu.derateTotal ∧
    (idle s).dtu.quietCount = s.dtu.quietCount ∧
    (idle s).dtu.normalTarget = s.dtu.normalTarget ∧
    (idle s).dtu.target = s.dtu.target ∧
    (idle s).dtu.setpoint = s.dtu.setpoint ∧
    (idle s).dtu.tripSet = s.dtu.tripSet ∧
    (idle s).dtu.pendingTrip = s.dtu.pendingTrip ∧
    (idle s).dtu.duty = s.dtu.duty ∧
    (idle s).dtu.runReq = s.dtu.runReq ∧
    (idle s).dtu.runAck = s.dtu.runAck ∧
    (idle s).dtu.recallTimer = s.dtu.recallTimer ∧
    (idle s).dtu.startTimer = s.dtu.startTimer ∧
    (idle s).dtu.warmTimer = s.dtu.warmTimer ∧
    (idle s).dtu.stopTimer = s.dtu.stopTimer ∧
    (idle s).rng = s.rng ∧
    (idle s).srg = s.srg ∧
    (idle s).xcp = s.xcp ∧
    (idle s).evu = s.evu ∧
    (idle s).pnp = s.pnp ∧
    (idle s).pending = s.pending := by
  simp only [idle]
  simp


end Sys2Proof.Machine
end

