-- ==== Sys2Proof/Laws/Plant.lean ====
section
/-! SUPPORT. What each operation of the measurement unit, the regulator, the exchange computer and the duty machine leaves as it stands. -/

namespace Sys2Proof.Machine

/-- What `reject` leaves as it stands. -/
@[simp] theorem reject_keeps (r : Rejection) (s : State) :
    (reject r s).pins = s.pins ∧
    (reject r s).stl = s.stl ∧
    (reject r s).settings = s.settings ∧
    (reject r s).lif = s.lif ∧
    (reject r s).frh = s.frh ∧
    (reject r s).pvw = s.pvw ∧
    (reject r s).msu.gathered = s.msu.gathered ∧
    (reject r s).msu.idleReached = s.msu.idleReached ∧
    (reject r s).msu.awaitHigh = s.msu.awaitHigh ∧
    (reject r s).msu.latches = s.msu.latches ∧
    (reject r s).msu.quantities = s.msu.quantities ∧
    (reject r s).msu.windows = s.msu.windows ∧
    (reject r s).dtu = s.dtu ∧
    (reject r s).rng = s.rng ∧
    (reject r s).srg = s.srg ∧
    (reject r s).xcp = s.xcp ∧
    (reject r s).evu = s.evu ∧
    (reject r s).pnp = s.pnp ∧
    (reject r s).pending = s.pending := by
  and_intros <;> rfl


/-- What `scanChannel` leaves as it stands. -/
@[simp] theorem scanChannel_keeps (n : Nat) (s : State) :
    (scanChannel s n).pins = s.pins ∧
    (scanChannel s n).stl = s.stl ∧
    (scanChannel s n).settings = s.settings ∧
    (scanChannel s n).lif.quiet = s.lif.quiet ∧
    (scanChannel s n).lif.rx = s.lif.rx ∧
    (scanChannel s n).lif.leadFrom = s.lif.leadFrom ∧
    (scanChannel s n).lif.cells = s.lif.cells ∧
    (scanChannel s n).lif.report = s.lif.report ∧
    (scanChannel s n).lif.rxHeader = s.lif.rxHeader ∧
    (scanChannel s n).lif.rxStartedSending = s.lif.rxStartedSending ∧
    (scanChannel s n).frh.lineState = s.frh.lineState ∧
    (scanChannel s n).frh.joinTimer = s.frh.joinTimer ∧
    (scanChannel s n).frh.nextSeq = s.frh.nextSeq ∧
    (scanChannel s n).frh.outbox.trip = s.frh.outbox.trip ∧
    (scanChannel s n).frh.outbox.clear = s.frh.outbox.clear ∧
    (scanChannel s n).frh.outbox.replies = s.frh.outbox.replies ∧
    (scanChannel s n).frh.outbox.restAsk = s.frh.outbox.restAsk ∧
    (scanChannel s n).frh.outbox.demand = s.frh.outbox.demand ∧
    (scanChannel s n).frh.inFlight = s.frh.inFlight ∧
    (scanChannel s n).frh.lastDemand = s.frh.lastDemand ∧
    (scanChannel s n).frh.notice = s.frh.notice ∧
    (scanChannel s n).pvw = s.pvw ∧
    (scanChannel s n).msu.gathered = s.msu.gathered ∧
    (scanChannel s n).msu.idleReached = s.msu.idleReached ∧
    (scanChannel s n).msu.awaitHigh = s.msu.awaitHigh ∧
    (scanChannel s n).msu.rejected = s.msu.rejected ∧
    (scanChannel s n).msu.lastRejection = s.msu.lastRejection ∧
    (scanChannel s n).msu.windows = s.msu.windows ∧
    (scanChannel s n).dtu.normalTarget = s.dtu.normalTarget ∧
    (scanChannel s n).dtu.setpoint = s.dtu.setpoint ∧
    (scanChannel s n).dtu.tripSet = s.dtu.tripSet ∧
    (scanChannel s n).dtu.pendingTrip = s.dtu.pendingTrip ∧
    (scanChannel s n).dtu.duty = s.dtu.duty ∧
    (scanChannel s n).dtu.runReq = s.dtu.runReq ∧
    (scanChannel s n).dtu.runAck = s.dtu.runAck ∧
    (scanChannel s n).dtu.startTimer = s.dtu.startTimer ∧
    (scanChannel s n).dtu.warmTimer = s.dtu.warmTimer ∧
    (scanChannel s n).dtu.stopTimer = s.dtu.stopTimer ∧
    (scanChannel s n).dtu.setpt = s.dtu.setpt ∧
    (scanChannel s n).rng = s.rng ∧
    (scanChannel s n).srg = s.srg ∧
    (scanChannel s n).xcp = s.xcp ∧
    (scanChannel s n).evu.refreshCount = s.evu.refreshCount ∧
    (scanChannel s n).pnp = s.pnp ∧
    (scanChannel s n).pending = s.pending := by
  simp only [scanChannel]
  repeat' split
  all_goals simp


/-- What `scanMargins` leaves as it stands. -/
@[simp] theorem scanMargins_keeps (s : State) :
    (scanMargins s).pins = s.pins ∧
    (scanMargins s).stl = s.stl ∧
    (scanMargins s).settings = s.settings ∧
    (scanMargins s).lif = s.lif ∧
    (scanMargins s).frh = s.frh ∧
    (scanMargins s).pvw = s.pvw ∧
    (scanMargins s).msu.gathered = s.msu.gathered ∧
    (scanMargins s).msu.idleReached = s.msu.idleReached ∧
    (scanMargins s).msu.awaitHigh = s.msu.awaitHigh ∧
    (scanMargins s).msu.rejected = s.msu.rejected ∧
    (scanMargins s).msu.lastRejection = s.msu.lastRejection ∧
    (scanMargins s).msu.latches = s.msu.latches ∧
    (scanMargins s).msu.windows = s.msu.windows ∧
    (scanMargins s).dtu = s.dtu ∧
    (scanMargins s).rng = s.rng ∧
    (scanMargins s).srg = s.srg ∧
    (scanMargins s).xcp = s.xcp ∧
    (scanMargins s).evu = s.evu ∧
    (scanMargins s).pnp = s.pnp ∧
    (scanMargins s).pending = s.pending := by
  simp only [scanMargins]
  simp only [calciteMargin, silicaMargin]
  repeat' split
  all_goals simp


/-- What `scanWindow` leaves as it stands. -/
@[simp] theorem scanWindow_keeps (n : Nat) (s : State) :
    (scanWindow s n).pins = s.pins ∧
    (scanWindow s n).stl = s.stl ∧
    (scanWindow s n).settings = s.settings ∧
    (scanWindow s n).lif.quiet = s.lif.quiet ∧
    (scanWindow s n).lif.rx = s.lif.rx ∧
    (scanWindow s n).lif.leadFrom = s.lif.leadFrom ∧
    (scanWindow s n).lif.cells = s.lif.cells ∧
    (scanWindow s n).lif.report = s.lif.report ∧
    (scanWindow s n).lif.rxHeader = s.lif.rxHeader ∧
    (scanWindow s n).lif.rxStartedSending = s.lif.rxStartedSending ∧
    (scanWindow s n).frh.lineState = s.frh.lineState ∧
    (scanWindow s n).frh.joinTimer = s.frh.joinTimer ∧
    (scanWindow s n).frh.nextSeq = s.frh.nextSeq ∧
    (scanWindow s n).frh.outbox.trip = s.frh.outbox.trip ∧
    (scanWindow s n).frh.outbox.clear = s.frh.outbox.clear ∧
    (scanWindow s n).frh.outbox.replies = s.frh.outbox.replies ∧
    (scanWindow s n).frh.outbox.restAsk = s.frh.outbox.restAsk ∧
    (scanWindow s n).frh.outbox.demand = s.frh.outbox.demand ∧
    (scanWindow s n).frh.inFlight = s.frh.inFlight ∧
    (scanWindow s n).frh.lastDemand = s.frh.lastDemand ∧
    (scanWindow s n).frh.notice = s.frh.notice ∧
    (scanWindow s n).pvw = s.pvw ∧
    (scanWindow s n).msu.gathered = s.msu.gathered ∧
    (scanWindow s n).msu.idleReached = s.msu.idleReached ∧
    (scanWindow s n).msu.awaitHigh = s.msu.awaitHigh ∧
    (scanWindow s n).msu.rejected = s.msu.rejected ∧
    (scanWindow s n).msu.lastRejection = s.msu.lastRejection ∧
    (scanWindow s n).msu.latches = s.msu.latches ∧
    (scanWindow s n).dtu.normalTarget = s.dtu.normalTarget ∧
    (scanWindow s n).dtu.setpoint = s.dtu.setpoint ∧
    (scanWindow s n).dtu.tripSet = s.dtu.tripSet ∧
    (scanWindow s n).dtu.pendingTrip = s.dtu.pendingTrip ∧
    (scanWindow s n).dtu.duty = s.dtu.duty ∧
    (scanWindow s n).dtu.runReq = s.dtu.runReq ∧
    (scanWindow s n).dtu.runAck = s.dtu.runAck ∧
    (scanWindow s n).dtu.startTimer = s.dtu.startTimer ∧
    (scanWindow s n).dtu.warmTimer = s.dtu.warmTimer ∧
    (scanWindow s n).dtu.stopTimer = s.dtu.stopTimer ∧
    (scanWindow s n).dtu.setpt = s.dtu.setpt ∧
    (scanWindow s n).rng = s.rng ∧
    (scanWindow s n).srg = s.srg ∧
    (scanWindow s n).xcp = s.xcp ∧
    (scanWindow s n).evu.refreshCount = s.evu.refreshCount ∧
    (scanWindow s n).pnp = s.pnp ∧
    (scanWindow s n).pending = s.pending := by
  simp only [scanWindow]
  repeat' split
  all_goals simp


/-- What `scanNotice` leaves as it stands. -/
@[simp] theorem scanNotice_keeps (s : State) :
    (scanNotice s).pins = s.pins ∧
    (scanNotice s).stl = s.stl ∧
    (scanNotice s).settings = s.settings ∧
    (scanNotice s).lif.quiet = s.lif.quiet ∧
    (scanNotice s).lif.rx = s.lif.rx ∧
    (scanNotice s).lif.leadFrom = s.lif.leadFrom ∧
    (scanNotice s).lif.cells = s.lif.cells ∧
    (scanNotice s).lif.report = s.lif.report ∧
    (scanNotice s).lif.rxHeader = s.lif.rxHeader ∧
    (scanNotice s).lif.rxStartedSending = s.lif.rxStartedSending ∧
    (scanNotice s).frh.lineState = s.frh.lineState ∧
    (scanNotice s).frh.joinTimer = s.frh.joinTimer ∧
    (scanNotice s).frh.nextSeq = s.frh.nextSeq ∧
    (scanNotice s).frh.outbox.trip = s.frh.outbox.trip ∧
    (scanNotice s).frh.outbox.clear = s.frh.outbox.clear ∧
    (scanNotice s).frh.outbox.replies = s.frh.outbox.replies ∧
    (scanNotice s).frh.outbox.restAsk = s.frh.outbox.restAsk ∧
    (scanNotice s).frh.outbox.demand = s.frh.outbox.demand ∧
    (scanNotice s).frh.inFlight = s.frh.inFlight ∧
    (scanNotice s).frh.lastDemand = s.frh.lastDemand ∧
    (scanNotice s).frh.notice = s.frh.notice ∧
    (scanNotice s).pvw = s.pvw ∧
    (scanNotice s).msu.gathered = s.msu.gathered ∧
    (scanNotice s).msu.idleReached = s.msu.idleReached ∧
    (scanNotice s).msu.awaitHigh = s.msu.awaitHigh ∧
    (scanNotice s).msu.rejected = s.msu.rejected ∧
    (scanNotice s).msu.lastRejection = s.msu.lastRejection ∧
    (scanNotice s).msu.latches = s.msu.latches ∧
    (scanNotice s).msu.windows = s.msu.windows ∧
    (scanNotice s).dtu.normalTarget = s.dtu.normalTarget ∧
    (scanNotice s).dtu.setpoint = s.dtu.setpoint ∧
    (scanNotice s).dtu.tripSet = s.dtu.tripSet ∧
    (scanNotice s).dtu.pendingTrip = s.dtu.pendingTrip ∧
    (scanNotice s).dtu.duty = s.dtu.duty ∧
    (scanNotice s).dtu.runReq = s.dtu.runReq ∧
    (scanNotice s).dtu.runAck = s.dtu.runAck ∧
    (scanNotice s).dtu.startTimer = s.dtu.startTimer ∧
    (scanNotice s).dtu.warmTimer = s.dtu.warmTimer ∧
    (scanNotice s).dtu.stopTimer = s.dtu.stopTimer ∧
    (scanNotice s).dtu.setpt = s.dtu.setpt ∧
    (scanNotice s).rng = s.rng ∧
    (scanNotice s).srg = s.srg ∧
    (scanNotice s).xcp = s.xcp ∧
    (scanNotice s).evu = s.evu ∧
    (scanNotice s).pnp = s.pnp ∧
    (scanNotice s).pending = s.pending := by
  simp only [scanNotice]
  repeat' split
  all_goals simp


/-- What `scanChannels` leaves as it stands. -/
@[simp] theorem scanChannels_keeps (l : List Nat) (s : State) :
    (l.foldl scanChannel s).pins = s.pins ∧
    (l.foldl scanChannel s).stl = s.stl ∧
    (l.foldl scanChannel s).settings = s.settings ∧
    (l.foldl scanChannel s).lif.quiet = s.lif.quiet ∧
    (l.foldl scanChannel s).lif.rx = s.lif.rx ∧
    (l.foldl scanChannel s).lif.leadFrom = s.lif.leadFrom ∧
    (l.foldl scanChannel s).lif.cells = s.lif.cells ∧
    (l.foldl scanChannel s).lif.report = s.lif.report ∧
    (l.foldl scanChannel s).lif.rxHeader = s.lif.rxHeader ∧
    (l.foldl scanChannel s).lif.rxStartedSending = s.lif.rxStartedSending ∧
    (l.foldl scanChannel s).frh.lineState = s.frh.lineState ∧
    (l.foldl scanChannel s).frh.joinTimer = s.frh.joinTimer ∧
    (l.foldl scanChannel s).frh.nextSeq = s.frh.nextSeq ∧
    (l.foldl scanChannel s).frh.outbox.trip = s.frh.outbox.trip ∧
    (l.foldl scanChannel s).frh.outbox.clear = s.frh.outbox.clear ∧
    (l.foldl scanChannel s).frh.outbox.replies = s.frh.outbox.replies ∧
    (l.foldl scanChannel s).frh.outbox.restAsk = s.frh.outbox.restAsk ∧
    (l.foldl scanChannel s).frh.outbox.demand = s.frh.outbox.demand ∧
    (l.foldl scanChannel s).frh.inFlight = s.frh.inFlight ∧
    (l.foldl scanChannel s).frh.lastDemand = s.frh.lastDemand ∧
    (l.foldl scanChannel s).frh.notice = s.frh.notice ∧
    (l.foldl scanChannel s).pvw = s.pvw ∧
    (l.foldl scanChannel s).msu.gathered = s.msu.gathered ∧
    (l.foldl scanChannel s).msu.idleReached = s.msu.idleReached ∧
    (l.foldl scanChannel s).msu.awaitHigh = s.msu.awaitHigh ∧
    (l.foldl scanChannel s).msu.rejected = s.msu.rejected ∧
    (l.foldl scanChannel s).msu.lastRejection = s.msu.lastRejection ∧
    (l.foldl scanChannel s).msu.windows = s.msu.windows ∧
    (l.foldl scanChannel s).dtu.normalTarget = s.dtu.normalTarget ∧
    (l.foldl scanChannel s).dtu.setpoint = s.dtu.setpoint ∧
    (l.foldl scanChannel s).dtu.tripSet = s.dtu.tripSet ∧
    (l.foldl scanChannel s).dtu.pendingTrip = s.dtu.pendingTrip ∧
    (l.foldl scanChannel s).dtu.duty = s.dtu.duty ∧
    (l.foldl scanChannel s).dtu.runReq = s.dtu.runReq ∧
    (l.foldl scanChannel s).dtu.runAck = s.dtu.runAck ∧
    (l.foldl scanChannel s).dtu.startTimer = s.dtu.startTimer ∧
    (l.foldl scanChannel s).dtu.warmTimer = s.dtu.warmTimer ∧
    (l.foldl scanChannel s).dtu.stopTimer = s.dtu.stopTimer ∧
    (l.foldl scanChannel s).dtu.setpt = s.dtu.setpt ∧
    (l.foldl scanChannel s).rng = s.rng ∧
    (l.foldl scanChannel s).srg = s.srg ∧
    (l.foldl scanChannel s).xcp = s.xcp ∧
    (l.foldl scanChannel s).evu.refreshCount = s.evu.refreshCount ∧
    (l.foldl scanChannel s).pnp = s.pnp ∧
    (l.foldl scanChannel s).pending = s.pending := by
  induction l generalizing s with
  | nil => simp
  | cons n l ih =>
    have h := ih (scanChannel s n)
    simp only [List.foldl_cons]
    simpa using h


/-- What `scanWindows` leaves as it stands. -/
@[simp] theorem scanWindows_keeps (l : List Nat) (s : State) :
    (l.foldl scanWindow s).pins = s.pins ∧
    (l.foldl scanWindow s).stl = s.stl ∧
    (l.foldl scanWindow s).settings = s.settings ∧
    (l.foldl scanWindow s).lif.quiet = s.lif.quiet ∧
    (l.foldl scanWindow s).lif.rx = s.lif.rx ∧
    (l.foldl scanWindow s).lif.leadFrom = s.lif.leadFrom ∧
    (l.foldl scanWindow s).lif.cells = s.lif.cells ∧
    (l.foldl scanWindow s).lif.report = s.lif.report ∧
    (l.foldl scanWindow s).lif.rxHeader = s.lif.rxHeader ∧
    (l.foldl scanWindow s).lif.rxStartedSending = s.lif.rxStartedSending ∧
    (l.foldl scanWindow s).frh.lineState = s.frh.lineState ∧
    (l.foldl scanWindow s).frh.joinTimer = s.frh.joinTimer ∧
    (l.foldl scanWindow s).frh.nextSeq = s.frh.nextSeq ∧
    (l.foldl scanWindow s).frh.outbox.trip = s.frh.outbox.trip ∧
    (l.foldl scanWindow s).frh.outbox.clear = s.frh.outbox.clear ∧
    (l.foldl scanWindow s).frh.outbox.replies = s.frh.outbox.replies ∧
    (l.foldl scanWindow s).frh.outbox.restAsk = s.frh.outbox.restAsk ∧
    (l.foldl scanWindow s).frh.outbox.demand = s.frh.outbox.demand ∧
    (l.foldl scanWindow s).frh.inFlight = s.frh.inFlight ∧
    (l.foldl scanWindow s).frh.lastDemand = s.frh.lastDemand ∧
    (l.foldl scanWindow s).frh.notice = s.frh.notice ∧
    (l.foldl scanWindow s).pvw = s.pvw ∧
    (l.foldl scanWindow s).msu.gathered = s.msu.gathered ∧
    (l.foldl scanWindow s).msu.idleReached = s.msu.idleReached ∧
    (l.foldl scanWindow s).msu.awaitHigh = s.msu.awaitHigh ∧
    (l.foldl scanWindow s).msu.rejected = s.msu.rejected ∧
    (l.foldl scanWindow s).msu.lastRejection = s.msu.lastRejection ∧
    (l.foldl scanWindow s).msu.latches = s.msu.latches ∧
    (l.foldl scanWindow s).dtu.normalTarget = s.dtu.normalTarget ∧
    (l.foldl scanWindow s).dtu.setpoint = s.dtu.setpoint ∧
    (l.foldl scanWindow s).dtu.tripSet = s.dtu.tripSet ∧
    (l.foldl scanWindow s).dtu.pendingTrip = s.dtu.pendingTrip ∧
    (l.foldl scanWindow s).dtu.duty = s.dtu.duty ∧
    (l.foldl scanWindow s).dtu.runReq = s.dtu.runReq ∧
    (l.foldl scanWindow s).dtu.runAck = s.dtu.runAck ∧
    (l.foldl scanWindow s).dtu.startTimer = s.dtu.startTimer ∧
    (l.foldl scanWindow s).dtu.warmTimer = s.dtu.warmTimer ∧
    (l.foldl scanWindow s).dtu.stopTimer = s.dtu.stopTimer ∧
    (l.foldl scanWindow s).dtu.setpt = s.dtu.setpt ∧
    (l.foldl scanWindow s).rng = s.rng ∧
    (l.foldl scanWindow s).srg = s.srg ∧
    (l.foldl scanWindow s).xcp = s.xcp ∧
    (l.foldl scanWindow s).evu.refreshCount = s.evu.refreshCount ∧
    (l.foldl scanWindow s).pnp = s.pnp ∧
    (l.foldl scanWindow s).pending = s.pending := by
  induction l generalizing s with
  | nil => simp
  | cons n l ih =>
    have h := ih (scanWindow s n)
    simp only [List.foldl_cons]
    simpa using h


/-- What `scan` leaves as it stands. -/
@[simp] theorem scan_keeps (s : State) :
    (scan s).pins = s.pins ∧
    (scan s).stl = s.stl ∧
    (scan s).settings = s.settings ∧
    (scan s).lif.quiet = s.lif.quiet ∧
    (scan s).lif.rx = s.lif.rx ∧
    (scan s).lif.leadFrom = s.lif.leadFrom ∧
    (scan s).lif.cells = s.lif.cells ∧
    (scan s).lif.report = s.lif.report ∧
    (scan s).lif.rxHeader = s.lif.rxHeader ∧
    (scan s).lif.rxStartedSending = s.lif.rxStartedSending ∧
    (scan s).frh.lineState = s.frh.lineState ∧
    (scan s).frh.joinTimer = s.frh.joinTimer ∧
    (scan s).frh.nextSeq = s.frh.nextSeq ∧
    (scan s).frh.outbox.trip = s.frh.outbox.trip ∧
    (scan s).frh.outbox.clear = s.frh.outbox.clear ∧
    (scan s).frh.outbox.replies = s.frh.outbox.replies ∧
    (scan s).frh.outbox.restAsk = s.frh.outbox.restAsk ∧
    (scan s).frh.outbox.demand = s.frh.outbox.demand ∧
    (scan s).frh.inFlight = s.frh.inFlight ∧
    (scan s).frh.lastDemand = s.frh.lastDemand ∧
    (scan s).frh.notice = s.frh.notice ∧
    (scan s).pvw = s.pvw ∧
    (scan s).msu.gathered = s.msu.gathered ∧
    (scan s).msu.idleReached = s.msu.idleReached ∧
    (scan s).msu.awaitHigh = s.msu.awaitHigh ∧
    (scan s).msu.rejected = s.msu.rejected ∧
    (scan s).msu.lastRejection = s.msu.lastRejection ∧
    (scan s).dtu.normalTarget = s.dtu.normalTarget ∧
    (scan s).dtu.setpoint = s.dtu.setpoint ∧
    (scan s).dtu.tripSet = s.dtu.tripSet ∧
    (scan s).dtu.pendingTrip = s.dtu.pendingTrip ∧
    (scan s).dtu.duty = s.dtu.duty ∧
    (scan s).dtu.runReq = s.dtu.runReq ∧
    (scan s).dtu.runAck = s.dtu.runAck ∧
    (scan s).dtu.startTimer = s.dtu.startTimer ∧
    (scan s).dtu.warmTimer = s.dtu.warmTimer ∧
    (scan s).dtu.stopTimer = s.dtu.stopTimer ∧
    (scan s).dtu.setpt = s.dtu.setpt ∧
    (scan s).rng = s.rng ∧
    (scan s).srg = s.srg ∧
    (scan s).xcp = s.xcp ∧
    (scan s).evu.refreshCount = s.evu.refreshCount ∧
    (scan s).pnp = s.pnp ∧
    (scan s).pending = s.pending := by
  simp only [scan]
  repeat' split
  all_goals simp


/-- What `announceOwnTrip` leaves as it stands. -/
@[simp] theorem announceOwnTrip_keeps (c : TripCause) (s : State) :
    (announceOwnTrip c s).pins = s.pins ∧
    (announceOwnTrip c s).stl = s.stl ∧
    (announceOwnTrip c s).settings = s.settings ∧
    (announceOwnTrip c s).lif.quiet = s.lif.quiet ∧
    (announceOwnTrip c s).lif.rx = s.lif.rx ∧
    (announceOwnTrip c s).lif.leadFrom = s.lif.leadFrom ∧
    (announceOwnTrip c s).lif.cells = s.lif.cells ∧
    (announceOwnTrip c s).lif.report = s.lif.report ∧
    (announceOwnTrip c s).lif.rxHeader = s.lif.rxHeader ∧
    (announceOwnTrip c s).lif.rxStartedSending = s.lif.rxStartedSending ∧
    (announceOwnTrip c s).frh.lineState = s.frh.lineState ∧
    (announceOwnTrip c s).frh.joinTimer = s.frh.joinTimer ∧
    (announceOwnTrip c s).frh.nextSeq = s.frh.nextSeq ∧
    (announceOwnTrip c s).frh.outbox.replies = s.frh.outbox.replies ∧
    (announceOwnTrip c s).frh.outbox.restAsk = s.frh.outbox.restAsk ∧
    (announceOwnTrip c s).frh.notice = s.frh.notice ∧
    (announceOwnTrip c s).pvw = s.pvw ∧
    (announceOwnTrip c s).msu.gathered = s.msu.gathered ∧
    (announceOwnTrip c s).msu.idleReached = s.msu.idleReached ∧
    (announceOwnTrip c s).msu.awaitHigh = s.msu.awaitHigh ∧
    (announceOwnTrip c s).msu.rejected = s.msu.rejected ∧
    (announceOwnTrip c s).msu.lastRejection = s.msu.lastRejection ∧
    (announceOwnTrip c s).msu.latches = s.msu.latches ∧
    (announceOwnTrip c s).msu.windows = s.msu.windows ∧
    (announceOwnTrip c s).dtu.normalTarget = s.dtu.normalTarget ∧
    (announceOwnTrip c s).dtu.setpoint = s.dtu.setpoint ∧
    (announceOwnTrip c s).dtu.tripSet = s.dtu.tripSet ∧
    (announceOwnTrip c s).dtu.pendingTrip = s.dtu.pendingTrip ∧
    (announceOwnTrip c s).dtu.duty = s.dtu.duty ∧
    (announceOwnTrip c s).dtu.runReq = s.dtu.runReq ∧
    (announceOwnTrip c s).dtu.runAck = s.dtu.runAck ∧
    (announceOwnTrip c s).dtu.startTimer = s.dtu.startTimer ∧
    (announceOwnTrip c s).dtu.warmTimer = s.dtu.warmTimer ∧
    (announceOwnTrip c s).dtu.stopTimer = s.dtu.stopTimer ∧
    (announceOwnTrip c s).dtu.setpt = s.dtu.setpt ∧
    (announceOwnTrip c s).rng = s.rng ∧
    (announceOwnTrip c s).srg = s.srg ∧
    (announceOwnTrip c s).xcp = s.xcp ∧
    (announceOwnTrip c s).evu.refreshCount = s.evu.refreshCount ∧
    (announceOwnTrip c s).pnp = s.pnp ∧
    (announceOwnTrip c s).pending = s.pending := by
  simp [announceOwnTrip]


/-- What `enterTripped` leaves as it stands. -/
@[simp] theorem enterTripped_keeps (c : TripCause) (s : State) :
    (enterTripped c s).pins = s.pins ∧
    (enterTripped c s).stl = s.stl ∧
    (enterTripped c s).settings = s.settings ∧
    (enterTripped c s).lif.quiet = s.lif.quiet ∧
    (enterTripped c s).lif.rx = s.lif.rx ∧
    (enterTripped c s).lif.leadFrom = s.lif.leadFrom ∧
    (enterTripped c s).lif.cells = s.lif.cells ∧
    (enterTripped c s).lif.report = s.lif.report ∧
    (enterTripped c s).lif.rxHeader = s.lif.rxHeader ∧
    (enterTripped c s).lif.rxStartedSending = s.lif.rxStartedSending ∧
    (enterTripped c s).frh.lineState = s.frh.lineState ∧
    (enterTripped c s).frh.joinTimer = s.frh.joinTimer ∧
    (enterTripped c s).frh.nextSeq = s.frh.nextSeq ∧
    (enterTripped c s).frh.outbox.replies = s.frh.outbox.replies ∧
    (enterTripped c s).frh.outbox.restAsk = s.frh.outbox.restAsk ∧
    (enterTripped c s).frh.notice = s.frh.notice ∧
    (enterTripped c s).pvw = s.pvw ∧
    (enterTripped c s).msu.gathered = s.msu.gathered ∧
    (enterTripped c s).msu.idleReached = s.msu.idleReached ∧
    (enterTripped c s).msu.awaitHigh = s.msu.awaitHigh ∧
    (enterTripped c s).msu.rejected = s.msu.rejected ∧
    (enterTripped c s).msu.lastRejection = s.msu.lastRejection ∧
    (enterTripped c s).msu.latches = s.msu.latches ∧
    (enterTripped c s).msu.windows = s.msu.windows ∧
    (enterTripped c s).dtu.normalTarget = s.dtu.normalTarget ∧
    (enterTripped c s).dtu.setpoint = s.dtu.setpoint ∧
    (enterTripped c s).dtu.tripSet = s.dtu.tripSet ∧
    (enterTripped c s).dtu.pendingTrip = s.dtu.pendingTrip ∧
    (enterTripped c s).dtu.duty = s.dtu.duty ∧
    (enterTripped c s).dtu.runReq = s.dtu.runReq ∧
    (enterTripped c s).dtu.runAck = s.dtu.runAck ∧
    (enterTripped c s).dtu.startTimer = s.dtu.startTimer ∧
    (enterTripped c s).dtu.warmTimer = s.dtu.warmTimer ∧
    (enterTripped c s).dtu.stopTimer = s.dtu.stopTimer ∧
    (enterTripped c s).dtu.setpt = s.dtu.setpt ∧
    (enterTripped c s).rng = s.rng ∧
    (enterTripped c s).xcp = s.xcp ∧
    (enterTripped c s).evu.refreshCount = s.evu.refreshCount ∧
    (enterTripped c s).pnp = s.pnp ∧
    (enterTripped c s).pending = s.pending := by
  simp [enterTripped]


/-- What `leaveTripped` leaves as it stands. -/
@[simp] theorem leaveTripped_keeps (s : State) :
    (leaveTripped s).pins = s.pins ∧
    (leaveTripped s).stl = s.stl ∧
    (leaveTripped s).settings = s.settings ∧
    (leaveTripped s).lif.quiet = s.lif.quiet ∧
    (leaveTripped s).lif.rx = s.lif.rx ∧
    (leaveTripped s).lif.leadFrom = s.lif.leadFrom ∧
    (leaveTripped s).lif.cells = s.lif.cells ∧
    (leaveTripped s).lif.report = s.lif.report ∧
    (leaveTripped s).lif.rxHeader = s.lif.rxHeader ∧
    (leaveTripped s).lif.rxStartedSending = s.lif.rxStartedSending ∧
    (leaveTripped s).frh.lineState = s.frh.lineState ∧
    (leaveTripped s).frh.joinTimer = s.frh.joinTimer ∧
    (leaveTripped s).frh.nextSeq = s.frh.nextSeq ∧
    (leaveTripped s).frh.outbox.trip = s.frh.outbox.trip ∧
    (leaveTripped s).frh.outbox.replies = s.frh.outbox.replies ∧
    (leaveTripped s).frh.outbox.restAsk = s.frh.outbox.restAsk ∧
    (leaveTripped s).frh.outbox.demand = s.frh.outbox.demand ∧
    (leaveTripped s).frh.inFlight = s.frh.inFlight ∧
    (leaveTripped s).frh.lastDemand = s.frh.lastDemand ∧
    (leaveTripped s).frh.notice = s.frh.notice ∧
    (leaveTripped s).pvw = s.pvw ∧
    (leaveTripped s).msu.gathered = s.msu.gathered ∧
    (leaveTripped s).msu.idleReached = s.msu.idleReached ∧
    (leaveTripped s).msu.awaitHigh = s.msu.awaitHigh ∧
    (leaveTripped s).msu.rejected = s.msu.rejected ∧
    (leaveTripped s).msu.lastRejection = s.msu.lastRejection ∧
    (leaveTripped s).msu.latches = s.msu.latches ∧
    (leaveTripped s).msu.windows = s.msu.windows ∧
    (leaveTripped s).dtu.normalTarget = s.dtu.normalTarget ∧
    (leaveTripped s).dtu.setpoint = s.dtu.setpoint ∧
    (leaveTripped s).dtu.tripSet = s.dtu.tripSet ∧
    (leaveTripped s).dtu.pendingTrip = s.dtu.pendingTrip ∧
    (leaveTripped s).dtu.duty = s.dtu.duty ∧
    (leaveTripped s).dtu.runReq = s.dtu.runReq ∧
    (leaveTripped s).dtu.runAck = s.dtu.runAck ∧
    (leaveTripped s).dtu.startTimer = s.dtu.startTimer ∧
    (leaveTripped s).dtu.warmTimer = s.dtu.warmTimer ∧
    (leaveTripped s).dtu.stopTimer = s.dtu.stopTimer ∧
    (leaveTripped s).dtu.setpt = s.dtu.setpt ∧
    (leaveTripped s).rng = s.rng ∧
    (leaveTripped s).xcp = s.xcp ∧
    (leaveTripped s).evu.refreshCount = s.evu.refreshCount ∧
    (leaveTripped s).pnp = s.pnp ∧
    (leaveTripped s).pending = s.pending := by
  simp [leaveTripped]


/-- What `tripInActs` leaves as it stands. -/
@[simp] theorem tripInActs_keeps (s : State) :
    (tripInActs s).pins = s.pins ∧
    (tripInActs s).stl = s.stl ∧
    (tripInActs s).settings = s.settings ∧
    (tripInActs s).lif.quiet = s.lif.quiet ∧
    (tripInActs s).lif.rx = s.lif.rx ∧
    (tripInActs s).lif.leadFrom = s.lif.leadFrom ∧
    (tripInActs s).lif.cells = s.lif.cells ∧
    (tripInActs s).lif.report = s.lif.report ∧
    (tripInActs s).lif.rxHeader = s.lif.rxHeader ∧
    (tripInActs s).lif.rxStartedSending = s.lif.rxStartedSending ∧
    (tripInActs s).frh.lineState = s.frh.lineState ∧
    (tripInActs s).frh.joinTimer = s.frh.joinTimer ∧
    (tripInActs s).frh.nextSeq = s.frh.nextSeq ∧
    (tripInActs s).frh.outbox.replies = s.frh.outbox.replies ∧
    (tripInActs s).frh.outbox.restAsk = s.frh.outbox.restAsk ∧
    (tripInActs s).frh.notice = s.frh.notice ∧
    (tripInActs s).pvw = s.pvw ∧
    (tripInActs s).msu.gathered = s.msu.gathered ∧
    (tripInActs s).msu.idleReached = s.msu.idleReached ∧
    (tripInActs s).msu.awaitHigh = s.msu.awaitHigh ∧
    (tripInActs s).msu.rejected = s.msu.rejected ∧
    (tripInActs s).msu.lastRejection = s.msu.lastRejection ∧
    (tripInActs s).msu.latches = s.msu.latches ∧
    (tripInActs s).msu.windows = s.msu.windows ∧
    (tripInActs s).dtu.normalTarget = s.dtu.normalTarget ∧
    (tripInActs s).dtu.setpoint = s.dtu.setpoint ∧
    (tripInActs s).dtu.tripSet = s.dtu.tripSet ∧
    (tripInActs s).dtu.pendingTrip = s.dtu.pendingTrip ∧
    (tripInActs s).dtu.duty = s.dtu.duty ∧
    (tripInActs s).dtu.runReq = s.dtu.runReq ∧
    (tripInActs s).dtu.runAck = s.dtu.runAck ∧
    (tripInActs s).dtu.startTimer = s.dtu.startTimer ∧
    (tripInActs s).dtu.warmTimer = s.dtu.warmTimer ∧
    (tripInActs s).dtu.stopTimer = s.dtu.stopTimer ∧
    (tripInActs s).dtu.setpt = s.dtu.setpt ∧
    (tripInActs s).rng = s.rng ∧
    (tripInActs s).xcp = s.xcp ∧
    (tripInActs s).evu.refreshCount = s.evu.refreshCount ∧
    (tripInActs s).pnp = s.pnp ∧
    (tripInActs s).pending = s.pending := by
  simp only [tripInActs]
  repeat' split
  all_goals simp


/-- What `tripTests` leaves as it stands. -/
@[simp] theorem tripTests_keeps (p : Quantity) (s : State) :
    (tripTests p s).pins = s.pins ∧
    (tripTests p s).stl = s.stl ∧
    (tripTests p s).settings = s.settings ∧
    (tripTests p s).lif.quiet = s.lif.quiet ∧
    (tripTests p s).lif.rx = s.lif.rx ∧
    (tripTests p s).lif.leadFrom = s.lif.leadFrom ∧
    (tripTests p s).lif.cells = s.lif.cells ∧
    (tripTests p s).lif.report = s.lif.report ∧
    (tripTests p s).lif.rxHeader = s.lif.rxHeader ∧
    (tripTests p s).lif.rxStartedSending = s.lif.rxStartedSending ∧
    (tripTests p s).frh.lineState = s.frh.lineState ∧
    (tripTests p s).frh.joinTimer = s.frh.joinTimer ∧
    (tripTests p s).frh.nextSeq = s.frh.nextSeq ∧
    (tripTests p s).frh.outbox.replies = s.frh.outbox.replies ∧
    (tripTests p s).frh.outbox.restAsk = s.frh.outbox.restAsk ∧
    (tripTests p s).frh.notice = s.frh.notice ∧
    (tripTests p s).pvw = s.pvw ∧
    (tripTests p s).msu.gathered = s.msu.gathered ∧
    (tripTests p s).msu.idleReached = s.msu.idleReached ∧
    (tripTests p s).msu.awaitHigh = s.msu.awaitHigh ∧
    (tripTests p s).msu.rejected = s.msu.rejected ∧
    (tripTests p s).msu.lastRejection = s.msu.lastRejection ∧
    (tripTests p s).msu.latches = s.msu.latches ∧
    (tripTests p s).msu.windows = s.msu.windows ∧
    (tripTests p s).dtu.normalTarget = s.dtu.normalTarget ∧
    (tripTests p s).dtu.setpoint = s.dtu.setpoint ∧
    (tripTests p s).dtu.tripSet = s.dtu.tripSet ∧
    (tripTests p s).dtu.pendingTrip = s.dtu.pendingTrip ∧
    (tripTests p s).dtu.duty = s.dtu.duty ∧
    (tripTests p s).dtu.runReq = s.dtu.runReq ∧
    (tripTests p s).dtu.runAck = s.dtu.runAck ∧
    (tripTests p s).dtu.startTimer = s.dtu.startTimer ∧
    (tripTests p s).dtu.warmTimer = s.dtu.warmTimer ∧
    (tripTests p s).dtu.stopTimer = s.dtu.stopTimer ∧
    (tripTests p s).dtu.setpt = s.dtu.setpt ∧
    (tripTests p s).rng = s.rng ∧
    (tripTests p s).xcp = s.xcp ∧
    (tripTests p s).evu.refreshCount = s.evu.refreshCount ∧
    (tripTests p s).pnp = s.pnp ∧
    (tripTests p s).pending = s.pending := by
  simp only [tripTests]
  repeat' split
  all_goals simp


/-- What `setDemand` leaves as it stands. -/
@[simp] theorem setDemand_keeps (p : Quantity) (s : State) :
    (setDemand p s).pins = s.pins ∧
    (setDemand p s).stl = s.stl ∧
    (setDemand p s).settings = s.settings ∧
    (setDemand p s).lif.quiet = s.lif.quiet ∧
    (setDemand p s).lif.rx = s.lif.rx ∧
    (setDemand p s).lif.leadFrom = s.lif.leadFrom ∧
    (setDemand p s).lif.cells = s.lif.cells ∧
    (setDemand p s).lif.report = s.lif.report ∧
    (setDemand p s).lif.rxHeader = s.lif.rxHeader ∧
    (setDemand p s).lif.rxStartedSending = s.lif.rxStartedSending ∧
    (setDemand p s).frh.lineState = s.frh.lineState ∧
    (setDemand p s).frh.joinTimer = s.frh.joinTimer ∧
    (setDemand p s).frh.nextSeq = s.frh.nextSeq ∧
    (setDemand p s).frh.outbox.trip = s.frh.outbox.trip ∧
    (setDemand p s).frh.outbox.clear = s.frh.outbox.clear ∧
    (setDemand p s).frh.outbox.replies = s.frh.outbox.replies ∧
    (setDemand p s).frh.outbox.restAsk = s.frh.outbox.restAsk ∧
    (setDemand p s).frh.outbox.demand = s.frh.outbox.demand ∧
    (setDemand p s).frh.inFlight = s.frh.inFlight ∧
    (setDemand p s).frh.lastDemand = s.frh.lastDemand ∧
    (setDemand p s).frh.notice = s.frh.notice ∧
    (setDemand p s).pvw = s.pvw ∧
    (setDemand p s).msu.gathered = s.msu.gathered ∧
    (setDemand p s).msu.idleReached = s.msu.idleReached ∧
    (setDemand p s).msu.awaitHigh = s.msu.awaitHigh ∧
    (setDemand p s).msu.rejected = s.msu.rejected ∧
    (setDemand p s).msu.lastRejection = s.msu.lastRejection ∧
    (setDemand p s).msu.latches = s.msu.latches ∧
    (setDemand p s).msu.windows = s.msu.windows ∧
    (setDemand p s).dtu.normalTarget = s.dtu.normalTarget ∧
    (setDemand p s).dtu.setpoint = s.dtu.setpoint ∧
    (setDemand p s).dtu.tripSet = s.dtu.tripSet ∧
    (setDemand p s).dtu.pendingTrip = s.dtu.pendingTrip ∧
    (setDemand p s).dtu.duty = s.dtu.duty ∧
    (setDemand p s).dtu.runReq = s.dtu.runReq ∧
    (setDemand p s).dtu.runAck = s.dtu.runAck ∧
    (setDemand p s).dtu.startTimer = s.dtu.startTimer ∧
    (setDemand p s).dtu.warmTimer = s.dtu.warmTimer ∧
    (setDemand p s).dtu.stopTimer = s.dtu.stopTimer ∧
    (setDemand p s).dtu.setpt = s.dtu.setpt ∧
    (setDemand p s).rng = s.rng ∧
    (setDemand p s).xcp = s.xcp ∧
    (setDemand p s).evu.refreshCount = s.evu.refreshCount ∧
    (setDemand p s).pnp = s.pnp ∧
    (setDemand p s).pending = s.pending := by
  simp only [setDemand]
  simp only [regulate, holdTripped]
  repeat' split
  all_goals simp


/-- What `writeTurbineQuantities` leaves as it stands. -/
@[simp] theorem writeTurbineQuantities_keeps (p : Quantity) (s : State) :
    (writeTurbineQuantities p s).pins = s.pins ∧
    (writeTurbineQuantities p s).stl = s.stl ∧
    (writeTurbineQuantities p s).settings = s.settings ∧
    (writeTurbineQuantities p s).lif = s.lif ∧
    (writeTurbineQuantities p s).frh = s.frh ∧
    (writeTurbineQuantities p s).pvw = s.pvw ∧
    (writeTurbineQuantities p s).msu.gathered = s.msu.gathered ∧
    (writeTurbineQuantities p s).msu.idleReached = s.msu.idleReached ∧
    (writeTurbineQuantities p s).msu.awaitHigh = s.msu.awaitHigh ∧
    (writeTurbineQuantities p s).msu.rejected = s.msu.rejected ∧
    (writeTurbineQuantities p s).msu.lastRejection = s.msu.lastRejection ∧
    (writeTurbineQuantities p s).msu.latches = s.msu.latches ∧
    (writeTurbineQuantities p s).msu.windows = s.msu.windows ∧
    (writeTurbineQuantities p s).dtu = s.dtu ∧
    (writeTurbineQuantities p s).rng = s.rng ∧
    (writeTurbineQuantities p s).srg = s.srg ∧
    (writeTurbineQuantities p s).xcp = s.xcp ∧
    (writeTurbineQuantities p s).evu = s.evu ∧
    (writeTurbineQuantities p s).pnp = s.pnp ∧
    (writeTurbineQuantities p s).pending = s.pending := by
  simp only [writeTurbineQuantities]
  repeat' split
  all_goals simp


/-- What `turbineShare` leaves as it stands. -/
@[simp] theorem turbineShare_keeps (s : State) :
    (turbineShare s).pins = s.pins ∧
    (turbineShare s).stl = s.stl ∧
    (turbineShare s).settings = s.settings ∧
    (turbineShare s).lif.quiet = s.lif.quiet ∧
    (turbineShare s).lif.rx = s.lif.rx ∧
    (turbineShare s).lif.leadFrom = s.lif.leadFrom ∧
    (turbineShare s).lif.cells = s.lif.cells ∧
    (turbineShare s).lif.report = s.lif.report ∧
    (turbineShare s).lif.rxHeader = s.lif.rxHeader ∧
    (turbineShare s).lif.rxStartedSending = s.lif.rxStartedSending ∧
    (turbineShare s).frh.lineState = s.frh.lineState ∧
    (turbineShare s).frh.joinTimer = s.frh.joinTimer ∧
    (turbineShare s).frh.nextSeq = s.frh.nextSeq ∧
    (turbineShare s).frh.outbox.replies = s.frh.outbox.replies ∧
    (turbineShare s).frh.outbox.restAsk = s.frh.outbox.restAsk ∧
    (turbineShare s).frh.notice = s.frh.notice ∧
    (turbineShare s).pvw = s.pvw ∧
    (turbineShare s).msu.gathered = s.msu.gathered ∧
    (turbineShare s).msu.idleReached = s.msu.idleReached ∧
    (turbineShare s).msu.awaitHigh = s.msu.awaitHigh ∧
    (turbineShare s).msu.rejected = s.msu.rejected ∧
    (turbineShare s).msu.lastRejection = s.msu.lastRejection ∧
    (turbineShare s).msu.latches = s.msu.latches ∧
    (turbineShare s).msu.windows = s.msu.windows ∧
    (turbineShare s).dtu.normalTarget = s.dtu.normalTarget ∧
    (turbineShare s).dtu.setpoint = s.dtu.setpoint ∧
    (turbineShare s).dtu.tripSet = s.dtu.tripSet ∧
    (turbineShare s).dtu.pendingTrip = s.dtu.pendingTrip ∧
    (turbineShare s).dtu.duty = s.dtu.duty ∧
    (turbineShare s).dtu.runReq = s.dtu.runReq ∧
    (turbineShare s).dtu.runAck = s.dtu.runAck ∧
    (turbineShare s).dtu.startTimer = s.dtu.startTimer ∧
    (turbineShare s).dtu.warmTimer = s.dtu.warmTimer ∧
    (turbineShare s).dtu.stopTimer = s.dtu.stopTimer ∧
    (turbineShare s).dtu.setpt = s.dtu.setpt ∧
    (turbineShare s).rng = s.rng ∧
    (turbineShare s).xcp = s.xcp ∧
    (turbineShare s).evu.refreshCount = s.evu.refreshCount ∧
    (turbineShare s).pnp = s.pnp ∧
    (turbineShare s).pending = s.pending := by
  simp only [turbineShare]
  repeat' split
  all_goals simp


/-- What `mixSilica` leaves as it stands. -/
@[simp] theorem mixSilica_keeps (s : State) :
    (mixSilica s).pins = s.pins ∧
    (mixSilica s).stl = s.stl ∧
    (mixSilica s).settings = s.settings ∧
    (mixSilica s).lif = s.lif ∧
    (mixSilica s).frh = s.frh ∧
    (mixSilica s).pvw = s.pvw ∧
    (mixSilica s).msu = s.msu ∧
    (mixSilica s).dtu = s.dtu ∧
    (mixSilica s).rng = s.rng ∧
    (mixSilica s).srg = s.srg ∧
    (mixSilica s).evu = s.evu ∧
    (mixSilica s).pnp = s.pnp ∧
    (mixSilica s).pending = s.pending := by
  simp only [mixSilica]
  repeat' split
  all_goals simp


/-- What `outletLimit` leaves as it stands. -/
@[simp] theorem outletLimit_keeps (s : State) :
    (outletLimit s).pins = s.pins ∧
    (outletLimit s).stl = s.stl ∧
    (outletLimit s).settings = s.settings ∧
    (outletLimit s).lif.quiet = s.lif.quiet ∧
    (outletLimit s).lif.rx = s.lif.rx ∧
    (outletLimit s).lif.leadFrom = s.lif.leadFrom ∧
    (outletLimit s).lif.cells = s.lif.cells ∧
    (outletLimit s).lif.report = s.lif.report ∧
    (outletLimit s).lif.rxHeader = s.lif.rxHeader ∧
    (outletLimit s).lif.rxStartedSending = s.lif.rxStartedSending ∧
    (outletLimit s).frh.lineState = s.frh.lineState ∧
    (outletLimit s).frh.joinTimer = s.frh.joinTimer ∧
    (outletLimit s).frh.nextSeq = s.frh.nextSeq ∧
    (outletLimit s).frh.outbox.trip = s.frh.outbox.trip ∧
    (outletLimit s).frh.outbox.clear = s.frh.outbox.clear ∧
    (outletLimit s).frh.outbox.replies = s.frh.outbox.replies ∧
    (outletLimit s).frh.outbox.restAsk = s.frh.outbox.restAsk ∧
    (outletLimit s).frh.outbox.demand = s.frh.outbox.demand ∧
    (outletLimit s).frh.inFlight = s.frh.inFlight ∧
    (outletLimit s).frh.lastDemand = s.frh.lastDemand ∧
    (outletLimit s).frh.notice = s.frh.notice ∧
    (outletLimit s).pvw = s.pvw ∧
    (outletLimit s).msu.gathered = s.msu.gathered ∧
    (outletLimit s).msu.idleReached = s.msu.idleReached ∧
    (outletLimit s).msu.awaitHigh = s.msu.awaitHigh ∧
    (outletLimit s).msu.rejected = s.msu.rejected ∧
    (outletLimit s).msu.lastRejection = s.msu.lastRejection ∧
    (outletLimit s).msu.latches = s.msu.latches ∧
    (outletLimit s).msu.windows = s.msu.windows ∧
    (outletLimit s).dtu.normalTarget = s.dtu.normalTarget ∧
    (outletLimit s).dtu.setpoint = s.dtu.setpoint ∧
    (outletLimit s).dtu.tripSet = s.dtu.tripSet ∧
    (outletLimit s).dtu.pendingTrip = s.dtu.pendingTrip ∧
    (outletLimit s).dtu.duty = s.dtu.duty ∧
    (outletLimit s).dtu.runReq = s.dtu.runReq ∧
    (outletLimit s).dtu.runAck = s.dtu.runAck ∧
    (outletLimit s).dtu.startTimer = s.dtu.startTimer ∧
    (outletLimit s).dtu.warmTimer = s.dtu.warmTimer ∧
    (outletLimit s).dtu.stopTimer = s.dtu.stopTimer ∧
    (outletLimit s).dtu.setpt = s.dtu.setpt ∧
    (outletLimit s).rng = s.rng ∧
    (outletLimit s).srg = s.srg ∧
    (outletLimit s).evu.refreshCount = s.evu.refreshCount ∧
    (outletLimit s).pnp = s.pnp ∧
    (outletLimit s).pending = s.pending := by
  simp only [outletLimit]
  repeat' split
  all_goals simp


/-- What `exchangeDemand` leaves as it stands. -/
@[simp] theorem exchangeDemand_keeps (i : ExchangeInputs) (s : State) :
    (exchangeDemand i s).pins = s.pins ∧
    (exchangeDemand i s).stl = s.stl ∧
    (exchangeDemand i s).settings = s.settings ∧
    (exchangeDemand i s).lif.quiet = s.lif.quiet ∧
    (exchangeDemand i s).lif.rx = s.lif.rx ∧
    (exchangeDemand i s).lif.leadFrom = s.lif.leadFrom ∧
    (exchangeDemand i s).lif.cells = s.lif.cells ∧
    (exchangeDemand i s).lif.report = s.lif.report ∧
    (exchangeDemand i s).lif.rxHeader = s.lif.rxHeader ∧
    (exchangeDemand i s).lif.rxStartedSending = s.lif.rxStartedSending ∧
    (exchangeDemand i s).frh.lineState = s.frh.lineState ∧
    (exchangeDemand i s).frh.joinTimer = s.frh.joinTimer ∧
    (exchangeDemand i s).frh.nextSeq = s.frh.nextSeq ∧
    (exchangeDemand i s).frh.outbox.trip = s.frh.outbox.trip ∧
    (exchangeDemand i s).frh.outbox.clear = s.frh.outbox.clear ∧
    (exchangeDemand i s).frh.outbox.replies = s.frh.outbox.replies ∧
    (exchangeDemand i s).frh.outbox.restAsk = s.frh.outbox.restAsk ∧
    (exchangeDemand i s).frh.outbox.demand = s.frh.outbox.demand ∧
    (exchangeDemand i s).frh.inFlight = s.frh.inFlight ∧
    (exchangeDemand i s).frh.lastDemand = s.frh.lastDemand ∧
    (exchangeDemand i s).frh.notice = s.frh.notice ∧
    (exchangeDemand i s).pvw = s.pvw ∧
    (exchangeDemand i s).msu.gathered = s.msu.gathered ∧
    (exchangeDemand i s).msu.idleReached = s.msu.idleReached ∧
    (exchangeDemand i s).msu.awaitHigh = s.msu.awaitHigh ∧
    (exchangeDemand i s).msu.rejected = s.msu.rejected ∧
    (exchangeDemand i s).msu.lastRejection = s.msu.lastRejection ∧
    (exchangeDemand i s).msu.latches = s.msu.latches ∧
    (exchangeDemand i s).msu.windows = s.msu.windows ∧
    (exchangeDemand i s).dtu.normalTarget = s.dtu.normalTarget ∧
    (exchangeDemand i s).dtu.setpoint = s.dtu.setpoint ∧
    (exchangeDemand i s).dtu.tripSet = s.dtu.tripSet ∧
    (exchangeDemand i s).dtu.pendingTrip = s.dtu.pendingTrip ∧
    (exchangeDemand i s).dtu.duty = s.dtu.duty ∧
    (exchangeDemand i s).dtu.runReq = s.dtu.runReq ∧
    (exchangeDemand i s).dtu.runAck = s.dtu.runAck ∧
    (exchangeDemand i s).dtu.startTimer = s.dtu.startTimer ∧
    (exchangeDemand i s).dtu.warmTimer = s.dtu.warmTimer ∧
    (exchangeDemand i s).dtu.stopTimer = s.dtu.stopTimer ∧
    (exchangeDemand i s).dtu.setpt = s.dtu.setpt ∧
    (exchangeDemand i s).rng = s.rng ∧
    (exchangeDemand i s).srg = s.srg ∧
    (exchangeDemand i s).evu.refreshCount = s.evu.refreshCount ∧
    (exchangeDemand i s).pnp = s.pnp ∧
    (exchangeDemand i s).pending = s.pending := by
  simp only [exchangeDemand]
  repeat' split
  all_goals simp


/-- What `writeExchangeQuantities` leaves as it stands. -/
@[simp] theorem writeExchangeQuantities_keeps (m : Bool) (i : ExchangeInputs) (s : State) :
    (writeExchangeQuantities m i s).pins = s.pins ∧
    (writeExchangeQuantities m i s).stl = s.stl ∧
    (writeExchangeQuantities m i s).settings = s.settings ∧
    (writeExchangeQuantities m i s).lif = s.lif ∧
    (writeExchangeQuantities m i s).frh = s.frh ∧
    (writeExchangeQuantities m i s).pvw = s.pvw ∧
    (writeExchangeQuantities m i s).msu.gathered = s.msu.gathered ∧
    (writeExchangeQuantities m i s).msu.idleReached = s.msu.idleReached ∧
    (writeExchangeQuantities m i s).msu.awaitHigh = s.msu.awaitHigh ∧
    (writeExchangeQuantities m i s).msu.rejected = s.msu.rejected ∧
    (writeExchangeQuantities m i s).msu.lastRejection = s.msu.lastRejection ∧
    (writeExchangeQuantities m i s).msu.latches = s.msu.latches ∧
    (writeExchangeQuantities m i s).msu.windows = s.msu.windows ∧
    (writeExchangeQuantities m i s).dtu = s.dtu ∧
    (writeExchangeQuantities m i s).rng = s.rng ∧
    (writeExchangeQuantities m i s).srg = s.srg ∧
    (writeExchangeQuantities m i s).xcp = s.xcp ∧
    (writeExchangeQuantities m i s).evu = s.evu ∧
    (writeExchangeQuantities m i s).pnp = s.pnp ∧
    (writeExchangeQuantities m i s).pending = s.pending := by
  simp only [writeExchangeQuantities]
  repeat' split
  all_goals simp


/-- What `exchangeShare` leaves as it stands. -/
@[simp] theorem exchangeShare_keeps (s : State) :
    (exchangeShare s).pins = s.pins ∧
    (exchangeShare s).stl = s.stl ∧
    (exchangeShare s).settings = s.settings ∧
    (exchangeShare s).lif.quiet = s.lif.quiet ∧
    (exchangeShare s).lif.rx = s.lif.rx ∧
    (exchangeShare s).lif.leadFrom = s.lif.leadFrom ∧
    (exchangeShare s).lif.cells = s.lif.cells ∧
    (exchangeShare s).lif.report = s.lif.report ∧
    (exchangeShare s).lif.rxHeader = s.lif.rxHeader ∧
    (exchangeShare s).lif.rxStartedSending = s.lif.rxStartedSending ∧
    (exchangeShare s).frh.lineState = s.frh.lineState ∧
    (exchangeShare s).frh.joinTimer = s.frh.joinTimer ∧
    (exchangeShare s).frh.nextSeq = s.frh.nextSeq ∧
    (exchangeShare s).frh.outbox.trip = s.frh.outbox.trip ∧
    (exchangeShare s).frh.outbox.clear = s.frh.outbox.clear ∧
    (exchangeShare s).frh.outbox.replies = s.frh.outbox.replies ∧
    (exchangeShare s).frh.outbox.restAsk = s.frh.outbox.restAsk ∧
    (exchangeShare s).frh.inFlight = s.frh.inFlight ∧
    (exchangeShare s).frh.notice = s.frh.notice ∧
    (exchangeShare s).pvw = s.pvw ∧
    (exchangeShare s).msu.gathered = s.msu.gathered ∧
    (exchangeShare s).msu.idleReached = s.msu.idleReached ∧
    (exchangeShare s).msu.awaitHigh = s.msu.awaitHigh ∧
    (exchangeShare s).msu.rejected = s.msu.rejected ∧
    (exchangeShare s).msu.lastRejection = s.msu.lastRejection ∧
    (exchangeShare s).msu.latches = s.msu.latches ∧
    (exchangeShare s).msu.windows = s.msu.windows ∧
    (exchangeShare s).dtu.normalTarget = s.dtu.normalTarget ∧
    (exchangeShare s).dtu.setpoint = s.dtu.setpoint ∧
    (exchangeShare s).dtu.tripSet = s.dtu.tripSet ∧
    (exchangeShare s).dtu.pendingTrip = s.dtu.pendingTrip ∧
    (exchangeShare s).dtu.duty = s.dtu.duty ∧
    (exchangeShare s).dtu.runReq = s.dtu.runReq ∧
    (exchangeShare s).dtu.runAck = s.dtu.runAck ∧
    (exchangeShare s).dtu.startTimer = s.dtu.startTimer ∧
    (exchangeShare s).dtu.warmTimer = s.dtu.warmTimer ∧
    (exchangeShare s).dtu.stopTimer = s.dtu.stopTimer ∧
    (exchangeShare s).dtu.setpt = s.dtu.setpt ∧
    (exchangeShare s).rng = s.rng ∧
    (exchangeShare s).srg = s.srg ∧
    (exchangeShare s).evu.refreshCount = s.evu.refreshCount ∧
    (exchangeShare s).pnp = s.pnp ∧
    (exchangeShare s).pending = s.pending := by
  simp only [exchangeShare]
  repeat' split
  all_goals simp


/-- What `runAckRises` leaves as it stands. -/
@[simp] theorem runAckRises_keeps (s : State) :
    (runAckRises s).pins = s.pins ∧
    (runAckRises s).stl = s.stl ∧
    (runAckRises s).settings = s.settings ∧
    (runAckRises s).lif.quiet = s.lif.quiet ∧
    (runAckRises s).lif.rx = s.lif.rx ∧
    (runAckRises s).lif.leadFrom = s.lif.leadFrom ∧
    (runAckRises s).lif.cells = s.lif.cells ∧
    (runAckRises s).lif.report = s.lif.report ∧
    (runAckRises s).lif.rxHeader = s.lif.rxHeader ∧
    (runAckRises s).lif.rxStartedSending = s.lif.rxStartedSending ∧
    (runAckRises s).frh.lineState = s.frh.lineState ∧
    (runAckRises s).frh.joinTimer = s.frh.joinTimer ∧
    (runAckRises s).frh.nextSeq = s.frh.nextSeq ∧
    (runAckRises s).frh.outbox.trip = s.frh.outbox.trip ∧
    (runAckRises s).frh.outbox.clear = s.frh.outbox.clear ∧
    (runAckRises s).frh.outbox.replies = s.frh.outbox.replies ∧
    (runAckRises s).frh.outbox.restAsk = s.frh.outbox.restAsk ∧
    (runAckRises s).frh.outbox.demand = s.frh.outbox.demand ∧
    (runAckRises s).frh.inFlight = s.frh.inFlight ∧
    (runAckRises s).frh.lastDemand = s.frh.lastDemand ∧
    (runAckRises s).frh.notice = s.frh.notice ∧
    (runAckRises s).pvw = s.pvw ∧
    (runAckRises s).msu.gathered = s.msu.gathered ∧
    (runAckRises s).msu.idleReached = s.msu.idleReached ∧
    (runAckRises s).msu.awaitHigh = s.msu.awaitHigh ∧
    (runAckRises s).msu.rejected = s.msu.rejected ∧
    (runAckRises s).msu.lastRejection = s.msu.lastRejection ∧
    (runAckRises s).msu.latches = s.msu.latches ∧
    (runAckRises s).msu.windows = s.msu.windows ∧
    (runAckRises s).dtu.tripSet = s.dtu.tripSet ∧
    (runAckRises s).dtu.pendingTrip = s.dtu.pendingTrip ∧
    (runAckRises s).dtu.runAck = s.dtu.runAck ∧
    (runAckRises s).rng.grants = s.rng.grants ∧
    (runAckRises s).srg = s.srg ∧
    (runAckRises s).xcp = s.xcp ∧
    (runAckRises s).evu.refreshCount = s.evu.refreshCount ∧
    (runAckRises s).pnp = s.pnp ∧
    (runAckRises s).pending = s.pending := by
  simp only [runAckRises]
  repeat' split
  all_goals simp


/-- What `runAckFalls` leaves as it stands. -/
@[simp] theorem runAckFalls_keeps (s : State) :
    (runAckFalls s).pins = s.pins ∧
    (runAckFalls s).stl = s.stl ∧
    (runAckFalls s).settings = s.settings ∧
    (runAckFalls s).lif.quiet = s.lif.quiet ∧
    (runAckFalls s).lif.rx = s.lif.rx ∧
    (runAckFalls s).lif.leadFrom = s.lif.leadFrom ∧
    (runAckFalls s).lif.cells = s.lif.cells ∧
    (runAckFalls s).lif.report = s.lif.report ∧
    (runAckFalls s).lif.rxHeader = s.lif.rxHeader ∧
    (runAckFalls s).lif.rxStartedSending = s.lif.rxStartedSending ∧
    (runAckFalls s).frh.lineState = s.frh.lineState ∧
    (runAckFalls s).frh.joinTimer = s.frh.joinTimer ∧
    (runAckFalls s).frh.nextSeq = s.frh.nextSeq ∧
    (runAckFalls s).frh.outbox.trip = s.frh.outbox.trip ∧
    (runAckFalls s).frh.outbox.clear = s.frh.outbox.clear ∧
    (runAckFalls s).frh.outbox.replies = s.frh.outbox.replies ∧
    (runAckFalls s).frh.outbox.restAsk = s.frh.outbox.restAsk ∧
    (runAckFalls s).frh.outbox.demand = s.frh.outbox.demand ∧
    (runAckFalls s).frh.inFlight = s.frh.inFlight ∧
    (runAckFalls s).frh.lastDemand = s.frh.lastDemand ∧
    (runAckFalls s).frh.notice = s.frh.notice ∧
    (runAckFalls s).pvw = s.pvw ∧
    (runAckFalls s).msu.gathered = s.msu.gathered ∧
    (runAckFalls s).msu.idleReached = s.msu.idleReached ∧
    (runAckFalls s).msu.awaitHigh = s.msu.awaitHigh ∧
    (runAckFalls s).msu.rejected = s.msu.rejected ∧
    (runAckFalls s).msu.lastRejection = s.msu.lastRejection ∧
    (runAckFalls s).msu.latches = s.msu.latches ∧
    (runAckFalls s).msu.windows = s.msu.windows ∧
    (runAckFalls s).dtu.tripSet = s.dtu.tripSet ∧
    (runAckFalls s).dtu.pendingTrip = s.dtu.pendingTrip ∧
    (runAckFalls s).dtu.runAck = s.dtu.runAck ∧
    (runAckFalls s).rng.grants = s.rng.grants ∧
    (runAckFalls s).srg = s.srg ∧
    (runAckFalls s).xcp = s.xcp ∧
    (runAckFalls s).evu.refreshCount = s.evu.refreshCount ∧
    (runAckFalls s).pnp = s.pnp ∧
    (runAckFalls s).pending = s.pending := by
  simp only [runAckFalls]
  repeat' split
  all_goals simp


/-- What `stageTarget` leaves as it stands. -/
@[simp] theorem stageTarget_keeps (s : State) :
    (stageTarget s).pins = s.pins ∧
    (stageTarget s).stl = s.stl ∧
    (stageTarget s).settings = s.settings ∧
    (stageTarget s).lif = s.lif ∧
    (stageTarget s).frh = s.frh ∧
    (stageTarget s).pvw = s.pvw ∧
    (stageTarget s).msu = s.msu ∧
    (stageTarget s).dtu.derateTotal = s.dtu.derateTotal ∧
    (stageTarget s).dtu.quietCount = s.dtu.quietCount ∧
    (stageTarget s).dtu.setpoint = s.dtu.setpoint ∧
    (stageTarget s).dtu.tripSet = s.dtu.tripSet ∧
    (stageTarget s).dtu.pendingTrip = s.dtu.pendingTrip ∧
    (stageTarget s).dtu.duty = s.dtu.duty ∧
    (stageTarget s).dtu.runReq = s.dtu.runReq ∧
    (stageTarget s).dtu.runAck = s.dtu.runAck ∧
    (stageTarget s).dtu.recallTimer = s.dtu.recallTimer ∧
    (stageTarget s).dtu.startTimer = s.dtu.startTimer ∧
    (stageTarget s).dtu.warmTimer = s.dtu.warmTimer ∧
    (stageTarget s).dtu.stopTimer = s.dtu.stopTimer ∧
    (stageTarget s).dtu.setpt = s.dtu.setpt ∧
    (stageTarget s).rng = s.rng ∧
    (stageTarget s).srg = s.srg ∧
    (stageTarget s).xcp = s.xcp ∧
    (stageTarget s).evu = s.evu ∧
    (stageTarget s).pnp = s.pnp ∧
    (stageTarget s).pending = s.pending := by
  simp only [stageTarget]
  repeat' split
  all_goals simp


/-- What `stageShortfall` leaves as it stands. -/
@[simp] theorem stageShortfall_keeps (d t : Nat) (s : State) :
    (stageShortfall d t s).pins = s.pins ∧
    (stageShortfall d t s).stl = s.stl ∧
    (stageShortfall d t s).settings = s.settings ∧
    (stageShortfall d t s).lif.quiet = s.lif.quiet ∧
    (stageShortfall d t s).lif.rx = s.lif.rx ∧
    (stageShortfall d t s).lif.leadFrom = s.lif.leadFrom ∧
    (stageShortfall d t s).lif.cells = s.lif.cells ∧
    (stageShortfall d t s).lif.report = s.lif.report ∧
    (stageShortfall d t s).lif.rxHeader = s.lif.rxHeader ∧
    (stageShortfall d t s).lif.rxStartedSending = s.lif.rxStartedSending ∧
    (stageShortfall d t s).frh.lineState = s.frh.lineState ∧
    (stageShortfall d t s).frh.joinTimer = s.frh.joinTimer ∧
    (stageShortfall d t s).frh.nextSeq = s.frh.nextSeq ∧
    (stageShortfall d t s).frh.outbox.trip = s.frh.outbox.trip ∧
    (stageShortfall d t s).frh.outbox.clear = s.frh.outbox.clear ∧
    (stageShortfall d t s).frh.outbox.replies = s.frh.outbox.replies ∧
    (stageShortfall d t s).frh.outbox.restAsk = s.frh.outbox.restAsk ∧
    (stageShortfall d t s).frh.outbox.demand = s.frh.outbox.demand ∧
    (stageShortfall d t s).frh.inFlight = s.frh.inFlight ∧
    (stageShortfall d t s).frh.lastDemand = s.frh.lastDemand ∧
    (stageShortfall d t s).frh.notice = s.frh.notice ∧
    (stageShortfall d t s).pvw = s.pvw ∧
    (stageShortfall d t s).msu.gathered = s.msu.gathered ∧
    (stageShortfall d t s).msu.idleReached = s.msu.idleReached ∧
    (stageShortfall d t s).msu.awaitHigh = s.msu.awaitHigh ∧
    (stageShortfall d t s).msu.rejected = s.msu.rejected ∧
    (stageShortfall d t s).msu.lastRejection = s.msu.lastRejection ∧
    (stageShortfall d t s).msu.latches = s.msu.latches ∧
    (stageShortfall d t s).msu.windows = s.msu.windows ∧
    (stageShortfall d t s).dtu.normalTarget = s.dtu.normalTarget ∧
    (stageShortfall d t s).dtu.setpoint = s.dtu.setpoint ∧
    (stageShortfall d t s).dtu.tripSet = s.dtu.tripSet ∧
    (stageShortfall d t s).dtu.pendingTrip = s.dtu.pendingTrip ∧
    (stageShortfall d t s).dtu.duty = s.dtu.duty ∧
    (stageShortfall d t s).dtu.runReq = s.dtu.runReq ∧
    (stageShortfall d t s).dtu.runAck = s.dtu.runAck ∧
    (stageShortfall d t s).dtu.startTimer = s.dtu.startTimer ∧
    (stageShortfall d t s).dtu.warmTimer = s.dtu.warmTimer ∧
    (stageShortfall d t s).dtu.stopTimer = s.dtu.stopTimer ∧
    (stageShortfall d t s).dtu.setpt = s.dtu.setpt ∧
    (stageShortfall d t s).rng = s.rng ∧
    (stageShortfall d t s).srg = s.srg ∧
    (stageShortfall d t s).xcp = s.xcp ∧
    (stageShortfall d t s).evu.refreshCount = s.evu.refreshCount ∧
    (stageShortfall d t s).pnp = s.pnp ∧
    (stageShortfall d t s).pending = s.pending := by
  simp only [stageShortfall]
  repeat' split
  all_goals simp


/-- What `stageRamp` leaves as it stands. -/
@[simp] theorem stageRamp_keeps (s : State) :
    (stageRamp s).pins = s.pins ∧
    (stageRamp s).stl = s.stl ∧
    (stageRamp s).settings = s.settings ∧
    (stageRamp s).lif = s.lif ∧
    (stageRamp s).frh = s.frh ∧
    (stageRamp s).pvw = s.pvw ∧
    (stageRamp s).msu = s.msu ∧
    (stageRamp s).dtu.derateTotal = s.dtu.derateTotal ∧
    (stageRamp s).dtu.quietCount = s.dtu.quietCount ∧
    (stageRamp s).dtu.normalTarget = s.dtu.normalTarget ∧
    (stageRamp s).dtu.target = s.dtu.target ∧
    (stageRamp s).dtu.tripSet = s.dtu.tripSet ∧
    (stageRamp s).dtu.pendingTrip = s.dtu.pendingTrip ∧
    (stageRamp s).dtu.duty = s.dtu.duty ∧
    (stageRamp s).dtu.runReq = s.dtu.runReq ∧
    (stageRamp s).dtu.runAck = s.dtu.runAck ∧
    (stageRamp s).dtu.recallTimer = s.dtu.recallTimer ∧
    (stageRamp s).dtu.startTimer = s.dtu.startTimer ∧
    (stageRamp s).dtu.warmTimer = s.dtu.warmTimer ∧
    (stageRamp s).dtu.stopTimer = s.dtu.stopTimer ∧
    (stageRamp s).dtu.setpt = s.dtu.setpt ∧
    (stageRamp s).rng = s.rng ∧
    (stageRamp s).srg = s.srg ∧
    (stageRamp s).xcp = s.xcp ∧
    (stageRamp s).evu = s.evu ∧
    (stageRamp s).pnp = s.pnp ∧
    (stageRamp s).pending = s.pending := by
  simp only [stageRamp]
  repeat' split
  all_goals simp


/-- What `stageDuty` leaves as it stands. -/
@[simp] theorem stageDuty_keeps (s : State) :
    (stageDuty s).pins = s.pins ∧
    (stageDuty s).stl = s.stl ∧
    (stageDuty s).settings = s.settings ∧
    (stageDuty s).lif.quiet = s.lif.quiet ∧
    (stageDuty s).lif.rx = s.lif.rx ∧
    (stageDuty s).lif.leadFrom = s.lif.leadFrom ∧
    (stageDuty s).lif.cells = s.lif.cells ∧
    (stageDuty s).lif.report = s.lif.report ∧
    (stageDuty s).lif.rxHeader = s.lif.rxHeader ∧
    (stageDuty s).lif.rxStartedSending = s.lif.rxStartedSending ∧
    (stageDuty s).frh.lineState = s.frh.lineState ∧
    (stageDuty s).frh.joinTimer = s.frh.joinTimer ∧
    (stageDuty s).frh.nextSeq = s.frh.nextSeq ∧
    (stageDuty s).frh.outbox.trip = s.frh.outbox.trip ∧
    (stageDuty s).frh.outbox.clear = s.frh.outbox.clear ∧
    (stageDuty s).frh.outbox.replies = s.frh.outbox.replies ∧
    (stageDuty s).frh.outbox.demand = s.frh.outbox.demand ∧
    (stageDuty s).frh.inFlight = s.frh.inFlight ∧
    (stageDuty s).frh.lastDemand = s.frh.lastDemand ∧
    (stageDuty s).frh.notice = s.frh.notice ∧
    (stageDuty s).pvw = s.pvw ∧
    (stageDuty s).msu.gathered = s.msu.gathered ∧
    (stageDuty s).msu.idleReached = s.msu.idleReached ∧
    (stageDuty s).msu.awaitHigh = s.msu.awaitHigh ∧
    (stageDuty s).msu.rejected = s.msu.rejected ∧
    (stageDuty s).msu.lastRejection = s.msu.lastRejection ∧
    (stageDuty s).msu.latches = s.msu.latches ∧
    (stageDuty s).msu.windows = s.msu.windows ∧
    (stageDuty s).dtu.tripSet = s.dtu.tripSet ∧
    (stageDuty s).dtu.pendingTrip = s.dtu.pendingTrip ∧
    (stageDuty s).dtu.runAck = s.dtu.runAck ∧
    (stageDuty s).rng.grants = s.rng.grants ∧
    (stageDuty s).srg = s.srg ∧
    (stageDuty s).xcp = s.xcp ∧
    (stageDuty s).evu.refreshCount = s.evu.refreshCount ∧
    (stageDuty s).pnp = s.pnp ∧
    (stageDuty s).pending = s.pending := by
  simp only [stageDuty]
  simp only [stopRampEnds]
  repeat' split
  all_goals simp


/-- What `stageQuantities` leaves as it stands. -/
@[simp] theorem stageQuantities_keeps (v : Validity) (d t : Nat) (s : State) :
    (stageQuantities v d t s).pins = s.pins ∧
    (stageQuantities v d t s).stl = s.stl ∧
    (stageQuantities v d t s).settings = s.settings ∧
    (stageQuantities v d t s).lif = s.lif ∧
    (stageQuantities v d t s).frh = s.frh ∧
    (stageQuantities v d t s).pvw = s.pvw ∧
    (stageQuantities v d t s).msu.gathered = s.msu.gathered ∧
    (stageQuantities v d t s).msu.idleReached = s.msu.idleReached ∧
    (stageQuantities v d t s).msu.awaitHigh = s.msu.awaitHigh ∧
    (stageQuantities v d t s).msu.rejected = s.msu.rejected ∧
    (stageQuantities v d t s).msu.lastRejection = s.msu.lastRejection ∧
    (stageQuantities v d t s).msu.latches = s.msu.latches ∧
    (stageQuantities v d t s).msu.windows = s.msu.windows ∧
    (stageQuantities v d t s).dtu = s.dtu ∧
    (stageQuantities v d t s).rng = s.rng ∧
    (stageQuantities v d t s).srg = s.srg ∧
    (stageQuantities v d t s).xcp = s.xcp ∧
    (stageQuantities v d t s).evu = s.evu ∧
    (stageQuantities v d t s).pnp = s.pnp ∧
    (stageQuantities v d t s).pending = s.pending := by
  simp [stageQuantities]


/-- What `wellShare` leaves as it stands. -/
@[simp] theorem wellShare_keeps (s : State) :
    (wellShare s).pins = s.pins ∧
    (wellShare s).stl = s.stl ∧
    (wellShare s).settings = s.settings ∧
    (wellShare s).lif.quiet = s.lif.quiet ∧
    (wellShare s).lif.rx = s.lif.rx ∧
    (wellShare s).lif.leadFrom = s.lif.leadFrom ∧
    (wellShare s).lif.cells = s.lif.cells ∧
    (wellShare s).lif.report = s.lif.report ∧
    (wellShare s).lif.rxHeader = s.lif.rxHeader ∧
    (wellShare s).lif.rxStartedSending = s.lif.rxStartedSending ∧
    (wellShare s).frh.lineState = s.frh.lineState ∧
    (wellShare s).frh.joinTimer = s.frh.joinTimer ∧
    (wellShare s).frh.nextSeq = s.frh.nextSeq ∧
    (wellShare s).frh.outbox.trip = s.frh.outbox.trip ∧
    (wellShare s).frh.outbox.clear = s.frh.outbox.clear ∧
    (wellShare s).frh.outbox.replies = s.frh.outbox.replies ∧
    (wellShare s).frh.outbox.demand = s.frh.outbox.demand ∧
    (wellShare s).frh.inFlight = s.frh.inFlight ∧
    (wellShare s).frh.lastDemand = s.frh.lastDemand ∧
    (wellShare s).frh.notice = s.frh.notice ∧
    (wellShare s).pvw = s.pvw ∧
    (wellShare s).msu.gathered = s.msu.gathered ∧
    (wellShare s).msu.idleReached = s.msu.idleReached ∧
    (wellShare s).msu.awaitHigh = s.msu.awaitHigh ∧
    (wellShare s).msu.rejected = s.msu.rejected ∧
    (wellShare s).msu.lastRejection = s.msu.lastRejection ∧
    (wellShare s).msu.latches = s.msu.latches ∧
    (wellShare s).msu.windows = s.msu.windows ∧
    (wellShare s).dtu.tripSet = s.dtu.tripSet ∧
    (wellShare s).dtu.pendingTrip = s.dtu.pendingTrip ∧
    (wellShare s).dtu.runAck = s.dtu.runAck ∧
    (wellShare s).rng.grants = s.rng.grants ∧
    (wellShare s).srg = s.srg ∧
    (wellShare s).xcp = s.xcp ∧
    (wellShare s).evu.refreshCount = s.evu.refreshCount ∧
    (wellShare s).pnp = s.pnp ∧
    (wellShare s).pending = s.pending := by
  simp [wellShare]


/-- What `shareTick` leaves as it stands. -/
@[simp] theorem shareTick_keeps (s : State) :
    (shareTick s).pins = s.pins ∧
    (shareTick s).stl = s.stl ∧
    (shareTick s).settings = s.settings ∧
    (shareTick s).lif.quiet = s.lif.quiet ∧
    (shareTick s).lif.rx = s.lif.rx ∧
    (shareTick s).lif.leadFrom = s.lif.leadFrom ∧
    (shareTick s).lif.cells = s.lif.cells ∧
    (shareTick s).lif.report = s.lif.report ∧
    (shareTick s).lif.rxHeader = s.lif.rxHeader ∧
    (shareTick s).lif.rxStartedSending = s.lif.rxStartedSending ∧
    (shareTick s).frh.lineState = s.frh.lineState ∧
    (shareTick s).frh.joinTimer = s.frh.joinTimer ∧
    (shareTick s).frh.nextSeq = s.frh.nextSeq ∧
    (shareTick s).frh.outbox.replies = s.frh.outbox.replies ∧
    (shareTick s).frh.notice = s.frh.notice ∧
    (shareTick s).pvw = s.pvw ∧
    (shareTick s).msu.gathered = s.msu.gathered ∧
    (shareTick s).msu.idleReached = s.msu.idleReached ∧
    (shareTick s).msu.awaitHigh = s.msu.awaitHigh ∧
    (shareTick s).msu.rejected = s.msu.rejected ∧
    (shareTick s).msu.lastRejection = s.msu.lastRejection ∧
    (shareTick s).msu.latches = s.msu.latches ∧
    (shareTick s).msu.windows = s.msu.windows ∧
    (shareTick s).dtu.tripSet = s.dtu.tripSet ∧
    (shareTick s).dtu.pendingTrip = s.dtu.pendingTrip ∧
    (shareTick s).dtu.runAck = s.dtu.runAck ∧
    (shareTick s).rng.grants = s.rng.grants ∧
    (shareTick s).evu.refreshCount = s.evu.refreshCount ∧
    (shareTick s).pnp = s.pnp ∧
    (shareTick s).pending = s.pending := by
  simp only [shareTick]
  repeat' split
  all_goals simp


/-- What `wordEnds` leaves as it stands. -/
@[simp] theorem wordEnds_keeps (s : State) :
    (wordEnds s).pins = s.pins ∧
    (wordEnds s).stl = s.stl ∧
    (wordEnds s).settings = s.settings ∧
    (wordEnds s).lif = s.lif ∧
    (wordEnds s).frh = s.frh ∧
    (wordEnds s).pvw = s.pvw ∧
    (wordEnds s).msu = s.msu ∧
    (wordEnds s).dtu.derateTotal = s.dtu.derateTotal ∧
    (wordEnds s).dtu.quietCount = s.dtu.quietCount ∧
    (wordEnds s).dtu.normalTarget = s.dtu.normalTarget ∧
    (wordEnds s).dtu.target = s.dtu.target ∧
    (wordEnds s).dtu.setpoint = s.dtu.setpoint ∧
    (wordEnds s).dtu.tripSet = s.dtu.tripSet ∧
    (wordEnds s).dtu.pendingTrip = s.dtu.pendingTrip ∧
    (wordEnds s).dtu.duty = s.dtu.duty ∧
    (wordEnds s).dtu.runReq = s.dtu.runReq ∧
    (wordEnds s).dtu.runAck = s.dtu.runAck ∧
    (wordEnds s).dtu.recallTimer = s.dtu.recallTimer ∧
    (wordEnds s).dtu.startTimer = s.dtu.startTimer ∧
    (wordEnds s).dtu.warmTimer = s.dtu.warmTimer ∧
    (wordEnds s).dtu.stopTimer = s.dtu.stopTimer ∧
    (wordEnds s).rng = s.rng ∧
    (wordEnds s).srg = s.srg ∧
    (wordEnds s).xcp = s.xcp ∧
    (wordEnds s).evu = s.evu ∧
    (wordEnds s).pnp = s.pnp ∧
    (wordEnds s).pending = s.pending := by
  simp only [wordEnds]
  repeat' split
  all_goals simp


end Sys2Proof.Machine
end

