-- ==== Sys2Proof/Laws/Specs.lean ====
section
/-! SUPPORT. What the shared operations do: numbered tables, the selection, the routing of a firing, a change of duty,
the half-cell and the bus. -/

namespace Sys2Proof.Machine

/-! ### Numbered tables -/

/-- Reading a table after an entry is set: the new entry at its number, the old one elsewhere. -/
theorem slotGet_slotSet {α : Type} {n : Nat} (v : Vector α n) (i j : Nat) (a d : α) :
    slotGet (slotSet v i a) j d = if i = j ∧ j < n then a else slotGet v j d := by
  unfold slotGet slotSet
  by_cases hj : j < n <;> simp [hj, Vector.getElem_setIfInBounds]

/-- Reading a table after every entry has gone through a function. -/
theorem slotGet_slotMap {α β : Type} {n : Nat} (f : Nat → α → β) (v : Vector α n) (i : Nat) (d : α) (e : β) (h : i < n) :
    slotGet (slotMap f v) i e = f i (slotGet v i d) := by
  simp [slotGet, slotMap, h]

/-- A read of the quantity table after a write of it. -/
theorem quantityOf_setQuantity (q p : Nat) (e : Quantity) (s : State) (h : p < 11) :
    quantityOf (setQuantity q e s) p = if q = p then e else quantityOf s p := by
  simp [quantityOf, slotGet_slotSet, h]

/-- A read of the view after a row is put into it. -/
theorem rowOf_setRow (n m : Nat) (r : PeerRow) (s : State) (h : m < 32) :
    rowOf (setRow n r s) m = if n = m then r else rowOf s m := by
  simp [rowOf, slotGet_slotSet, h]

/-! ### The selection (R34) -/

/-- A selection in ACTIVE with no attempt under way hands over the first entry, or leaves the transmit side with none. -/
theorem select_hands_over (s : State) (h : s.frh.lineState = .active) (h' : isSending s = false) :
    (select s).lif.tx = selectedTx s s.frh.outbox := by
  unfold isSending at h'
  simp only [select, selectedTx, requiredGap]
  rw [if_pos h]
  cases ht : s.lif.tx <;> simp [ht] at h' ⊢ <;> cases firstEntry s.frh.outbox <;> simp

/-- A selection outside ACTIVE, or during an attempt, changes nothing. -/
theorem select_stands (s : State) (h : s.frh.lineState ≠ .active ∨ isSending s = true) : select s = s := by
  unfold isSending at h
  simp only [select]
  split
  · rename_i ha
    cases ht : s.lif.tx <;> simp [ht, ha] at h ⊢
  · rfl

/-! ### Routing (R166) -/

/-- A firing that no channel takes goes on to the queue. -/
theorem offer_untaken (f : Firing) (s : State) (h : takingChannel f s = none) : offer f s = enqueue f s := by
  simp [offer, h]

/-- A firing that a channel takes is that channel's alone. -/
theorem offer_taken (f : Firing) (s : State) (n : Nat) (h : takingChannel f s = some n) : offer f s = channelActs n f s := by
  simp [offer, h]

/-- The lowest level is a lower bound of the queue's levels. -/
theorem lowestLevel_le (q : List QueueEntry) (e : QueueEntry) (h : e ∈ q) : lowestLevel q ≤ e.level := by
  have key : ∀ (l : List QueueEntry) (a : Nat),
      l.foldl (fun low (x : QueueEntry) => min low x.level) a ≤ a ∧
        ∀ x ∈ l, l.foldl (fun low (x : QueueEntry) => min low x.level) a ≤ x.level := by
    intro l
    induction l with
    | nil => simp
    | cons y l ih =>
      intro a
      have h1 := ih (min a y.level)
      simp only [List.foldl_cons, List.mem_cons, forall_eq_or_imp]
      refine ⟨by omega, by omega, h1.2⟩
  cases q with
  | nil => simp at h
  | cons y l =>
    have hk := key l y.level
    simp only [lowestLevel]
    rcases List.mem_cons.mp h with rfl | hm
    · exact hk.1
    · exact hk.2 e hm

/-! ### A change of duty (R102) -/

/-- A change of duty takes the new duty. -/
@[simp] theorem takeDuty_duty (new : Duty) (cause : List Firing) (s : State) : (takeDuty new cause s).dtu.duty = new := by
  simp only [takeDuty]
  split <;> cases new <;> simp [enterDuty] <;> split <;> simp

/-- The entry to FAULT or RESTING halts the pump: RUN_REQ low, setpoint 0 and the duty timers stopped (R103, R113). -/
theorem takeDuty_halts (new : Duty) (cause : List Firing) (s : State) (h : new = .fault ∨ new = .resting) :
    (takeDuty new cause s).dtu.runReq = false ∧ (takeDuty new cause s).dtu.setpoint = 0 ∧
    (takeDuty new cause s).dtu.startTimer = .stopped ∧ (takeDuty new cause s).dtu.warmTimer = .stopped ∧
    (takeDuty new cause s).dtu.stopTimer = .stopped := by
  simp only [takeDuty]
  rcases h with rfl | rfl <;> split <;> simp [enterDuty]

/-- The entry to STARTING raises RUN_REQ exactly when RUN_ACK is low, with setpoint 0 and the start timer running (R106). -/
theorem takeDuty_starts (cause : List Firing) (s : State) :
    (takeDuty .starting cause s).dtu.runReq = !s.dtu.runAck ∧ (takeDuty .starting cause s).dtu.setpoint = 0 ∧
    (takeDuty .starting cause s).dtu.startTimer = .running (1000 * s.settings.startTimeout) ∧
    (takeDuty .starting cause s).dtu.warmTimer = .stopped ∧ (takeDuty .starting cause s).dtu.stopTimer = .stopped := by
  simp only [takeDuty]
  split <;> simp [enterDuty]

/-- ASKING, REFUSED, STOPPING, and ON from any duty but STARTING, leave setpoint, RUN_REQ and duty timers as they stand (R107,
R110, R111). -/
theorem takeDuty_runs_on (new : Duty) (cause : List Firing) (s : State)
    (h : new = .asking ∨ new = .refused ∨ new = .stopping ∨ (new = .on ∧ s.dtu.duty ≠ .starting)) :
    (takeDuty new cause s).dtu.setpoint = s.dtu.setpoint ∧ (takeDuty new cause s).dtu.runReq = s.dtu.runReq ∧
    (takeDuty new cause s).dtu.startTimer = s.dtu.startTimer ∧ (takeDuty new cause s).dtu.warmTimer = s.dtu.warmTimer ∧
    (takeDuty new cause s).dtu.stopTimer = s.dtu.stopTimer ∧ (takeDuty new cause s).dtu.setpt = s.dtu.setpt := by
  simp only [takeDuty]
  rcases h with rfl | rfl | rfl | ⟨rfl, h⟩ <;> simp [enterDuty]
  simp_all

/-- Leaving ASKING ends the ask, and a change out of REFUSED stops the hold-off (R131, R136, R137). -/
theorem tellNegotiator_ends (new old : Duty) (s : State) :
    (old = .asking → (tellNegotiator new old s).rng.ask = .idle) ∧
    (old = .refused → new ≠ .refused → (tellNegotiator new old s).rng.holdOff = .stopped) := by
  refine ⟨fun h => ?_, fun h h' => ?_⟩
  · subst h
    simp only [tellNegotiator]
    split <;> simp
  · subst h
    simp [tellNegotiator, h']

/-- A STATE entry of a station that keeps entries stands in its slot with the payload taken now, and sets the last published C
(R31, R38). -/
theorem enterStateFrame_keeps_entry (s : State) (h : keepsEntries s = true) :
    (enterStateFrame s).frh.outbox.stateReport = some (replacing s.frh.outbox.stateReport (statePayload s)) ∧
    (enterStateFrame s).frh.lastC = some (cOwn s) := by
  simp [enterStateFrame, h]

/-- A DEMAND entry of a station that keeps entries stands in its slot and sets the last published demand (R31, R39). -/
theorem enterDemandFrame_keeps_entry (d c : Nat) (s : State) (h : keepsEntries s = true) :
    (enterDemandFrame d c s).frh.outbox.demand = some (replacing s.frh.outbox.demand (.demand d c)) ∧
    (enterDemandFrame d c s).frh.lastDemand = some d := by
  simp [enterDemandFrame, h]

/-! ### The half-cell (R8, R14) -/

/-- With an event of LIF due the line stands; otherwise a half-cell ends. -/
theorem lineAdvance_cases (s : State) :
    (lifEventDue s = true ∧ lineAdvance s = s) ∨ (lifEventDue s = false ∧ lineAdvance s = halfCellEnds s) := by
  cases h : lifEventDue s <;> simp [lineAdvance, h]

/-- The idle step moves the line, the setpoint's serial line and the bus, each on its own. -/
theorem idle_parts (s : State) :
    (idle s).pins = (lineAdvance s).pins ∧ (idle s).lif = (lineAdvance s).lif ∧
      (idle s).dtu = { s.dtu with setpt := advanceSetpt s.dtu.setpt } ∧ (idle s).stl = busAdvance s.stl := by
  obtain ⟨_, h⟩ | ⟨_, h⟩ := lineAdvance_cases s <;> simp [idle, h, halfCellEnds]

/-- A half-cell adds one to a running quiet-gap count, and to no other. -/
@[simp] theorem quietGrows_running (n : Nat) : quietGrows (.running n) = .running (n + 1) := rfl
@[simp] theorem quietGrows_held : quietGrows .held = .held := rfl
@[simp] theorem quietGrows_cleared : quietGrows .cleared = .cleared := rfl

/-- While an attempt is under way no gap is reached. -/
theorem gapReached_sending (s : State) (h : isSending s = true) : gapReached s = false := by
  unfold isSending at h
  cases ht : s.lif.tx <;> simp [gapReached, ht] at h ⊢

/-- QUIET_GAP_EXPIRY begins the attempt of a reached gap, and changes nothing otherwise. -/
theorem execQuietGapExpiry_cases (s : State) :
    (gapReached s = true ∧ execQuietGapExpiry s = .next (beginAttempt s)) ∨
      (gapReached s = false ∧ execQuietGapExpiry s = .next s) := by
  cases h : gapReached s <;> simp [execQuietGapExpiry, h]

/-- A half-cell with no mismatch goes on to the next. -/
theorem sendHalf_matches (h : HalfCell) (wave : List HalfCell) (cut line : Bool) (hm : echoMismatch h line = false) :
    sendHalf line (.sending (h :: wave) cut none) = .sending wave cut none := by
  simp [sendHalf, hm]

/-- The first mismatch fixes the point of failure and leaves the rest of the cell. -/
theorem sendHalf_mismatches (h : HalfCell) (wave : List HalfCell) (cut line : Bool) (hm : echoMismatch h line = true) :
    sendHalf line (.sending (h :: wave) cut none) =
      .sending (cutWave (h :: wave)).tail cut (some (failPointOf h.phase)) := by
  simp [sendHalf, hm]

/-- An attempt that has failed goes on with no further check. -/
theorem sendHalf_failed (h : HalfCell) (wave : List HalfCell) (cut line : Bool) (p : FailPoint) :
    sendHalf line (.sending (h :: wave) cut (some p)) = .sending wave cut (some p) := rfl

/-- A station that sends nothing sends nothing after the half-cell. -/
theorem sendHalf_quiet (line : Bool) (t : TxSide) (h : ∀ wave cut failed, t ≠ .sending wave cut failed) :
    sendHalf line t = t := by
  cases t with
  | sending wave cut failed => exact absurd rfl (h wave cut failed)
  | _ => rfl

/-- A half-cell heard either stands as the first half of its cell, or ends the cell. -/
theorem hearHalf_cases (dominant ownEcho : Bool) (c : RxCells) :
    (c.firstHalf = none ∧ hearHalf dominant ownEcho c = ({ c with firstHalf := some dominant }, none)) ∨
      ∃ first, c.firstHalf = some first ∧ hearHalf dominant ownEcho c = cellEnds first dominant ownEcho c := by
  cases h : c.firstHalf <;> simp [hearHalf, h]

/-- The outcome that is due belongs to an attempt that has ended uncut, and to the frame in flight (R8, R11). -/
theorem dueOutcome_eq (s : State) (f : InFlight) (p : Option FailPoint) :
    dueOutcome s = some (f, p) ↔ s.lif.tx = .sending [] false p ∧ s.frh.inFlight = some f := by
  unfold dueOutcome
  split
  · rename_i ht hf
    simp [ht, hf, and_comm]
  · rename_i h
    simp only [reduceCtorEq, false_iff, not_and]
    exact fun ht hf => h _ _ ht hf

/-- A report of LIF takes effect exactly when it is the one that is due, with the octets gathered (R14, R15). -/
theorem handsOver_iff (s : State) (r : RxReport) (octets : List Octet) :
    handsOver s r octets = true ↔ works s = true ∧ s.lif.report = some r ∧ s.lif.cells.octets = octets := by
  simp [handsOver, and_assoc]

/-- A due frame is handed over by its FRAME_COMPLETE. -/
theorem frameDue_iff (s : State) (octets : List Octet) (ownEcho : Bool) :
    frameDue s octets ownEcho ↔ handsOver s (.complete ownEcho) octets = true :=
  (handsOver_iff s _ octets).symm

/-! ### The bus of the configuration memory (R181) -/

/-- What `withBus` sets, and what it leaves as it stands. -/
@[simp] theorem withBus_fields (b : List BusSymbol) (l : Loader) :
    (withBus b l).bus = b ∧ (withBus b l).busAt = 0 ∧ (withBus b l).loadState = l.loadState ∧
      (withBus b l).faultCode = l.faultCode ∧ (withBus b l).station = l.station ∧ (withBus b l).roleCode = l.roleCode ∧
      (withBus b l).clamped = l.clamped ∧ (withBus b l).transfer = l.transfer ∧ (withBus b l).failedTries = l.failedTries ∧
      (withBus b l).waitDue = l.waitDue ∧ (withBus b l).retryWait = l.retryWait ∧ (withBus b l).image = l.image ∧
      (withBus b l).stopSent = l.stopSent := by
  simp [withBus]

/-- The wait after a failed try begins when it is due on an empty bus, and stands otherwise; it leaves the bus alone. -/
theorem beginWait_cases (l : Loader) :
    (l.waitDue = true ∧ l.bus = [] ∧ beginWait l = { l with waitDue := false, retryWait := .running 10 }) ∨
      ((l.waitDue = false ∨ l.bus ≠ []) ∧ beginWait l = l) := by
  unfold beginWait
  cases l.waitDue <;> cases l.bus <;> simp

/-- The bus stands released, goes on with its symbol, or turns to the next one, behind the last of which a wait that is due
begins. -/
theorem busAdvance_cases (l : Loader) :
    (l.bus = [] ∧ busAdvance l = l) ∨
      ∃ b rest, l.bus = b :: rest ∧
        ((l.busAt + 1 < b.levels.length ∧ busAdvance l = { l with busAt := l.busAt + 1 }) ∨
          (b.levels.length ≤ l.busAt + 1 ∧ busAdvance l = beginWait (withBus rest l))) := by
  unfold busAdvance
  split
  · exact .inl ⟨by assumption, rfl⟩
  · rename_i b rest h
    refine .inr ⟨b, rest, h, ?_⟩
    split
    · exact .inl ⟨by assumption, rfl⟩
    · exact .inr ⟨by omega, rfl⟩

/-- While RESET is low both lines of the bus are released (R190). -/
theorem bus_released_in_reset (s : State) (h : s.pins.resetLow = true) : csclReleased s = true ∧ csdaReleased s = true := by
  simp [csclReleased, csdaReleased, busLevels, h]

/-! ### Setpoint words (R89) -/

/-- A word with more than its last stop bit to go is not cut, and otherwise a waiting word begins or the line is idle. -/
theorem wordEnds_cases (s : State) :
    ((s.dtu.setpt = .idle ∨ ∃ o b b' bits w, s.dtu.setpt = .sending o (b :: b' :: bits) w) ∧ wordEnds s = s) ∨
      (∃ o bits, bits.length ≤ 1 ∧ s.dtu.setpt = .sending o bits true ∧ wordEnds s = startWord s) ∨
      ∃ o bits, bits.length ≤ 1 ∧ s.dtu.setpt = .sending o bits false ∧ wordEnds s = setSetpt .idle s := by
  unfold wordEnds
  split <;> rename_i h
  · exact .inl ⟨.inl h, rfl⟩
  · exact .inl ⟨.inr ⟨_, _, _, _, _, h⟩, rfl⟩
  · rename_i o bits n
    match bits, n with
    | [], _ => exact .inr (.inl ⟨o, [], by simp, h, rfl⟩)
    | [b], _ => exact .inr (.inl ⟨o, [b], by simp, h, rfl⟩)
    | b :: b' :: r, n => exact absurd rfl (n b b' r)
  · rename_i o bits n
    match bits, n with
    | [], _ => exact .inr (.inr ⟨o, [], by simp, h, rfl⟩)
    | [b], _ => exact .inr (.inr ⟨o, [b], by simp, h, rfl⟩)
    | b :: b' :: r, n => exact absurd rfl (n b b' r)

end Sys2Proof.Machine
end

