-- ==== Sys2Proof/Tests/Slice0.lean ====
section
/-! SUPPORT. Tests: the ill-formed commands that `Instr.wellFormed` refuses, the worked examples of the spec, and for every
statement with hypotheses a state and operands that meet them. -/

namespace Sys2Proof.Tests

-- One test after the other: many at once take too much memory.
set_option Elab.async false

open Sys2Proof Sys2Proof.Machine

/-! ### Small states -/

/-- A station of number 5 and a role, loaded and in a line state. -/
def station (role : BitVec 2) (l : LineState) : State :=
  { State.reset with
    pins := { State.reset.pins with resetLow := false }
    stl := { State.reset.stl with loadState := .loaded, station := 5, roleCode := role, transfer := 9 }
    frh := { State.reset.frh with lineState := l } }

def well : State := station 0 .active
def turbine : State := station 1 .active
def exchange : State := station 2 .active

def withDtu (s : State) (f : Dtu → Dtu) : State := { s with dtu := f s.dtu }
def withRx (r : RxState) (s : State) : State := { s with lif := { s.lif with rx := r } }
def withTx (t : TxSide) (s : State) : State := { s with lif := { s.lif with tx := t } }
def withOutbox (o : Outbox) (s : State) : State := { s with frh := { s.frh with outbox := o } }
def withPhase (p : PanelPhase) (s : State) : State := { s with pnp := { s.pnp with phase := p } }
def withRow (n : Nat) (r : PeerRow) (s : State) : State := setRow n r s
def withQueue (q : List QueueEntry) (s : State) : State := { s with evu := { s.evu with queue := q } }
def inDuty (d : Duty) (s : State) : State := { s with dtu := { s.dtu with duty := d } }

/-- The state after a command; the state after reset where there is none. -/
def ran (c : Instr) (s : State) : State :=
  match exec c s with
  | .next t => t
  | _ => State.reset

/-- The state after the half-cell that ends now with no command waiting. -/
def halfCell (s : State) : State :=
  match step s with
  | .next t => t
  | _ => State.reset

/-- The line at a level. -/
def onLine (dominant : Bool) (s : State) : State := { s with pins := { s.pins with lineDominant := dominant } }

/-- In DATA, with a report of LIF due and the octets of its frame. -/
def reporting (r : RxReport) (octets : List Octet) (s : State) : State :=
  { s with lif :=
    { s.lif with
      rx := .data, report := some r, cells := { markDue := false, firstHalf := none, bits := [], octets := octets } } }

/-- A frame of a station is due, as no own echo. -/
def hearing (n role : Nat) (p : Payload) (q : Octet) (s : State) : State :=
  reporting (.complete false) (frameOctets n role p q) s

theorem frameDue_reporting (octets : List Octet) (own : Bool) (s : State) (h : works s = true) :
    frameDue (reporting (.complete own) octets s) octets own := ⟨h, rfl, rfl⟩

def entry (p : Payload) (count : Nat) : Entry := { payload := p, count := count, seq := none }

def wellRow (c : Condition) (d : Duty) (capacity : Nat) (flow silica : Option Nat) : PeerRow :=
  { PeerRow.empty with
    condition := c, role := some .well, lastSeq := some 9
    well := some { duty := some d, capacity := some capacity, flow := flow, silica := silica } }

def demandRow (c : Condition) (r : Role) (d : Nat) : PeerRow :=
  { PeerRow.empty with condition := c, role := some r, lastSeq := some 9, demand := some { demand := some d, cause := 0 } }

/-- The view of WELL station 5 in the worked example of The Peer View. -/
def viewOfFive (s : State) : State :=
  withRow 2 (demandRow .fresh .turbine 1807) <| withRow 3 (demandRow .stale .exchange 1903) <|
  withRow 7 (wellRow .fresh .on 800 (some 800) (some 420)) <|
  withRow 8 (wellRow .fresh .refused 700 (some 700) (some 405)) <|
  withRow 11 (wellRow .stale .on 1000 (some 950) none) <|
  withRow 14 { PeerRow.empty with condition := .lost, role := some .well } <|
  withRow 17 (wellRow .fresh .resting 1100 (some 0) none) s

/-- WELL station 5 of the worked share cases: C_own 900, ON, ACTIVE, setpoint 860. -/
def sharer : State :=
  let s := viewOfFive (inDuty .on well)
  { s with
    settings := { s.settings with cRated := 900 }, dtu := { s.dtu with setpoint := 860, target := 860, runReq := true, runAck := true } }

/-- The second worked share case: station 20 counted with C 1200, setpoint 900. -/
def sharer2 : State :=
  withRow 20 (wellRow .fresh .on 1200 none none) (withDtu sharer fun d => { d with setpoint := 900 })

/-! ### Commands that are not well formed -/

theorem test_transfer_needs_32_octets : (Instr.imageTransferDone (List.replicate 31 0)).wellFormed = false := by decide
theorem test_frame_has_at_most_36_octets : (Instr.frameComplete (List.replicate 37 0) false).wellFormed = false := by decide
theorem test_malformed_reason_zero : (Instr.frameMalformed 0).wellFormed = false := by decide
theorem test_malformed_reason_six : (Instr.frameMalformed 6).wellFormed = false := by decide
theorem test_asker_is_a_station_number : (Instr.grantHoldExpiry 32).wellFormed = false := by decide
theorem test_unknown_command_is_unknown : (Instr.unknownCommand 0x10).wellFormed = false := by decide
theorem test_stretch_is_not_empty : (Instr.lineTransition true 0).wellFormed = false := by decide
theorem test_unknown_command_well_formed : (Instr.unknownCommand 0x14).wellFormed = true := by decide

/-- The table gives no row any bits. -/
theorem test_no_word_spells_a_command : decodeTableWord 8 0 = none ∧ State.reset.withFetchWord 16 3 = State.reset := by
  exact ⟨rfl, rfl⟩

/-! ### Worked examples of the spec -/

/-- R16: the CRC of 0x31..0x39 is 0x29B1. -/
theorem test_crc_of_nine_octets : crcOctets [0x31, 0x32, 0x33, 0x34, 0x35, 0x36, 0x37, 0x38, 0x39] = [0xB1, 0x29] := by
  decide +kernel

/-- 12_formats.md: the STATE of station 5 with sequence 117. -/
theorem test_state_octets :
    headerOctets 5 0 .stateReport 117 ++ (Payload.stateReport .on 900 (some 900) (some 380)).octets =
      [0x05, 0x39, 0x75, 0x02, 0x84, 0x03, 0x84, 0x03, 0x7C, 0x01] := by
  decide +kernel

/-- 12_formats.md: the word of the tick at which RUN_REQ falls. -/
theorem test_setpoint_word : setpointOctets 0 .stopping false = [0x00, 0x00, 0x05, 0x5F] := by decide +kernel

/-- The worked sample word: 1234 kPa on channel 0. -/
theorem test_sample_word :
    (latchOf (ran (.sampleOctet 0x8C) (ran (.sampleOctet 0x04) (ran (.sampleOctet 0xD2) (ran (.sampleOctet 0x00) well)))) 0).pending
      = some 1234 := by
  decide +kernel

/-- The worked interpolations of R70. -/
theorem test_interpolations :
    lookup [⟨350, 1030⟩, ⟨450, 1130⟩] 400 = 1080 ∧ lookup [⟨350, 1030⟩, ⟨450, 1135⟩] 400 = 1083 ∧
    lookup [⟨350, 1030⟩, ⟨450, 1135⟩] 351 = 1031 ∧ lookup [⟨400, 1100⟩, ⟨500, 1001⟩] 450 = 1051 ∧
    lookup [⟨400, 1100⟩, ⟨500, 1000⟩] 401 = 1099 := by
  decide +kernel

/-- R7: the gap of 8 cells on attempt 0, and of 8 + 2 (n + 1) after a failure. -/
theorem test_gaps : requiredGap well 0 = 8 ∧ requiredGap well 1 = 20 := by decide +kernel

/-- The worked sums of WELL station 5. -/
theorem test_sums :
    fieldDemand sharer = 3710 ∧ peerCapacity sharer = 2500 ∧ silicaFlowSum sharer = 619500 ∧ flowSum sharer = 1500 ∧
      peerStarting sharer = false := by
  decide +kernel

/-- The first worked share case: share 982, target 900, setpoint 860 to 880, SHORTFALL with detail 310. -/
theorem test_share_case_one :
    share sharer = 982 ∧ (ran .shareTick sharer).dtu.target = 900 ∧ (ran .shareTick sharer).dtu.setpoint = 880 ∧
      (ran .shareTick sharer).evu.queue.map (fun e => (e.source, e.detail)) = [(20, some 310)] := by
  decide +kernel

/-- The second worked share case: share 725, setpoint 900 to 850. -/
theorem test_share_case_two :
    (ran .shareTick sharer2).dtu.target = 725 ∧ (ran .shareTick sharer2).dtu.setpoint = 850 ∧
      (ran .shareTick sharer2).evu.queue = [] := by
  decide +kernel

/-- The worked trip sequence: the header of station 2's TRIP takes the target from 725 to 300 and the setpoint to 525. -/
theorem test_trip_step :
    let s := reporting .header [0x22, 0x0D, 7] (withDtu sharer2 fun d => { d with target := 725, setpoint := 725 })
    let t := ran (.headerArrival 0x22 0x0D 7) { s with settings := { s.settings with tripRamp := 200 } }
    t.dtu.pendingTrip = some 2 ∧ t.dtu.target = 300 ∧ t.dtu.setpoint = 525 := by
  decide +kernel

/-- The worked evaluation: 2700 remain, 3910 are needed, the ask of station 20 is refused as short. -/
theorem test_refused_as_short :
    let s := setGrants [{ asker := 7, capacity := 700, hold := .running 5000 }] sharer2
    remainingCapacity s 20 = 2700 ∧ verdictFor s 20 = .refuseShort := by
  decide +kernel

/-- The regulator of the worked example, ticks 1 to 4. -/
theorem test_regulator_ticks :
    regulatorLaw Settings.default 384000 570 = ⟨385920, 1807, 30⟩ ∧ regulatorLaw Settings.default 385920 575 = ⟨387520, 1763, 25⟩ ∧
    regulatorLaw Settings.default 387520 610 = ⟨386880, 1411, -10⟩ ∧ regulatorLaw Settings.default 386880 200 = ⟨386880, 5511, 400⟩ ∧
    clampDemand Settings.default 5511 = 3000 := by
  decide +kernel

/-- The heat and the brine flows of the worked case and sequence of the exchange. -/
theorem test_exchange_arithmetic :
    heatOf Settings.default 550 2500 = 36662 ∧ brineFlow Settings.default 36662 470 = 1903 ∧
    brineFlow Settings.default 36662 110 = 8130 ∧ brineFlow Settings.default 36662 70 = 12775 ∧
    isolationAfter Settings.default false (some 45) = true ∧ isolationAfter Settings.default true (some 60) = true ∧
    isolationAfter Settings.default true (some 70) = false := by
  decide +kernel

/-- EXCHANGE station 3 of the worked case: its view, its inputs and its last published demand. -/
def exchanger : State :=
  let s := withRow 5 (wellRow .fresh .on 900 (some 900) (some 380)) <| withRow 7 (wellRow .fresh .on 800 (some 800) (some 420)) <|
    withRow 8 (wellRow .fresh .refused 700 (some 700) (some 405)) exchange
  let s := setQuantity 1 ⟨.valid, 550, 0⟩ (setQuantity 2 ⟨.valid, 2500, 0⟩ (setQuantity 3 ⟨.valid, 1600, 0⟩ s))
  { s with
    settings := { s.settings with table := [⟨350, 1030⟩, ⟨450, 1130⟩] }, stl := { s.stl with station := 3 }
    frh := { s.frh with lastDemand := some 1890 } }

/-- The worked case of the exchange: S_mix 400, T_sat 1080, T_bo_min 1130, D_x 1903, and no DEMAND entry. -/
theorem test_exchange_tick :
    let t := ran .shareTick exchanger
    t.xcp = { sMix := 400, tSat := 1080, tBoMin := 1130, isolated := false, heat := 36662, demand := 1903 } ∧
      (quantityOf t 9).value = 3666 ∧ (quantityOf t 10).value = 1903 ∧ t.frh.outbox.demand = none := by
  decide +kernel

/-- The worked silica margin: 55 is below the low limit 60, 60 stays in ALARM, 82 clears. -/
theorem test_window_sequence :
    let c : WindowConfig := { enabled := true, quantity := 8, low := 60, high := 2147483647, hysteresis := 20 }
    evaluated c ⟨.valid, 55, 0⟩ .clear = .alarm .low ∧ evaluated c ⟨.valid, 60, 0⟩ (.alarm .low) = .alarm .low ∧
      evaluated c ⟨.valid, 70, 0⟩ (.alarm .low) = .alarm .low ∧ evaluated c ⟨.valid, 82, 0⟩ (.alarm .low) = .clear := by
  decide +kernel

/-- The full-queue entry of 12_formats.md, among 32. -/
def noStart : QueueEntry :=
  { source := 21, level := 5, subject := none, detail := some 1, repeatCount := 1, stamp := 410, delivery := none }

def filler (n : Nat) : QueueEntry :=
  { source := 9, level := 1, subject := some n, detail := none, repeatCount := 1, stamp := 0, delivery := none }

/-- A queue of 32 entries: the oldest entries of level 1, then one of level 5. -/
def fullQueue : List QueueEntry := (List.range 31).map filler ++ [noStart]

/-- The TAKE on the wire of 12_formats.md. -/
theorem test_take_on_the_wire :
    (ran .take (withPhase .command (withQueue fullQueue well))).pnp.phase =
      .response true [0x00, 0x15, 0x05, 0x00, 0x01, 0x00, 0x01, 0x9A, 0x01, 0x20, 0x02] .settleTake := by
  decide +kernel

/-- 01, lead-in contention: station 4 in the recessive cell of its mark reads the longer lead-in, and its attempt has failed at
LEAD_MARK when that cell ends. -/
theorem test_lead_in_contention :
    let four := withTx (.sending ((attemptWave .stateReport []).drop 8) false none) (onLine true well)
    (halfCell four).lif.tx = .sending [⟨.mark, false⟩] false (some .leadMark) ∧
      (halfCell (halfCell four)).lif.tx = .sending [] false (some .leadMark) := by
  decide +kernel

/-- 01, data collision: the 0-sender mismatches in the first half of the cell and still sends its dominant second half, the
1-sender in the second half. -/
theorem test_data_collision :
    let zero := withTx (.sending ((attemptWave .demand [0x02]).drop 12) false none) (onLine true well)
    let one := withTx (.sending ((attemptWave .demand [0x03]).drop 12) false none) (onLine true well)
    (halfCell zero).lif.tx = .sending [⟨.data, true⟩] false (some .data) ∧
      (halfCell (halfCell one)).lif.tx = .sending [] false (some .data) := by
  decide +kernel

/-- 01, release-check failure: the cell ends, and then the outcome is due. -/
theorem test_release_check_failure :
    (halfCell (withTx (.sending [⟨.check, false⟩, ⟨.check, false⟩] false none) (onLine true well))).lif.tx =
      .sending [⟨.check, false⟩] false (some .check) := by
  decide +kernel

/-- 01, data collision at a receiver: a dominant violation cell before any octet is malformed with reason 3. -/
theorem test_receiver_of_a_collision :
    let c : RxCells := { markDue := false, firstHalf := some true, bits := [], octets := [] }
    (hearHalf true false c).2 = some (.malformed 3) := by
  decide +kernel

/-- A completed frame with other octets than LIF holds, and a failure at another point than the echo check found, change nothing. -/
theorem test_operands_are_what_is_due :
    let s := hearing 7 0 (.restAsk 900) 10 sharer
    let f := withTx (.sending [] false (some .check)) well
    ran (.frameComplete [0] false) s = s ∧ ran (.frameComplete (frameOctets 7 0 (.restAsk 900) 10) true) s = s ∧
      ran (.attemptFailed .data) f = f := by
  decide +kernel

/-- R13: a line still dominant when the receive side enters HUNT is measured from that moment: 64 of 192 periods are no start. -/
theorem test_hunt_measures_from_now :
    let s := onLine true (withRx .data well)
    let held := { s with pins := { s.pins with lineSince := 128 } }
    (ran (.frameMalformed 3) (reporting (.malformed 3) [] held)).lif.leadFrom = 128 ∧
      (ran (.lineTransition false 192) (ran (.frameMalformed 3) (reporting (.malformed 3) [] held))).lif.rx = .hunt := by
  decide +kernel

/-- R181: transfer 9 sends 0x58, the octet address 0x0120 and 0x59, and CSDA falls under a high CSCL at its start. -/
theorem test_transfer_on_the_bus :
    (transferSymbols 9).take 6 = [.start, .octet 0x58, .octet 0x01, .octet 0x20, .again, .octet 0x59] ∧
      BusSymbol.start.levels.take 2 = [(true, true), (true, false)] := by
  decide +kernel

/-- R99: recall base 10 s, step 5 s, station 5: 35 s. -/
theorem test_recall_time : recallTime well = 35 := by decide +kernel

/-! ### The configuration image -/

/-- An image of default settings for a role, with a share period and a rank octet, and the word that closes its sum. -/
def image (role : Nat) (sharePeriod rank : Nat) : List Octet :=
  let c := Settings.default
  let flows := octets16 c.cRated ++ octets16 c.derateStep ++ octets16 c.fMin ++ octets16 c.tripFlow ++ octets16 c.rampUp ++
    octets16 c.rampDown ++ octets16 c.tripRamp ++ [octetOf c.recoverySpan, octetOf rank, 30, 30]
  let rests := octets16 c.warmUp ++ octets16 c.recallBase ++ [5, 5] ++ octets16 c.replyWindow ++ octets16 c.refusedHoldOff ++
    octets16 c.reserve
  let plant := octets16 c.pSet ++ octets16 c.kp ++ octets16 c.ki ++ octets16 c.turbineLimit ++ octets16 0 ++ octets16 c.pTrip ++
    octets16 c.pTripHys ++ octets16 c.supplySetpoint ++ octets16 c.silicaMargin ++ octets16 c.outletFloor ++
    octets16 c.minimumDrop ++ octets16 c.dropHysteresis ++ octets16 c.specificHeat ++ octets16 c.exchangeLimit ++
    octets16 c.defaultSilica
  let head := [1, octetOf role, 0, 2] ++ octets16 1000 ++ octets16 500 ++ [3, 10, 4, 4] ++ octets16 65535 ++ octets16 1200 ++
    octets16 50 ++ octets16 50 ++ octets16 sharePeriod ++ [20, 20]
  let table := c.table.flatMap fun p => octets16 p.silica ++ octets16 p.temperature
  let window := [0, 0] ++ octets32 (-2147483648) ++ octets32 2147483647 ++ octets32 0
  let body := head ++ flows ++ rests ++ plant ++ table ++ (List.replicate 8 window).flatten ++ List.replicate 16 0 ++
    c.levels.map octetOf ++ List.replicate 6 0
  body ++ octets16 (65536 - wordSum body % 65536)

/-- A station that has done nine of ten transfers of an image. -/
def ninthDone (role : BitVec 2) (img : List Octet) : State :=
  let s := station role .offline
  { s with stl := { s.stl with loadState := .reading, image := img.take 288 } }

/-- The last transfer of an image. -/
def lastOctets (img : List Octet) : List Octet := img.drop 288

/-- 11, worked start: share period 1500 is clamped to 1000 and rank 40 to 31, two clamped fields, JOINING. -/
theorem test_clamped_start :
    let t := ran (.imageTransferDone (lastOctets (image 0 1500 40))) (ninthDone 0 (image 0 1500 40))
    t.frh.lineState = .joining ∧ t.settings.sharePeriod = 1000 ∧ t.settings.rank = some 31 ∧ t.stl.clamped = 2 := by
  decide +kernel

/-- An image for another role faults with code 6, and one whose sum is wrong with code 4 (R182). -/
theorem test_image_faults :
    imageFault (image 1 200 255) 0 = 6 ∧ imageFault (image 0 200 255 |>.set 20 0) 0 = 4 ∧ imageFault (image 0 200 255) 0 = 0 := by
  decide +kernel

/-! ### The hypotheses of the statements are met

One named theorem for each statement that has hypotheses; where a statement has several clauses, the states stand at the ends of
their ranges. -/

/-- A half-cell of an attempt. -/
def half : HalfCell := ⟨.lead, true⟩

/-- A station that sends two half-cells and two bits of a setpoint word, with two symbols for the bus. -/
def busyLines : State :=
  let s := withDtu (withTx (.sending [half, half] false none) well) fun d => { d with setpt := .sending [0] [false, true] false }
  { s with stl := { s.stl with bus := [.start, .stop] } }

theorem witness_EmptyQueueIdles :
    let last := { busyLines with stl := { busyLines.stl with busAt := 2 } }
    let ending := { well with stl := { well.stl with bus := [.stop], busAt := 2, waitDue := true } }
    let ended := withTx (.sending [] false none) well
    busyLines.pending = [] ∧ busyLines.lif.report = none ∧ busyLines.lif.tx = .sending [half, half] false none ∧
      busyLines.dtu.setpt = .sending [0] (false :: true :: []) false ∧
      busyLines.stl.bus = .start :: [.stop] ∧ busyLines.stl.busAt + 1 < BusSymbol.start.levels.length ∧
      last.pending = [] ∧ BusSymbol.start.levels.length ≤ last.stl.busAt + 1 ∧
      ending.pending = [] ∧ ending.stl.bus = .stop :: [] ∧ BusSymbol.stop.levels.length ≤ ending.stl.busAt + 1 ∧
      ending.stl.waitDue = true ∧ last.stl.waitDue = false ∧
      ended.pending = [] ∧ ended.lif.tx = .sending [] false none ∧
      State.reset.pending = [] ∧ isSending State.reset = false ∧ State.reset.lif.rx ≠ .data ∧ State.reset.stl.bus = [] ∧
      State.reset.dtu.setpt = .idle := by
  decide +kernel

theorem witness_HardResetTakesEveryBlock : State.reset.pins.resetLow = true := by decide

/-- A station that reads its image: transfers done, and failed tries of the next, whose octets have all gone over the bus. -/
def reading (role : BitVec 2) (done failed : Nat) (img : List Octet) : State :=
  let s := station role .offline
  { s with stl := { s.stl with loadState := .reading, transfer := done, failedTries := failed, image := img.take (32 * done) } }

/-- What stands on the bus while a transfer is under way. -/
def clocking (symbols : List BusSymbol) (phase : Nat) (s : State) : State :=
  { s with stl := { s.stl with bus := symbols, busAt := phase } }

theorem witness_ImageReadHasThreeTries :
    let img := image 0 200 255
    let bad := img.set 20 0
    let first := clocking (.octet 0x58 :: .octet 0 :: []) 26 (reading 0 0 1 img)
    let third := clocking (.octet 0x58 :: .octet 0 :: []) 26 (reading 0 0 2 img)
    let resting : State := { reading 0 0 1 img with stl := { (reading 0 0 1 img).stl with retryWait := .running 10 } }
    (reading 0 0 0 img).stl.bus = [] ∧ (reading 0 9 0 bad).stl.bus = [] ∧
      tryUnderWay first = true ∧ first.stl.bus = .octet 0x58 :: .octet 0 :: [] ∧ first.stl.busAt = 26 ∧
      first.stl.failedTries < 2 ∧ tryUnderWay third = true ∧ third.stl.bus = .octet 0x58 :: .octet 0 :: [] ∧
      third.stl.busAt = 26 ∧ 2 ≤ third.stl.failedTries ∧ first.stl.bus ≠ [] ∧ third.stl.bus ≠ [] ∧
      isReading resting = true ∧ resting.stl.retryWait ≠ .stopped ∧ resting.stl.bus = [] ∧
    tryUnderWay (reading 0 0 0 img) = true ∧ (img.take 32).length = 32 ∧ (reading 0 0 0 img).stl.transfer < 9 ∧
      tryUnderWay (reading 0 8 0 img) = true ∧ ((img.drop 256).take 32).length = 32 ∧ (reading 0 8 0 img).stl.transfer < 9 ∧
      tryUnderWay (reading 0 9 0 bad) = true ∧ (bad.drop 288).length = 32 ∧ (reading 0 9 0 bad).stl.transfer = 9 ∧
      imageFault ((reading 0 9 0 bad).stl.image ++ bad.drop 288) 0 ≠ 0 ∧ (0 : Nat) < 10 ∧ (9 : Nat) < 10 := by
  decide +kernel

/-- A failed try sends its stop condition whole, then waits 10 ms, and then begins again (R181). -/
theorem test_stop_before_wait :
    let first := clocking (.octet 0x58 :: .octet 0 :: []) 26 (reading 0 0 0 [])
    let s := ran (.addressNotAcknowledged true) first
    let t := halfCell (halfCell (halfCell s))
    s.stl.bus = [.stop] ∧ s.stl.waitDue = true ∧ s.stl.retryWait = .stopped ∧ ran .retryWaitEnd s = s ∧
      (halfCell (halfCell s)).stl.retryWait = .stopped ∧ csdaReleased (halfCell s) = false ∧ csdaReleased (halfCell (halfCell s)) = true ∧
      t.stl.bus = [] ∧ t.stl.waitDue = false ∧ t.stl.retryWait = .running 10 ∧
      (ran .retryWaitEnd t).stl.bus = transferSymbols 0 ∧
      (ran (.addressNotAcknowledged false) first).stl.retryWait = .running 10 := by
  decide +kernel

/-- A TURBINE station before its tenth transfer, with its trip input at a level. -/
def joiningTurbine (tripIn : Bool) : State :=
  let s := reading 1 9 0 (image 1 200 255)
  { s with srg := { s.srg with tripIn := tripIn } }

theorem witness_GoodImageJoins :
    let img := image 1 200 255
    (joiningTurbine true).stl.bus = [] ∧ (joiningTurbine false).stl.bus = [] ∧
      tryUnderWay (joiningTurbine true) = true ∧ (lastOctets img).length = 32 ∧ (joiningTurbine true).stl.transfer = 9 ∧
      imageFault ((joiningTurbine true).stl.image ++ lastOctets img) 1 = 0 ∧ (joiningTurbine true).rng.ask = .idle ∧
      (hasRole (joiningTurbine true) .turbine && (joiningTurbine true).srg.tripIn) = true ∧
      tryUnderWay (joiningTurbine false) = true ∧ (joiningTurbine false).stl.transfer = 9 ∧
      imageFault ((joiningTurbine false).stl.image ++ lastOctets img) 1 = 0 ∧ (joiningTurbine false).rng.ask = .idle ∧
      (hasRole (joiningTurbine false) .turbine && (joiningTurbine false).srg.tripIn) = false := by
  decide +kernel

theorem witness_SentFrameReadsBack :
    (31 : Nat) ≤ 31 ∧ (Payload.trip .headerHigh).inRange ∧ Payload.clear.inRange ∧ (Payload.restReply 31 255 .refuseFull).inRange ∧
      (Payload.restAsk 65534).inRange ∧ (Payload.demand 65534 2).inRange ∧
      (Payload.stateReport .fault 65534 (some 65535) (some 2000)).inRange ∧ (Payload.stateReport .on 0 none none).inRange := by
  simp [Payload.inRange]

theorem witness_JoinExpiryGoesActive :
    works (station 0 .joining) = true ∧ (station 0 .joining).frh.lineState = .joining := by
  decide +kernel

/-- A resting station whose view is short of capacity meets the six recall conditions; a pending trip breaks one (R104). -/
theorem test_recall_conditions :
    let s := inDuty .resting sharer
    recallConditions s = true ∧ recallConditions (withDtu s fun d => { d with pendingTrip := some 2 }) = false := by
  decide +kernel

/-- An outbox that holds one STATE. -/
def stateEntry (count : Nat) (seq : Option Octet) : Entry :=
  { payload := .stateReport .on 900 (some 900) (some 380), count := count, seq := seq }

def askEntry (seq : Option Octet) : Entry := { payload := .restAsk 900, count := 0, seq := seq }

/-- A station that waits for a gap of so many cells, with so many half-cells counted, with one entry of its outbox. -/
def waitingFor (gap halfCells : Nat) (o : Outbox) : State :=
  let s := withOutbox o (withTx (.waiting gap) well)
  { s with lif := { s.lif with quiet := .running halfCells } }

/-- A station whose gap has just been reached. -/
def ready (o : Outbox) : State := waitingFor 8 16 o

theorem witness_AttemptTakesNextNumber :
    let s := ready { Outbox.empty with stateReport := some (stateEntry 1 (some 255)) }
    let a := ready { Outbox.empty with restAsk := some (askEntry none) }
    works s = true ∧ s.frh.lineState = .active ∧ s.lif.tx = .waiting 8 ∧ s.lif.quiet = .running 16 ∧ 2 * 8 ≤ 16 ∧
      firstEntry s.frh.outbox = some (stateEntry 1 (some 255)) ∧
      works a = true ∧ a.frh.lineState = .active ∧ a.lif.tx = .waiting 8 ∧ a.lif.quiet = .running 16 ∧
      firstEntry a.frh.outbox = some (askEntry none) ∧
      gapReached (waitingFor 20 39 s.frh.outbox) = false ∧ gapReached { s with frh := { s.frh with lineState := .joining } } = false := by
  decide +kernel

/-- Station 5 waits 8 quiet cells for a first attempt and 20 for a later one, from the transition on; the count already reached
stands at an exchange, and a dominant level clears it (R7). -/
theorem test_quiet_gap :
    let first := { Outbox.empty with stateReport := some (stateEntry 0 none) }
    let later := { Outbox.empty with stateReport := some (stateEntry 1 (some 255)) }
    let released := ran (.lineTransition false 1280) (onLine true (waitingFor 8 0 first))
    let exchanged := select (waitingFor 20 16 first)
    released.lif.quiet = .running 0 ∧ (halfCell released).lif.quiet = .running 1 ∧
      isSending (ran .quietGapExpiry (waitingFor 8 15 first)) = false ∧ isSending (ran .quietGapExpiry (waitingFor 8 16 first)) = true ∧
      isSending (ran .quietGapExpiry (select (waitingFor 8 39 later))) = false ∧
      isSending (ran .quietGapExpiry (select (waitingFor 8 40 later))) = true ∧
      exchanged.lif.tx = .waiting 8 ∧ isSending (ran .quietGapExpiry exchanged) = true ∧
      halfCell (waitingFor 8 16 first) = waitingFor 8 16 first ∧
      (ran (.lineTransition true 900) (waitingFor 8 15 first)).lif.quiet = .cleared := by
  decide +kernel

theorem gap_answers (s : State) : exec .quietGapExpiry s = .next (ran .quietGapExpiry s) := rfl

theorem witness_AttemptTakesNextNumber_begins :
    let s := ready { Outbox.empty with stateReport := some (stateEntry 0 none) }
    exec .quietGapExpiry s = .next (ran .quietGapExpiry s) ∧ isSending s = false ∧ isSending (ran .quietGapExpiry s) = true := by
  exact ⟨gap_answers _, by decide +kernel, by decide +kernel⟩

/-- A mark's recessive first and second half on a dominant line, and a cut attempt whose cell has ended. -/
theorem witness_EchoCheckEndsAttempt :
    let wave := attemptWave .stateReport [0x05]
    let at_ (k : Nat) := withTx (.sending (wave.drop k) false none) (onLine true well)
    (at_ 8).pending = [] ∧ (at_ 8).lif.report = none ∧
      (at_ 8).lif.tx = .sending (⟨.mark, false⟩ :: wave.drop 9) false none ∧ (at_ 8).pins.lineDominant = true ∧
      wave = wave.take 8 ++ ⟨.mark, false⟩ :: wave.drop 9 ∧ (wave.take 8).length % 2 = 0 ∧
      (at_ 9).lif.tx = .sending (⟨.mark, false⟩ :: wave.drop 10) false none ∧
      wave = wave.take 9 ++ ⟨.mark, false⟩ :: wave.drop 10 ∧ (wave.take 9).length % 2 = 1 ∧
      (at_ 0).lif.tx = .sending (half :: wave.drop 1) false none ∧ half.dominant = true ∧
      (withTx (.sending [half] true (some .data)) well).lif.tx = .sending (half :: []) true (some .data) ∧
      works (withTx (.sending [] true none) well) = true ∧
      (withTx (.sending [] true none) well).lif.tx = .sending [] true none := by
  decide +kernel

/-- LINE_TX and DRIVE_EN by the half-cell being sent, and released with none (R2, R6). -/
theorem test_line_outputs :
    let s (dominant : Bool) := withTx (.sending [⟨.data, dominant⟩] false none) well
    lineTx (s true) = false ∧ driveEn (s true) = true ∧ lineTx (s false) = true ∧ driveEn (s false) = false ∧
      lineTx (withTx (.waiting 8) well) = true ∧ driveEn (withTx (.waiting 8) well) = false ∧
      (⟨.lead, true⟩ : HalfCell) ∈ attemptWave .clear [] ∧ (⟨.close, true⟩ : HalfCell) ∈ attemptWave .clear [] ∧
      (⟨.check, false⟩ : HalfCell) ∈ attemptWave .clear [] := by
  decide +kernel

/-- In DATA with what has been gathered, on a dominant line. -/
def cellsOf (markDue : Bool) (first : Option Bool) (bits : List Bool) (octets : List Octet) : State :=
  let s := onLine true (withRx .data well)
  { s with lif := { s.lif with cells := { markDue := markDue, firstHalf := first, bits := bits, octets := octets } } }

theorem witness_ReceiverReadsCells :
    (∀ s ∈ [cellsOf true none [] [], cellsOf true (some true) [] [], cellsOf false (some false) [] (List.replicate 36 0),
        cellsOf false (some false) (List.replicate 6 true) (List.replicate 35 0),
        cellsOf false (some false) (List.replicate 7 true) [1, 2], cellsOf false (some true) [] []],
      s.pending = [] ∧ works s = true ∧ s.lif.rx = .data ∧ s.lif.report = none ∧ s.lif.tx = .none ∧
        s.pins.lineDominant = true) ∧
    (List.replicate 6 true).length < 7 ∧ (List.replicate 35 (0 : Octet)).length < 36 ∧ (List.replicate 7 true).length = 7 := by
  decide +kernel

theorem witness_SentFrameIsHeard :
    (31 : Nat) ≤ 31 ∧ (0 : Nat) ≤ 31 ∧ (Payload.restReply 31 255 .refuseFull).inRange ∧ Payload.clear.inRange ∧
      (Payload.stateReport .fault 65534 (some 65535) (some 2000)).inRange := by
  simp [Payload.inRange]

/-- A station whose attempt has ended with no failure, with the frame in flight. -/
def sent (e : Entry) (s : State) : State :=
  let t := withTx (.sending [] false none) s
  { t with frh := { t.frh with inFlight := some { entry := e, doomed := false } } }

/-- ASKING, with the ask numbered 7 on the line. -/
def askOnLine : State :=
  let s := sent (askEntry (some 7)) (inDuty .asking sharer)
  { s with rng := { s.rng with ask := .sending 7 (Vector.replicate 32 none) } }

theorem witness_SentFrameSettles :
    let s := sent (stateEntry 0 (some 7)) well
    works s = true ∧ s.lif.tx = .sending [] false none ∧
      s.frh.inFlight = some { entry := stateEntry 0 (some 7), doomed := false } ∧
      (stateEntry 0 (some 7)).payload.kind ≠ .restAsk ∧
      works askOnLine = true ∧ askOnLine.lif.tx = .sending [] false none ∧
      askOnLine.frh.inFlight = some { entry := askEntry (some 7), doomed := false } ∧
      (askEntry (some 7)).payload.kind = .restAsk ∧ (askEntry (some 7)).seq = some 7 ∧
      askOnLine.rng.ask = .sending 7 (Vector.replicate 32 none) ∧ (rowOf askOnLine 7).condition = .fresh ∧
      counted (rowOf askOnLine 7) = true := by
  decide +kernel

/-- The attempt of an entry, failed with another entry of its kind nowhere in the outbox. -/
def failing (e : Entry) (o : Outbox) : State := withTx (.sending [] false (some .check)) (sent e (withOutbox o well))

def replyTo (a : Nat) : Entry := entry (.restReply a 3 .agree) 7

theorem witness_FailedFrameReturnsOrDrops :
    let r := failing (entry (.restReply 31 3 .agree) 6) { Outbox.empty with replies := [replyTo 1, replyTo 2, replyTo 3] }
    let t := failing (entry (.trip .tripIn) 254) Outbox.empty
    let d := failing (entry (.demand 100 0) 7) Outbox.empty
    works r = true ∧ r.lif.tx = .sending [] false (some .check) ∧ r.frh.inFlight = some { entry := entry (.restReply 31 3 .agree) 6, doomed := false } ∧
      r.frh.outbox.replies.length < 4 ∧
      (r.frh.outbox.replies.all fun e =>
        addresseeOf e != addresseeOf (entry (.restReply 31 3 .agree) 6) && decide (e.count < 8)) = true ∧
      works t = true ∧ t.lif.tx = .sending [] false (some .check) ∧ t.frh.inFlight = some { entry := entry (.trip .tripIn) 254, doomed := false } ∧
      slotEntries .trip t.frh.outbox = [] ∧
      works d = true ∧ d.lif.tx = .sending [] false (some .check) ∧ d.frh.inFlight = some { entry := entry (.demand 100 0) 7, doomed := false } ∧
      slotEntries .demand d.frh.outbox = [] ∧ takingChannel (fire 2 FrameKind.demand.code (failPointCode .check)) d = none := by
  decide +kernel

theorem witness_TransitionMovesReceiver :
    let mark := withRx .mark well
    works mark = true ∧ mark.pins.lineDominant ≠ true ∧ mark.lif.rx = .mark ∧
      (ran (.lineTransition true 95) mark).lif.rx = .lead ∧ (ran (.lineTransition true 96) mark).lif.rx = .data ∧
      (ran (.lineTransition true 159) mark).lif.rx = .data ∧ (ran (.lineTransition true 160) mark).lif.rx = .lead := by
  decide +kernel

/-- The headers of TRIP of station 2 and of STATE of station 2. -/
theorem witness_HeaderGivesEarlyNotice :
    let trip := [0x22, 0x0D, 7]
    let running := reporting .header trip sharer
    let resting := reporting .header trip well
    let known := withDtu running fun d => { d with tripSet := slotSet d.tripSet 2 (some 1) }
    let other := reporting .header [0x02, 0x39, 7] sharer
    works other = true ∧ other.lif.report = some .header ∧ other.lif.cells.octets = [0x02, 0x39, 7] ∧
      givesNotice other 0x02 0x39 = false ∧
      (∀ s ∈ [running, resting, known],
        works s = true ∧ s.lif.report = some .header ∧ s.lif.cells.octets = [0x22, 0x0D, 7] ∧ hasRole s .well = true ∧
          givesNotice s 0x22 0x0D = true) ∧
      inTripSet known (senderOf 0x22) = true ∧ inTripSet running (senderOf 0x22) = false ∧
      running.dtu.duty.runs = true ∧ tripInForce running = false ∧
      inTripSet resting (senderOf 0x22) = false ∧ resting.dtu.duty.runs = false := by
  decide +kernel

theorem witness_MalformedFrameIsReported :
    let s := reporting (.malformed 1) [] well
    let due := { s with frh := { s.frh with notice := some 2 }, dtu := { s.dtu with pendingTrip := some 2 } }
    (works s = true ∧ s.lif.report = some (.malformed 1) ∧ s.frh.notice = none ∧
      takingChannel { source := 1, subject := none, detail := some 1 } s = none ∧
      works due = true ∧ due.lif.report = some (.malformed 1) ∧ due.frh.notice = some 2 ∧ due.dtu.pendingTrip = some 2) ∧
      noChannelBound due := by
  refine ⟨by decide +kernel, ?_⟩
  have h : ∀ n : Nat, n < 4 → (slotGet well.evu.channels n Channel.unbound).source = none := by decide +kernel
  exact h

theorem witness_StateFrameWritesRow :
    let p := Payload.stateReport .asking 65534 (some 65535) (some 2000)
    let s := hearing 31 0 p 7 well
    let x := hearing 0 0 p 7 exchange
    frameDue s (frameOctets 31 0 p 7) false ∧ frameDue x (frameOctets 0 0 p 7) false ∧ p.inRange ∧
      ((31 : Nat) ≤ 31 ∧ 31 ≠ ownNumber s ∧ (rowOf s 31).role = none ∧ (rowOf s 31).lastSeq ≠ some 7 ∧ hasRole s .well = true ∧
        0 ≠ ownNumber x ∧ (rowOf x 0).role = none ∧ (rowOf x 0).lastSeq ≠ some 7 ∧
        hasRole x .well = false ∧ x.frh.notice = none ∧ (rowOf x 0).condition ≠ .lost) := by
  refine ⟨frameDue_reporting _ _ _ (by decide +kernel), frameDue_reporting _ _ _ (by decide +kernel), by simp [Payload.inRange],
    ?_⟩
  decide +kernel

theorem witness_OwnNumberIsAClash :
    let s := hearing 5 0 (.restAsk 1) 7 well
    let j := hearing 5 0 (.restAsk 1) 7 (station 0 .joining)
    frameDue s (frameOctets (ownNumber s) Role.well.code (.restAsk 1) 7) false ∧
      frameDue j (frameOctets (ownNumber j) Role.well.code (.restAsk 1) 7) false ∧
      (keepsEntries s = true ∧ s.lif.rxStartedSending = false ∧ keepsEntries j = true ∧ j.lif.rxStartedSending = false) := by
  exact ⟨frameDue_reporting _ _ _ (by decide +kernel), frameDue_reporting _ _ _ (by decide +kernel), by decide +kernel⟩

/-- An own echo; a TRIP sent as a WELL; a STATE from a row of role TURBINE; and a duplicate, from a LOST row and a FRESH one. -/
theorem witness_DiscardedAndRepeatedFrames :
    let ask := Payload.restAsk 900
    let trip := Payload.trip .tripIn
    let echo := reporting (.complete true) (frameOctets 5 0 ask 9) well
    let wrong := hearing 7 0 trip 9 sharer
    let changed := hearing 2 0 ask 9 sharer
    let again := hearing 7 0 ask 9 sharer
    let back := hearing 7 0 ask 9 (withRow 7 { wellRow .lost .on 500 none none with lastSeq := some 9 } sharer)
    frameDue echo (frameOctets 5 0 ask 9) true ∧ frameDue wrong (frameOctets 7 0 trip 9) false ∧
      frameDue changed (frameOctets 2 0 ask 9) false ∧ frameDue again (frameOctets 7 0 ask 9) false ∧
      frameDue back (frameOctets 7 0 ask 9) false ∧ ask.inRange ∧ trip.inRange ∧
      ¬ roleSends .well trip.kind ∧ roleSends .well ask.kind ∧
      ((∀ s ∈ [echo, wrong, changed, again, back], s.frh.notice = none) ∧ 7 ≠ ownNumber wrong ∧ 2 ≠ ownNumber changed ∧
        takingChannel (fire 4 7 trip.kind.code) wrong = none ∧ takingChannel (fire 4 2 Role.well.code) changed = none ∧
        (rowOf changed 2).role = some .turbine ∧ (rowOf again 7).role = some .well ∧ (rowOf again 7).lastSeq = some 9 ∧
        (rowOf again 7).condition ≠ .lost ∧ (rowOf back 7).condition = .lost ∧ (rowOf back 7).lastSeq = some 9 ∧
        takingChannel (fire 7 7 ask.kind.code) back = none) := by
  refine ⟨frameDue_reporting _ _ _ (by decide +kernel), frameDue_reporting _ _ _ (by decide +kernel),
    frameDue_reporting _ _ _ (by decide +kernel), frameDue_reporting _ _ _ (by decide +kernel),
    frameDue_reporting _ _ _ (by decide +kernel), by simp [Payload.inRange], by simp [Payload.inRange],
    by simp [roleSends, Payload.kind], by simp [roleSends, Payload.kind], ?_⟩
  decide +kernel

/-- The four kinds at WELL station 5, a turbine's CLEAR and DEMAND with it in the trip set and outside, and a STATE at an exchange. -/
theorem witness_AcceptedFrameIsHandedOn :
    let trips := withDtu sharer fun d => { d with tripSet := slotSet d.tripSet 2 (some 1) }
    let frames : List (State × Nat × Role × Payload) :=
      [(sharer, 7, .well, .restReply 5 3 .agree), (sharer, 7, .well, .restAsk 900), (sharer, 2, .turbine, .clear),
       (trips, 2, .turbine, .clear), (trips, 2, .turbine, .demand 1807 0), (trips, 2, .turbine, .demand 0 1),
       (trips, 2, .turbine, .demand 0 2), (sharer, 2, .turbine, .demand 0 1), (sharer, 3, .exchange, .demand 1903 0),
       (exchange, 31, .well, .stateReport .on 65534 (some 65535) none)]
    (∀ f ∈ frames,
      let s := hearing f.2.1 f.2.2.1.code f.2.2.2 10 f.1
      works s = true ∧ f.2.1 ≤ 31 ∧ f.2.1 ≠ ownNumber s ∧ s.frh.notice = none ∧ (f.2.2.2.kind.sentBy f.2.2.1) = true ∧
        ((rowOf s f.2.1).role = none ∨ (rowOf s f.2.1).role = some f.2.2.1) ∧ (rowOf s f.2.1).lastSeq ≠ some 10 ∧
        (rowOf s f.2.1).condition ≠ .lost) ∧
      hasRole sharer .well = true ∧ hasRole exchange .well = false ∧ inTripSet trips 2 = true ∧ inTripSet sharer 2 = false ∧
      slotGet trips.dtu.tripSet 2 none = some 1 ∧
      (∀ f ∈ [fire 27 2 1, fire 27 2 2, fire 25 2 1, fire 25 2 2], takingChannel f trips = none ∧ takingChannel f sharer = none) ∧
      sharer.dtu.duty.runs = true ∧ tripInForce sharer = false ∧ sharer.dtu.duty ≠ .resting := by
  decide +kernel

theorem witness_AcceptedFrameIsHandedOn_due :
    frameDue (hearing 2 1 (.demand 65534 2) 10 sharer) (frameOctets 2 1 (.demand 65534 2) 10) false ∧
      (Payload.demand 65534 2).inRange ∧ roleSends .turbine (Payload.demand 65534 2).kind ∧
      roleSends .well (Payload.restAsk 900).kind ∧ roleSends .turbine Payload.clear.kind := by
  exact ⟨frameDue_reporting _ _ _ (by decide +kernel), by simp [Payload.inRange], by simp [roleSends, Payload.kind],
    by simp [roleSends, Payload.kind], by simp [roleSends, Payload.kind]⟩

theorem witness_RefreshTickAgesRows :
    works well = true ∧ keepsEntries well = true ∧ hasRole well .well = true ∧
      works exchange = true ∧ keepsEntries exchange = true ∧ roleOf exchange = some .exchange ∧ roleOf turbine = some .turbine := by
  decide +kernel

/-- Two views that differ in a LOST row's content. -/
theorem witness_SumsFollowTheRows :
    let s := withRow 14 { wellRow .lost .on 500 none none with lastSeq := none } sharer
    let s' := withRow 14 { PeerRow.empty with condition := .absent } sharer
    s ≠ s' ∧ ∀ n : Nat, n < 32 → rowOf s n = rowOf s' n ∨
      ((rowOf s n).condition ≠ .fresh ∧ (rowOf s n).condition ≠ .stale ∧
        (rowOf s' n).condition ≠ .fresh ∧ (rowOf s' n).condition ≠ .stale) := by
  decide +kernel

/-- A station that has gathered octets of a sample word. -/
def gathering (octets : List Octet) (s : State) : State :=
  { s with msu := { s.msu with gathered := octets, idleReached := false } }

theorem witness_SampleWordReachesLatch :
    let a := gathering [0, 1] well
    let first := gathering [0, 0xD2, 0x04] well
    let last := gathering [7, 0xFF, 0xFF] well
    works a = true ∧ a.msu.awaitHigh = false ∧ a.msu.gathered.length < 3 ∧
      works first = true ∧ first.msu.awaitHigh = false ∧ first.msu.gathered = [0, 0xD2, 0x04] ∧
      (0x8C : Octet) = 0 ^^^ 0xD2 ^^^ 0x04 ^^^ 0x5A ∧
      works last = true ∧ last.msu.gathered = [7, 0xFF, 0xFF] ∧ (0x5D : Octet) = 7 ^^^ 0xFF ^^^ 0xFF ^^^ 0x5A ∧
      (7 : Octet).toNat < 8 ∧ (0xFF : Octet).toNat + 256 * (0xFF : Octet).toNat = last.settings.faultKey := by
  decide +kernel

theorem witness_LinkRejections :
    let s := gathering [8, 0, 0] well
    works s = true ∧ s.msu.awaitHigh = false ∧ s.msu.gathered = [8, 0, 0] ∧
      (0x53 : Octet) ≠ 8 ^^^ 0 ^^^ 0 ^^^ 0x5A ∧ (0x52 : Octet) = 8 ^^^ 0 ^^^ 0 ^^^ 0x5A ∧ 8 ≤ (8 : Octet).toNat ∧
      s.msu.idleReached = false ∧ s.msu.gathered ≠ [] ∧ (gathering [] well).msu.gathered = [] ∧
      works (gathering [] well) = true ∧ (gathering [] well).msu.idleReached = false ∧
      (gathering [] well).msu.awaitHigh = false := by
  decide +kernel

theorem witness_ScanUpdatesMeasured :
    let s := setQuantity 0 ⟨.held, 5, 4⟩ (setQuantity 1 ⟨.valid, 5, 0⟩ well)
    let w := { s with settings :=
      { s.settings with windows := { enabled := true, quantity := 0, low := 0, high := 10, hysteresis := 0 } ::
        s.settings.windows.tail } }
    (works w = true ∧ 0 < mappedChannels (roleOf w) ∧ (quantityOf w 0).validity = .held ∧ (latchOf w 0).pending = none ∧
      (windowConfig w 0).enabled = true ∧ (windowConfig w 0).quantity ≠ 5 ∧ (windowConfig w 7).enabled = false ∧
      hasRole w .well = true ∧ works exchange = true ∧ hasRole exchange .exchange = true) ∧ noChannelBound w := by
  refine ⟨by decide +kernel, ?_⟩
  have h : ∀ n : Nat, n < 4 → (slotGet well.evu.channels n Channel.unbound).source = none := by decide +kernel
  exact h

theorem witness_ScanUpdatesMeasured_windows :
    let c : WindowConfig := { enabled := true, quantity := 0, low := 60, high := 100, hysteresis := 5 }
    let crossed : WindowConfig := { c with low := 100, high := 60 }
    (Quantity.mk .valid 59 0).value < c.low ∧ ¬ c.high < (Quantity.mk .valid 59 0).value ∧
      c.high < (Quantity.mk .held 101 0).value ∧ ¬ (Quantity.mk .held 101 0).value < c.low ∧
      (80 : Int) < crossed.low ∧ crossed.high < 80 ∧
      c.low ≤ 65 ∧ (65 : Int) ≤ c.high ∧ c.low + c.hysteresis ≤ 65 ∧ (65 : Int) ≤ c.high - c.hysteresis ∧
      c.low ≤ 60 ∧ (60 : Int) ≤ c.high ∧ ¬ (c.low + c.hysteresis ≤ 60 ∧ (60 : Int) ≤ c.high - c.hysteresis) := by
  decide

theorem witness_LookupInterpolates :
    tableGood ([⟨100, 169⟩] ++ ⟨350, 1030⟩ :: ⟨450, 1135⟩ :: [⟨500, 1001⟩]) = true ∧ (350 : Nat) ≤ 449 ∧ (449 : Nat) < 450 ∧
      tableGood ([⟨100, 169⟩] ++ [⟨350, 1030⟩]) = true ∧ (350 : Nat) ≤ 350 ∧ (99 : Nat) < 100 ∧
      (1030 : Nat) ≤ 4000 ∧ (1135 : Nat) ≤ 4000 := by
  decide +kernel

theorem witness_RunningWellTakesShare :
    let low := withDtu sharer2 fun d => { d with derateTotal := 800 }
    (∀ s ∈ [sharer2, sharer, low], works s = true ∧ hasRole s .well = true ∧ s.dtu.duty.runs = true ∧
      s.frh.lineState = .active ∧ s.dtu.duty = .on) ∧
      (sharer2.settings.fMin ≤ cOwn sharer2 ∧ fieldDemand sharer2 ≤ cOwn sharer2 + peerCapacity sharer2) ∧
      (cOwn sharer + peerCapacity sharer < fieldDemand sharer ∧ sharer.settings.fMin ≤ cOwn sharer) ∧
      cOwn low < low.settings.fMin ∧
      ∀ s ∈ [sharer2, sharer, low], ∀ n : Nat, n < 4 → (slotGet s.evu.channels n Channel.unbound).source = none := by
  decide +kernel

/-- A derate step and a recovery of it, the published C one step off and nearer than one step. -/
theorem witness_DerateMovesCapacity :
    let near := { sharer with frh := { sharer.frh with lastC := some 849 } }
    let off := { sharer with frh := { sharer.frh with lastC := some 850 } }
    let recovers := withDtu sharer fun d => { d with derateTotal := 100, quietCount := 19 }
    min sharer.settings.cRated (sharer.dtu.derateTotal + sharer.settings.derateStep) ≠ sharer.dtu.derateTotal ∧
      distance (900 - 100) 849 < near.settings.capacityStep ∧ near.frh.lastC = some 849 ∧
      off.settings.capacityStep ≤ distance (900 - 100) 850 ∧ off.frh.lastC = some 850 ∧ keepsEntries off = true ∧
      recovers.settings.recoverySpan ≤ min 255 (recovers.dtu.quietCount + 1) ∧ 0 < recovers.dtu.derateTotal ∧
      recovers.dtu.derateTotal - recovers.settings.derateStep ≠ recovers.dtu.derateTotal := by
  decide +kernel

/-- RESTING with the recall timer running. -/
def recalling : State := withDtu well fun d => { d with recallTimer := .running 35000 }

theorem witness_RecallAndWakeStartThePump :
    works recalling = true ∧ hasRole recalling .well = true ∧ recalling.dtu.recallTimer ≠ .stopped ∧
      recalling.dtu.duty = .resting ∧ keepsEntries recalling = true ∧
      takeable 0x11 (withPhase .command well) = true ∧ (withPhase .command well).dtu.duty = .resting ∧
      (withPhase .command well).dtu.runAck = false ∧ works (withPhase .command well) = true := by
  decide +kernel

/-- STARTING, RUN_REQ high, no acknowledge yet. -/
def starting : State :=
  withDtu well fun d => { d with duty := .starting, runReq := true, startTimer := .running 30000 }

theorem witness_RecallAndWakeStartThePump_acknowledge :
    ({ starting with settings := { starting.settings with warmUp := 0 } } : State).settings.warmUp = 0 ∧
      starting.pins.resetLow = false ∧ starting.dtu.runAck = false ∧ works starting = true ∧ hasRole starting .well = true ∧
      starting.dtu.duty = .starting ∧ starting.dtu.runReq = true ∧ starting.dtu.warmTimer = .stopped ∧
      starting.settings.warmUp ≠ 0 ∧ well.pins.resetLow = false ∧ well.dtu.runAck = false ∧ well.dtu.duty ≠ .starting := by
  decide +kernel

/-- A WELL station whose acknowledge is high, in a duty. -/
def acked (d : Duty) (runReq : Bool) (warm : Timer) : State :=
  withDtu well fun x => { x with duty := d, runReq := runReq, runAck := true, warmTimer := warm }

theorem witness_FallingAckByDuty :
    (∀ s ∈ [acked .starting false .stopped, acked .starting true .stopped, acked .on true .stopped, acked .stopping true .stopped,
        acked .starting true (.running 60000), acked .stopping false .stopped, acked .fault false .stopped],
      s.pins.resetLow = false ∧ s.dtu.runAck = true ∧ works s = true ∧ hasRole s .well = true ∧ keepsEntries s = true) ∧
    (acked .on true .stopped).dtu.duty.runs = true ∧ (acked .starting true (.running 60000)).dtu.warmTimer ≠ .stopped ∧
    (withDtu exchange fun d => { d with runAck := true }).dtu.runAck = true ∧ hasRole exchange .well = false := by
  decide +kernel

theorem witness_DutyTimersEnd :
    let stopping := withDtu well fun d => { d with duty := .stopping, stopTimer := .running 30000 }
    let warming := withDtu starting fun d => { d with warmTimer := .running 60000 }
    let ramping := withDtu well fun d => { d with duty := .stopping, runReq := true, setpoint := 250 }
    works starting = true ∧ hasRole starting .well = true ∧ starting.dtu.startTimer ≠ .stopped ∧ starting.dtu.duty = .starting ∧
      works stopping = true ∧ hasRole stopping .well = true ∧ stopping.dtu.stopTimer ≠ .stopped ∧
      stopping.dtu.duty = .stopping ∧ works warming = true ∧ hasRole warming .well = true ∧
      warming.dtu.warmTimer ≠ .stopped ∧ warming.dtu.duty = .starting ∧ keepsEntries warming = true ∧
      works ramping = true ∧ hasRole ramping .well = true ∧ ramping.dtu.duty = .stopping ∧ ramping.dtu.runReq = true ∧
      movedSetpoint ramping.dtu.setpoint ramping.settings.fMin ramping.settings.rampUp
        (if tripInForce ramping then ramping.settings.tripRamp else ramping.settings.rampDown) = ramping.settings.fMin := by
  decide +kernel

/-- The duties that do not run: RESTING, FAULT, STARTING before and after the acknowledge, and STOPPING above F_min by one flow
unit more than a ramp, and after RUN_REQ has fallen. -/
theorem witness_DutyTimersEnd_ticks :
    let high := withDtu well fun d => { d with duty := .stopping, runReq := true, setpoint := 251 }
    (∀ s ∈ [well, inDuty .fault well, starting, acked .starting true (.running 60000), high,
        withDtu well fun d => { d with duty := .stopping, stopTimer := .running 30000 }],
      works s = true ∧ hasRole s .well = true ∧ s.dtu.duty.runs = false) ∧
      high.settings.fMin = 200 ∧ high.settings.rampDown = 50 ∧
      movedSetpoint 251 high.settings.fMin high.settings.rampUp high.settings.rampDown ≠ high.settings.fMin ∧
      (acked .starting true (.running 60000)).dtu.warmTimer ≠ .stopped := by
  decide +kernel

/-- One flow unit more than a ramp above F_min, the stop goes on; at F_min RUN_REQ falls (R88, R114). -/
theorem test_stop_ramp :
    let high := withDtu well fun d => { d with duty := .stopping, runReq := true, setpoint := 251 }
    let t := ran .shareTick high
    let u := ran .shareTick t
    t.dtu.setpoint = 201 ∧ t.dtu.runReq = true ∧ u.dtu.setpoint = 0 ∧ u.dtu.runReq = false := by
  decide +kernel

theorem witness_SerialWordAndPulseEnd :
    let alone := withDtu well fun d => { d with setpt := .sending [0, 0, 0, 0x5A] [true] false }
    let behind := withDtu well fun d => { d with setpt := .sending [0, 0, 0, 0x5A] [true] true }
    works alone = true ∧ alone.dtu.setpt = .sending [0, 0, 0, 0x5A] [true] false ∧
      works behind = true ∧ behind.dtu.setpt = .sending [0, 0, 0, 0x5A] [true] true ∧ well.pins.resetLow = false ∧
      works well = true ∧ well.dtu.setpt = .idle ∧
      (withDtu well fun d => { d with setpt := .sending [0, 0, 0, 0x5A] [false, true] true }).dtu.setpt =
        .sending [0, 0, 0, 0x5A] (false :: true :: []) true := by
  decide +kernel

/-- No command but a hard reset cuts a word short (R89). -/
theorem test_word_is_not_cut :
    let s := withDtu well fun d => { d with setpt := .sending [0, 0, 0, 0x5A] [false, true] true }
    ran .setpointWordEnd s = s := by
  decide +kernel

/-- An ask whose only member has yet to agree. -/
def lastMember : State :=
  let s := inDuty .asking sharer
  let roll := slotSet (Vector.replicate 32 none) 7 (some none)
  { s with rng := { s.rng with ask := .window 9 roll (.running 1000) } }

/-- The REST-REPLY of station 7 that agrees to the ask of station 5 is due. -/
def agreement : State := hearing 7 0 (.restReply 5 9 .agree) 10 lastMember

def agreementFrame : Instr := .frameComplete (frameOctets 7 0 (.restReply 5 9 .agree) 10) false

theorem frame_answers (octets : List Octet) (s : State) :
    exec (.frameComplete octets false) s = .next (ran (.frameComplete octets false) s) := rfl
theorem sent_answers (s : State) : exec .attemptSent s = .next (ran .attemptSent s) := rfl
theorem refresh_answers (s : State) : exec .refreshTick s = .next (ran .refreshTick s) := rfl

theorem witness_StoppingOnlyFromAsking :
    exec agreementFrame agreement = .next (ran agreementFrame agreement) ∧
      (ran agreementFrame agreement).dtu.duty = .stopping ∧ agreement.dtu.duty ≠ .stopping := by
  exact ⟨frame_answers _ _, by decide +kernel, by decide +kernel⟩

/-- The other two ways: an early AGREE of the only member, and that member's row moving to STALE with no demand left. -/
theorem witness_StoppingOnlyFromAsking_others :
    let alone := withRow 8 PeerRow.empty (withRow 11 PeerRow.empty askOnLine)
    let s := { alone with rng := { alone.rng with ask := .sending 7 (slotSet (Vector.replicate 32 none) 7 (some .agree)) } }
    let idle := withRow 2 PeerRow.empty (withRow 3 PeerRow.empty (withRow 7 { rowOf lastMember 7 with age := 63 } lastMember))
    let r := { idle with settings := { idle.settings with reserve := 0 } }
    (exec .attemptSent s = .next (ran .attemptSent s) ∧ exec .refreshTick r = .next (ran .refreshTick r)) ∧
      (ran .attemptSent s).dtu.duty = .stopping ∧ s.dtu.duty ≠ .stopping ∧
      (ran .refreshTick r).dtu.duty = .stopping ∧ r.dtu.duty ≠ .stopping := by
  exact ⟨⟨sent_answers _, refresh_answers _⟩, by decide +kernel⟩

/-- A running station with a share tick in front. -/
def sharing : State :=
  let s := { sharer2 with settings := { sharer2.settings with cRated := 1000 } }
  { s with pending := [.shareTick] }

theorem witness_DriveStaysSafe : DriveSafe sharing ∧ ∃ t, step sharing = .next t := by
  refine ⟨⟨by decide +kernel, by decide +kernel, by decide +kernel, by decide +kernel, by decide +kernel, by decide +kernel,
    by decide +kernel, by decide +kernel⟩, _, rfl⟩

theorem witness_TripFrameEntersSet :
    let s := hearing 2 1 (.trip .tripIn) 10 sharer
    frameDue s (frameOctets 2 1 (.trip .tripIn) 10) false ∧
      (hasRole s .well = true ∧ (2 : Nat) ≤ 31 ∧ 2 ≠ ownNumber s ∧ s.frh.notice = none ∧
        (rowOf s 2).role = some .turbine ∧ (rowOf s 2).condition ≠ .lost ∧ (rowOf s 2).lastSeq ≠ some 10 ∧
        inTripSet s 2 = false ∧ takingChannel (fire 25 2 TripCause.tripIn.code) s = none ∧
        s.dtu.duty.runs = true ∧ tripInForce s = false) := by
  exact ⟨frameDue_reporting _ _ _ (by decide +kernel), by decide +kernel⟩

/-- A trip set with one station, and its CLEAR in front. -/
def clearing : State :=
  let s := hearing 2 1 .clear 10 (withDtu sharer fun d => { d with tripSet := slotSet d.tripSet 2 (some 1) })
  { s with pending := [.frameComplete (frameOctets 2 1 .clear 10) false] }

theorem witness_TripSetStaysLawful : Law12 clearing ∧ inTripSet clearing 2 = true ∧ ∃ t, step clearing = .next t := by
  exact ⟨by decide +kernel, by decide +kernel, _, rfl⟩

/-- A roll with members 2, 7 and 31, each with a verdict or none. -/
def rollOf (a b c : Option Verdict) : Vector (Option (Option Verdict)) 32 :=
  slotSet (slotSet (slotSet (Vector.replicate 32 none) 2 (some a)) 7 (some b)) 31 (some c)

def asking (roll : Vector (Option (Option Verdict)) 32) : State :=
  let s := inDuty .asking sharer
  { s with rng := { s.rng with ask := .window 9 roll (.running 1000) } }

theorem witness_RollDecidesTheAsk :
    let refused := rollOf (some .agree) (some .refuseShort) (some .refuseFull)
    let agreed := rollOf (some .agree) (some .agree) (some .agree)
    let open_ := rollOf (some .agree) none (some .agree)
    let one : Vector (Option (Option Verdict)) 32 := slotSet (Vector.replicate 32 none) 31 (some none)
    ((asking refused).rng.ask = .window 9 refused (.running 1000) ∧ (asking refused).dtu.duty = .asking ∧
      slotGet refused 7 none = some (some .refuseShort) ∧ Verdict.refuseShort ≠ .agree ∧
      (∀ m : Nat, m < 7 → slotGet refused m none = none ∨ slotGet refused m none = some none ∨
        slotGet refused m none = some (some .agree)) ∧
      (∀ n : Nat, n < 32 → slotGet agreed n none = none ∨ slotGet agreed n none = some (some .agree)) ∧
      slotGet agreed 31 none ≠ none ∧ slotGet open_ 7 none = some none ∧
      (∀ n : Nat, n < 32 → slotGet open_ n none = none ∨ slotGet open_ n none = some none ∨
        slotGet open_ n none = some (some .agree)) ∧
      slotGet agreed 0 none = none ∧ slotGet one 31 none ≠ none ∧
      (∀ m : Nat, m < 32 → m ≠ 31 → slotGet one m none = none) ∧
      askOnLine.rng.ask = .sending 7 (Vector.replicate 32 none) ∧ keepsEntries (asking agreed) = true) ∧
      noChannelBound (asking agreed) := by
  refine ⟨by decide +kernel, ?_⟩
  have h : ∀ n : Nat, n < 4 → (slotGet sharer.evu.channels n Channel.unbound).source = none := by decide +kernel
  exact h

theorem witness_ReplierAnswersAsk :
    let held (n : Nat) := sharer2.frh.outbox.replies ++ (List.range n).map fun a => entry (.restReply a 3 .agree) 0
    let s := withOutbox { Outbox.empty with replies := held 3 } sharer2
    let f := withOutbox { Outbox.empty with replies := held 4 } sharer2
    s.frh.lineState = .active ∧ s.dtu.duty.runs = true ∧ s.frh.outbox.replies.length < 4 ∧
      f.frh.lineState = .active ∧ f.dtu.duty.runs = true ∧
      (f.frh.outbox.replies.any fun e => addresseeOf e == some 3) = true := by
  decide +kernel

theorem witness_NegotiationTimersEnd :
    let refused := withDtu sharer fun d => { d with duty := .refused }
    let held := { refused with rng := { refused.rng with holdOff := .running 30000 } }
    let roll : Vector (Option (Option Verdict)) 32 := slotSet (Vector.replicate 32 none) 7 (some none)
    works lastMember = true ∧ lastMember.rng.ask = .window 9 roll (.running 1000) ∧ slotGet roll 7 none = some none ∧
      (∀ m : Nat, m < 7 → slotGet roll m none ≠ some none) ∧
      lastMember.dtu.duty = .asking ∧ keepsEntries lastMember = true ∧
      works held = true ∧ held.rng.holdOff ≠ .stopped ∧ held.dtu.duty = .refused := by
  decide +kernel

/-- No channel of the reset state is bound, nor of the states of an ask and of a release. -/
theorem witness_noChannelBound : noChannelBound well ∧ noChannelBound lastMember := by
  have h : (∀ n : Nat, n < 4 → (slotGet well.evu.channels n Channel.unbound).source = none) ∧
      ∀ n : Nat, n < 4 → (slotGet lastMember.evu.channels n Channel.unbound).source = none := by decide +kernel
  exact h

/-- Four grants, and the ask of a fifth station in front. -/
def fourGrants : State :=
  let s := setGrants ((List.range 4).map fun a => { asker := a, capacity := 700, hold := .running 5000 }) sharer2
  { hearing 20 0 (.restAsk 1200) 10 s with pending := [.frameComplete (frameOctets 20 0 (.restAsk 1200) 10) false] }

theorem witness_GrantListStaysLawful :
    Law8 fourGrants ∧ ∃ t, step fourGrants = .next t := by
  exact ⟨by decide +kernel, _, rfl⟩

theorem witness_TripInputTripsTurbine :
    let s := station 1 .joining
    let high := setQuantity 0 ⟨.valid, 901, 0⟩ turbine
    works high = true ∧ hasRole high .turbine = true ∧ high.srg.trip = .normal ∧ (quantityOf high 0).validity = .valid ∧
      (high.settings.pTrip : Int) < (quantityOf high 0).value ∧ keepsEntries high = true ∧
      turbine.pins.resetLow = false ∧ turbine.srg.tripIn = false ∧ works turbine = true ∧ hasRole turbine .turbine = true ∧
      turbine.srg.trip ≠ .tripped .tripIn ∧ keepsEntries turbine = true ∧ works s = true ∧ keepsEntries s = true ∧
      well.srg.tripIn = false ∧ hasRole well .turbine = false ∧
      ({ turbine.srg with tripIn := true } : Srg).tripIn = true := by
  decide +kernel

theorem witness_RegulatorStaysInRange :
    let c := Settings.default
    (768000 : Nat) ≤ 256 * c.turbineLimit ∧ (0 : Nat) ≤ 256 * c.turbineLimit ∧
      -- winding beyond the limit, and within it
      ((c.turbineLimit : Int) < (c.kp : Int) * 400 / 16 + (768000 + (c.ki : Int) * 400) / 256 ∧ (0 : Int) < 400) ∧
      ((c.kp : Int) * (-400) / 16 + (0 + (c.ki : Int) * (-400)) / 256 < 0 ∧ (-400 : Int) < 0) := by
  decide

/-- A TURBINE station in NORMAL with P_h 570 kPa, by the first tick of the worked example. -/
def regulating : State :=
  let s := setQuantity 0 ⟨.valid, 570, 0⟩ turbine
  { s with srg := { s.srg with integrator := 384000 } }

theorem witness_TurbineTickRegulates :
    let r := regulatorLaw regulating.settings regulating.srg.integrator 570
    works regulating = true ∧ hasRole regulating .turbine = true ∧ regulating.srg.trip = .normal ∧
      (quantityOf regulating 0).validity = .valid ∧ (quantityOf regulating 0).value = 570 ∧
      (570 : Int) ≤ regulating.settings.pTrip ∧ 0 ≤ r.output ∧ r.output ≤ regulating.settings.turbineLimit ∧
      keepsEntries regulating = true ∧ regulating.frh.lastDemand = none := by
  decide +kernel

/-- Past the clamp, held, and tripped with the pressure back below the trip pressure by its hysteresis. -/
theorem witness_TurbineTickRegulates_others :
    let high := setQuantity 0 ⟨.held, 200, 1⟩ regulating
    let low := setQuantity 0 ⟨.valid, 900, 0⟩ { regulating with srg := { regulating.srg with integrator := 0 } }
    let blind := setQuantity 0 ⟨.invalid, 0, 9⟩ regulating
    let tripped := setQuantity 0 ⟨.valid, 850, 0⟩ { regulating with srg := { regulating.srg with trip := .tripped .headerHigh } }
    (∀ s ∈ [high, low, blind, tripped], works s = true ∧ hasRole s .turbine = true ∧
      ∀ n : Nat, n < 4 → (slotGet s.evu.channels n Channel.unbound).source = none) ∧
      (regulating.settings.turbineLimit : Int) < (regulatorLaw high.settings high.srg.integrator 200).output ∧
      (regulatorLaw low.settings low.srg.integrator 900).output < 0 ∧ (900 : Int) ≤ low.settings.pTrip ∧
      (quantityOf high 0).validity = .held ∧ (quantityOf low 0).validity = .valid ∧ (quantityOf blind 0).validity = .invalid ∧
      high.srg.trip = .normal ∧ low.srg.trip = .normal ∧ blind.srg.trip = .normal ∧
      tripped.srg.trip ≠ .normal ∧ tripped.srg.tripIn = false ∧ (quantityOf tripped 0).validity = .valid ∧
      (quantityOf tripped 0).value ≤ (tripped.settings.pTrip : Int) - tripped.settings.pTripHys ∧ keepsEntries tripped = true := by
  decide +kernel

theorem witness_ExchangeTickComputesDemand_flow : (0 : Int) < 1 ∧ 0 < Settings.default.specificHeat := by decide

theorem witness_ExchangeTickComputesDemand :
    let s := exchanger
    let sMix := silicaFlowSum s / flowSum s
    let tBoMin := min 4000 (max (lookup s.settings.table sMix + s.settings.silicaMargin) s.settings.outletFloor)
    works s = true ∧ hasRole s .exchange = true ∧ s.xcp.isolated = false ∧ 0 < flowSum s ∧ usableValue s 1 = some 550 ∧
      usableValue s 2 = some 2500 ∧ usableValue s 3 = some 1600 ∧ outsideTable s.settings.table sMix = false ∧
      (s.settings.minimumDrop : Int) ≤ 1600 - tBoMin ∧
      brineFlow s.settings (min 1000000 ((2500 : Int) * max 0 ((s.settings.supplySetpoint : Int) - 550) * 419 / 10000).toNat)
        (1600 - tBoMin) ≤ s.settings.exchangeLimit ∧
      s.frh.lastDemand = some 1890 ∧ keepsEntries s = true ∧
      usableValue (setQuantity 3 ⟨.valid, 1179, 0⟩ s) 3 = some 1179 ∧ works (setQuantity 3 ⟨.valid, 1179, 0⟩ s) = true ∧
      (1179 : Int) - tBoMin < (s.settings.minimumDrop : Int) := by
  decide +kernel

/-- Isolated with too little drop, on the way back to SERVING, blind on the district side, blind at the inlet, and clamped: no
channel is bound in any. -/
theorem witness_ExchangeTickComputesDemand_every :
    let isolated (s : State) : State := { s with xcp := { s.xcp with isolated := true } }
    ∀ s ∈ [isolated (setQuantity 3 ⟨.valid, 1199, 0⟩ exchanger), isolated (setQuantity 3 ⟨.valid, 1200, 0⟩ exchanger),
        setQuantity 2 ⟨.invalid, 2500, 5⟩ exchanger, setQuantity 3 ⟨.invalid, 1600, 5⟩ exchanger,
        setQuantity 3 ⟨.held, 1240, 1⟩ exchanger],
      works s = true ∧ hasRole s .exchange = true ∧ keepsEntries s = true ∧
        ∀ n : Nat, n < 4 → (slotGet s.evu.channels n Channel.unbound).source = none := by
  decide +kernel

/-- The ticks of the two worked sequences: isolated at a drop of 45, 69 and 70, clamped at 110, and held without the district flow
(R158 to R162). -/
theorem test_exchange_sequences :
    let isolated (s : State) : State := { s with xcp := { s.xcp with isolated := true } }
    let tick (inlet : Int) (s : State) := ran .shareTick (setQuantity 3 ⟨.valid, inlet, 0⟩ s)
    let blind := ran .shareTick (setQuantity 2 ⟨.invalid, 2500, 5⟩
      { exchanger with xcp := { exchanger.xcp with heat := 36662, demand := 1903 } })
    (tick 1175 exchanger).xcp.isolated = true ∧ (tick 1175 exchanger).evu.queue.map (fun e => (e.source, e.detail)) = [(31, some 45)] ∧
      (tick 1199 (isolated exchanger)).xcp.isolated = true ∧ (tick 1200 (isolated exchanger)).xcp.isolated = false ∧
      (tick 1200 (isolated exchanger)).xcp.demand = 4000 ∧ (tick 1240 exchanger).xcp.demand = 4000 ∧
      (tick 1240 exchanger).evu.queue.map (fun e => (e.source, e.detail)) = [(32, some 2)] ∧
      blind.xcp.demand = 1903 ∧ blind.xcp.heat = 36662 ∧ (quantityOf blind 10).validity = .held := by
  decide +kernel

theorem witness_FiringTakenOnce :
    let c : Channel := { source := some 20, filter := none, mode := .derate, count := 1 }
    let s := { sharer with evu := { sharer.evu with channels := slotSet sharer.evu.channels 3 c } }
    (fireDetail 20 310).source < 33 ∧ (fireDetail 32 0).source < 33 ∧ takingChannel (fireDetail 20 310) s = some 3 ∧
      takingChannel (fireDetail 20 310) sharer = none ∧
      (∀ m ∈ [Mode.pulse0, .pulse1, .count], ∀ k ∈ [1, 2],
        let t := { sharer with evu := { sharer.evu with channels := slotSet sharer.evu.channels 0 { c with mode := m, count := k } } }
        takingChannel (fireDetail 20 310) t = some 0 ∧ (slotGet t.evu.channels 0 Channel.unbound).mode = m ∧ m ≠ .derate ∧
          (slotGet t.evu.channels 0 Channel.unbound).count = k) := by
  decide +kernel

/-- A full queue with a firing command in front. -/
def crowded : State := { withQueue fullQueue sharer with pending := [.shareTick] }

theorem witness_EventQueueStaysLawful :
    Law6 crowded ∧ ∃ t, step crowded = .next t := by
  exact ⟨by decide +kernel, _, rfl⟩

/-- A full outbox, and the failure of a fifth reply in front. -/
def packed : State :=
  let o : Outbox :=
    { trip := none, clear := none, replies := [replyTo 1, replyTo 2, replyTo 3, replyTo 4], restAsk := some (askEntry none)
      demand := none, stateReport := some (stateEntry 7 none) }
  { failing (entry (.restReply 31 3 .agree) 6) o with pending := [.attemptFailed .check] }

theorem witness_OutboxStaysLawful :
    Law5 packed ∧ ∃ t, step packed = .next t := by
  exact ⟨by decide +kernel, _, rfl⟩

/-- A turbine with a TRIP and a CLEAR in its outbox and its trip input turning active. -/
def tripping : State :=
  let o : Outbox := { Outbox.empty with trip := some (entry (.trip .headerHigh) 0), clear := some (entry .clear 0) }
  { withOutbox o turbine with pending := [.tripInActive] }

theorem step_tripping : step tripping = .next (ran .tripInActive { tripping with pending := [] }) := rfl

theorem witness_OutboxStaysLawful_trip :
    let t := ran .tripInActive { tripping with pending := [] }
    Law5 tripping ∧ keepsEntries t = true ∧ t.srg.trip ≠ tripping.srg.trip ∧ t.srg.trip ≠ .normal := by
  decide +kernel

theorem witness_QueueTakesFiring :
    let one := withQueue [{ noStart with source := 22, repeatCount := 255, delivery := some 255 }] well
    let muted := { well with settings := { well.settings with levels := [0] } }
    let s := withQueue fullQueue well
    let urgent := withQueue (List.replicate 32 noStart) well
    s.evu.queue.length = 32 ∧ levelOf s 20 ≠ 0 ∧
      (s.evu.queue.any fun e => e.source == 20 && e.subject == none) = false ∧
      s.evu.queue = [] ++ filler 0 :: s.evu.queue.tail ∧ (filler 0).level < levelOf s 20 ∧
      (∀ x ∈ s.evu.queue.tail, (filler 0).level ≤ x.level) ∧
      urgent.evu.queue.length = 32 ∧ (∀ x ∈ urgent.evu.queue, levelOf urgent 22 ≤ x.level) ∧
      (urgent.evu.queue.any fun e => e.source == 22 && e.subject == none) = false ∧ levelOf urgent 22 ≠ 0 ∧
      levelOf muted 1 = 0 ∧ levelOf one 22 ≠ 0 ∧ (one.evu.queue.any fun e => e.source == 22 && e.subject == none) = true ∧
      well.evu.queue.length < 32 ∧ (well.evu.queue.any fun e => e.source == 22 && e.subject == none) = false := by
  decide +kernel

theorem witness_TransactionPhases :
    (0x14 : Octet) ∉ [(0x01 : Octet), 0x02, 0x03, 0x04, 0x05, 0x06, 0x10, 0x11, 0x12, 0x13, 0x1F] ∧
      well.pins.resetLow = false ∧ well.pnp.phase = .idle ∧ (withPhase .discard well).pnp.phase = .discard ∧
      (withPhase .command well).pnp.phase = .command ∧
      (withPhase (.arguments 0x06 [0, 1, 2]) well).pnp.phase = .arguments 0x06 [0, 1, 2] ∧ [(0 : Octet), 1, 2].length < 4 ∧
      (withPhase (.response false [] .nothing) well).pnp.phase = .response false [] .nothing := by
  decide +kernel

theorem witness_StatusReports :
    let s := withPhase (.response false [] (.lowerDropped 255)) well
    takeable 0x01 (withPhase .command State.reset) = false ∧ takeable 0x01 (withPhase .command well) = true ∧
      s.pins.resetLow = false ∧ s.pnp.phase = .response false [] (.lowerDropped 255) := by
  decide +kernel

/-- ATTN at the threshold and below it; FAULT in each of its four cases and in none (R173, R185). -/
theorem test_attn_and_fault :
    let q (level : Nat) := withQueue [{ noStart with level := level }] well
    well.settings.attentionThreshold = 4 ∧ attn (q 4) = true ∧ attn (q 3) = false ∧ attn well = false ∧
      faultOut State.reset = true ∧ faultOut (station 0 .listenOnly) = true ∧ faultOut (inDuty .fault well) = true ∧
      faultOut (inDuty .fault exchange) = false ∧ faultOut well = false := by
  decide +kernel

/-- One entry in delivery. -/
def delivering (late : Nat) : State :=
  withPhase (.response false [] .settleTake) (withQueue [filler 0, { noStart with delivery := some late }] well)

theorem witness_TakeDeliversMostUrgent :
    let s := withPhase .command (withQueue fullQueue well)
    takeable 0x02 (withPhase .command well) = true ∧ (withPhase .command well).evu.queue = [] ∧
      s.evu.queue = (List.range 31).map filler ++ noStart :: [] ∧
      (∀ x ∈ (List.range 31).map filler ++ [], x.delivery = none) ∧ takeable 0x02 s = true ∧ Law6 s ∧
      (∀ x ∈ (List.range 31).map filler, x.level < noStart.level) ∧
      (∀ late ∈ [0, 255],
        (delivering late).pins.resetLow = false ∧ (delivering late).pnp.phase = .response false [] .settleTake ∧
          (delivering late).evu.queue = [filler 0] ++ { noStart with delivery := some late } :: [] ∧
          (filler 0).delivery = none) := by
  decide +kernel

theorem witness_ReadsChangeNothing :
    takeable 0x03 (withPhase (.arguments 0x03 []) well) = true ∧ takeable 0x04 (withPhase (.arguments 0x04 []) well) = true ∧
      takeable 0x05 (withPhase (.arguments 0x05 []) well) = true ∧
      takeable 0x03 (withPhase (.arguments 0x03 []) (station 0 .offline)) = true := by
  decide +kernel

theorem witness_BindFollowsItsTable :
    let s := withPhase (.arguments 0x06 [3, 32, 255, 2]) well
    let x := withPhase .command exchange
    let o := withPhase .command (station 0 .offline)
    takeable 0x06 s = true ∧ s.frh.lineState ≠ .offline ∧ modeOfCode 2 = some .derate ∧ hasRole s .well = true ∧
      takeable 0x06 x = true ∧ x.frh.lineState ≠ .offline ∧ hasRole x .well = false ∧
      takeable 0x06 o = true ∧ o.frh.lineState = .offline ∧
      (3 : Octet).toNat ≤ 3 ∧ 3 < (4 : Octet).toNat ∧ 33 ≤ (33 : Octet).toNat ∧
      ¬ ((32 : Octet).toNat = 3 ∨ (32 : Octet).toNat = 23 ∨ 33 ≤ (32 : Octet).toNat) ∧ 3 < (4 : Octet).toNat := by
  decide +kernel

theorem witness_OperatorCommandsAct :
    let on := withPhase .command sharer
    let asking := withPhase .command (inDuty .asking sharer)
    let fault := withPhase .command (inDuty .fault well)
    let tripped := withPhase (.arguments 0x13 [])
      (withRow 31 (demandRow .lost .turbine 0) (withDtu well fun d => { d with tripSet := slotSet d.tripSet 31 (some 1) }))
    hasRole on .well = true ∧ takeable 0x10 on = true ∧ keepsEntries on = true ∧ on.dtu.duty = .on ∧
      hasRole asking .well = true ∧ takeable 0x11 asking = true ∧ asking.frh.lineState ≠ .offline ∧ asking.dtu.duty = .asking ∧
      hasRole fault .well = true ∧ takeable 0x12 fault = true ∧ fault.frh.lineState ≠ .offline ∧ fault.dtu.duty = .fault ∧
      fault.dtu.runAck = false ∧
      hasRole tripped .well = true ∧ takeable 0x13 tripped = true ∧ tripped.frh.lineState ≠ .offline ∧
      (31 : Octet).toNat ≠ ownNumber tripped ∧ (31 : Octet).toNat < 32 ∧ inTripSet tripped (31 : Octet).toNat = true := by
  decide +kernel

theorem witness_RefusedCommandsChangeNothing :
    let c (s : State) := withPhase .command s
    takeable 0x14 (c well) = true ∧ takeable 0x00 (c well) = true ∧
      (c (station 0 .offline)).frh.lineState = .offline ∧ takeable 0x10 (c (station 0 .offline)) = true ∧
      (c (station 0 .listenOnly)).frh.lineState = .listenOnly ∧ takeable 0x10 (c (station 0 .listenOnly)) = true ∧
      (c exchange).frh.lineState ≠ .offline ∧ hasRole (c exchange) .well = false ∧ takeable 0x13 (c exchange) = true ∧
      (c well).frh.lineState ≠ .offline ∧ hasRole (c well) .well = true ∧ (c well).dtu.duty ≠ .on ∧
      (c (acked .resting false .stopped)).dtu.runAck = true ∧ takeable 0x11 (c (acked .resting false .stopped)) = true ∧
      (c (acked .fault false .stopped)).dtu.runAck = true ∧ takeable 0x12 (c (acked .fault false .stopped)) = true ∧
      31 < (32 : Octet).toNat ∧ (5 : Octet).toNat = ownNumber (c well) ∧ (31 : Octet).toNat < 32 ∧
      (31 : Octet).toNat ≠ ownNumber (c well) ∧ inTripSet (c well) (31 : Octet).toNat = false := by
  decide +kernel

theorem witness_RestartKeepsThePlant :
    let s := withPhase .command (inDuty .asking sharer)
    let o := withPhase .command (station 0 .offline)
    takeable 0x1F o = true ∧ o.frh.lineState = .offline ∧ takeable 0x1F s = true ∧ s.frh.lineState ≠ .offline ∧
      s.dtu.duty = .asking ∧ takeable 0x1F (withPhase .command well) = true ∧ hasRole (withPhase .command well) .well = true ∧
      (withPhase .command well).dtu.duty = .resting := by
  decide +kernel

end Sys2Proof.Tests
end

section
/-! SUPPORT. What a working station can do in one step, told once as a chain of elementary moves: `Aside` for all that no law of
R1 speaks of, and `Move` for each change that one of them does speak of. -/

namespace Sys2Proof.Machine

/-- What law 6 compares of a queue entry. -/
def entryKey (e : QueueEntry) : Nat × Option Nat := (e.source, e.subject)

/-- `t` differs from `s` only in what no law of R1 speaks of. Queue entries may change or go so long as no source and subject is
new, the recall timer may be set in RESTING, and in OFFLINE or while RESET is low the straps may be read again. -/
structure Aside (s t : State) : Prop where
  settings : t.settings = s.settings
  lineState : t.frh.lineState = s.frh.lineState
  outbox : t.frh.outbox = s.frh.outbox
  inFlight : t.frh.inFlight = s.frh.inFlight
  rows : t.pvw = s.pvw
  grants : t.rng.grants = s.rng.grants
  trip : t.srg.trip = s.srg.trip
  queue : (t.evu.queue.map entryKey).Sublist (s.evu.queue.map entryKey)
  derateTotal : t.dtu.derateTotal = s.dtu.derateTotal
  target : t.dtu.target = s.dtu.target
  setpoint : t.dtu.setpoint = s.dtu.setpoint
  tripSet : t.dtu.tripSet = s.dtu.tripSet
  pendingTrip : t.dtu.pendingTrip = s.dtu.pendingTrip
  duty : t.dtu.duty = s.dtu.duty
  runReq : t.dtu.runReq = s.dtu.runReq
  startTimer : t.dtu.startTimer = s.dtu.startTimer
  warmTimer : t.dtu.warmTimer = s.dtu.warmTimer
  stopTimer : t.dtu.stopTimer = s.dtu.stopTimer
  recallTimer : t.dtu.recallTimer = s.dtu.recallTimer ∨ t.dtu.recallTimer = .stopped ∨ s.dtu.duty = .resting
  resetLow : t.pins.resetLow = true → s.pins.resetLow = true
  straps : s.frh.lineState = .offline ∨ s.pins.resetLow = true ∨
    (t.stl.station = s.stl.station ∧ t.stl.roleCode = s.stl.roleCode)

theorem Aside.refl (s : State) : Aside s s := by
  constructor <;> simp

theorem Aside.ite {s t u : State} {c : Prop} [Decidable c] (ht : c → Aside s t) (hu : ¬ c → Aside s u) :
    Aside s (if c then t else u) := by
  split
  · exact ht ‹_›
  · exact hu ‹_›

theorem Aside.trans {s t u : State} (h : Aside s t) (k : Aside t u) : Aside s u where
  settings := k.settings.trans h.settings
  lineState := k.lineState.trans h.lineState
  outbox := k.outbox.trans h.outbox
  inFlight := k.inFlight.trans h.inFlight
  rows := k.rows.trans h.rows
  grants := k.grants.trans h.grants
  trip := k.trip.trans h.trip
  queue := k.queue.trans h.queue
  derateTotal := k.derateTotal.trans h.derateTotal
  target := k.target.trans h.target
  setpoint := k.setpoint.trans h.setpoint
  tripSet := k.tripSet.trans h.tripSet
  pendingTrip := k.pendingTrip.trans h.pendingTrip
  duty := k.duty.trans h.duty
  runReq := k.runReq.trans h.runReq
  startTimer := k.startTimer.trans h.startTimer
  warmTimer := k.warmTimer.trans h.warmTimer
  stopTimer := k.stopTimer.trans h.stopTimer
  recallTimer := by
    have hr := h.recallTimer
    rw [← h.duty] at hr ⊢
    rcases k.recallTimer with e | e
    · rwa [e]
    · exact .inr e
  resetLow := fun e => h.resetLow (k.resetLow e)
  straps := by
    have hs := k.straps
    rw [h.lineState] at hs
    rcases h.straps with e | e | ⟨e₁, e₂⟩
    · exact .inl e
    · exact .inr (.inl e)
    · rw [e₁, e₂] at hs
      exact hs.imp_right (Or.imp_left h.resetLow)

/-! ### The operations that no law speaks of -/

theorem select_aside (s : State) : Aside s (select s) := by constructor <;> simp

theorem sendWord_aside (s : State) : Aside s (sendWord s) := by constructor <;> simp

theorem setRecallTimer_aside (x : Timer) (s : State) (h : s.dtu.duty = .resting) : Aside s (setRecallTimer x s) := by
  constructor <;> simp [h]

theorem testRecall_aside (s : State) : Aside s (testRecall s) :=
  .ite (fun h => setRecallTimer_aside _ s (by simp_all)) fun _ => .refl s

theorem setAsk_aside (a : AskRecord) (s : State) : Aside s (setAsk a s) := by constructor <;> simp

theorem setHoldOff_aside (x : Timer) (s : State) : Aside s (setHoldOff x s) := by constructor <;> simp

theorem tellNegotiator_aside (new old : Duty) (s : State) : Aside s (tellNegotiator new old s) := by
  constructor <;> simp

theorem setTx_aside (x : TxSide) (s : State) : Aside s (setTx x s) := by constructor <;> simp

theorem setNotice_aside (n : Option Nat) (s : State) : Aside s (setNotice n s) := by constructor <;> simp

theorem rxHunt_aside (s : State) : Aside s (rxHunt s) := by constructor <;> simp

theorem advanceRefreshCount_aside (s : State) : Aside s (advanceRefreshCount s) := by constructor <;> simp

theorem setLatch_aside (n : Nat) (l : Latch) (s : State) : Aside s (setLatch n l s) := by constructor <;> simp

theorem setQuantity_aside (n : Nat) (e : Quantity) (s : State) : Aside s (setQuantity n e s) := by constructor <;> simp

theorem setWindow_aside (n : Nat) (w : WindowState) (s : State) : Aside s (setWindow n w s) := by constructor <;> simp

theorem scanMargins_aside (s : State) : Aside s (scanMargins s) := by constructor <;> simp

theorem setXcp_aside (x : Xcp) (s : State) : Aside s (setXcp x s) := by constructor <;> simp

theorem setSrg_aside (r : Srg) (s : State) (h : r.trip = s.srg.trip) : Aside s (setSrg r s) := by
  constructor <;> simp [h]

theorem writeTurbineQuantities_aside (p : Quantity) (s : State) : Aside s (writeTurbineQuantities p s) := by
  constructor <;> simp

theorem writeExchangeQuantities_aside (m : Bool) (i : ExchangeInputs) (s : State) :
    Aside s (writeExchangeQuantities m i s) := by
  constructor <;> simp

theorem mixSilica_aside (s : State) : Aside s (mixSilica s) := by constructor <;> simp

theorem stageQuantities_aside (v : Validity) (d t : Nat) (s : State) : Aside s (stageQuantities v d t s) := by
  constructor <;> simp

theorem setRunAck_aside (b : Bool) (s : State) : Aside s (setRunAck b s) := by constructor <;> simp

theorem wordEnds_aside (s : State) : Aside s (wordEnds s) := by constructor <;> simp

theorem setPnp_aside (p : Pnp) (s : State) : Aside s (setPnp p s) := by constructor <;> simp

theorem answer_aside (n : Nat) (r : Result) (c : List Octet) (s : State) : Aside s (answer n r c s) := setPnp_aside _ s

theorem setLineLevel_aside (d : Bool) (s : State) : Aside s (setLineLevel d s) := by constructor <;> simp [setLineLevel]

theorem setPcs_aside (d : Bool) (s : State) : Aside s (setPcs d s) := by constructor <;> simp [setPcs]

theorem setChannel_aside (n : Nat) (c : Channel) (s : State) : Aside s (setChannel n c s) := by constructor <;> simp

theorem lineMoves_aside (d : Bool) (n : Nat) (s : State) : Aside s (lineMoves d n s) := by
  constructor <;> simp [lineMoves]

theorem sampleWord_aside (c lo hi x : Octet) (s : State) : Aside s (sampleWord c lo hi x s) :=
  .ite (fun _ => by constructor <;> simp) fun _ => .ite (fun _ => by constructor <;> simp) fun _ => setLatch_aside _ _ s

theorem setGathered_aside (g : List Octet) (s : State) : Aside s (setGathered g s) := by constructor <;> simp

theorem gatherOctet_aside (o : Octet) (s : State) : Aside s (gatherOctet o s) := by
  have busy : Aside s { s with msu := { s.msu with idleReached := false } } := by constructor <;> simp
  unfold gatherOctet
  dsimp only
  split
  · exact (busy.trans (setGathered_aside [] _)).trans (sampleWord_aside _ _ _ o _)
  · exact busy.trans (setGathered_aside _ _)

theorem framingFaults_aside (s : State) : Aside s (framingFaults s) := by
  constructor <;> simp [framingFaults]

theorem idleEnds_aside (s : State) : Aside s (idleEnds s) := by
  have idle : Aside s { s with msu := { s.msu with idleReached := true } } := by constructor <;> simp
  exact .ite (fun _ => idle) fun _ => idle.trans (by constructor <;> simp)

theorem beginWait_straps (l : Loader) : (beginWait l).station = l.station ∧ (beginWait l).roleCode = l.roleCode := by
  obtain ⟨_, _, h⟩ | ⟨_, h⟩ := beginWait_cases l <;> simp [h]

/-- The bus of the configuration memory does not touch the straps read. -/
theorem busAdvance_straps (l : Loader) :
    (busAdvance l).station = l.station ∧ (busAdvance l).roleCode = l.roleCode := by
  obtain ⟨_, h⟩ | ⟨_, rest, _, ⟨_, h⟩ | ⟨_, h⟩⟩ := busAdvance_cases l <;> simp [h, beginWait_straps]

/-- No half-cell moves RESET. -/
theorem lineAdvance_resetLow (s : State) : (lineAdvance s).pins.resetLow = s.pins.resetLow := by
  obtain ⟨_, h⟩ | ⟨_, h⟩ := lineAdvance_cases s <;> simp [h, halfCellEnds]

theorem idle_aside (s : State) : Aside s (idle s) := by
  obtain ⟨hpins, -, -, hstl⟩ := idle_parts s
  constructor <;> simp [hpins, hstl, lineAdvance_resetLow, busAdvance_straps]

end Sys2Proof.Machine
end

section
namespace Sys2Proof.Machine

/-! ### The moves -/

/-- Where the duty machine may go from here (R102 to R117); STOPPING is in reach under `stops` alone (R111). -/
def DutyAllowed (stops : Prop) (s : State) : Duty → Prop
  | .resting => True
  | .starting => True
  | .fault => True
  | .on => s.dtu.warmTimer ≠ .stopped ∨ s.dtu.duty = .asking ∨ s.dtu.duty = .refused
  | .asking => s.dtu.duty = .on
  | .refused => s.dtu.duty = .asking
  | .stopping => s.dtu.duty = .asking ∧ stops

/-- What the acknowledge sets (R106). -/
def acknowledged (s : State) : State :=
  { s with dtu :=
    { s.dtu with startTimer := .stopped, target := s.settings.fMin, setpoint := s.settings.fMin
                 warmTimer := .running (1000 * s.settings.warmUp) } }

/-- The outbox with a failed frame back in its slot (R33, R35). -/
def settledOutbox (f : InFlight) (o : Outbox) : Outbox :=
  match f.entry.payload.kind with
  | .trip => { o with trip := settledSlot o.trip f }
  | .clear => { o with clear := settledSlot o.clear f }
  | .restReply => { o with replies := (settledReplies o.replies f).1 }
  | .restAsk => { o with restAsk := settledSlot o.restAsk f }
  | .demand => { o with demand := settledSlot o.demand f }
  | .stateReport => { o with stateReport := settledSlot o.stateReport f }

/-- The outbox without what has reached the attempt limit in the slot of a kind (R36). -/
def withinLimit (k : FrameKind) (o : Outbox) : Outbox :=
  match k with
  | .trip => o
  | .clear => o
  | .restReply => { o with replies := o.replies.eraseP atLimit }
  | .restAsk => { o with restAsk := o.restAsk.filter (!atLimit ·) }
  | .demand => { o with demand := o.demand.filter (!atLimit ·) }
  | .stateReport => { o with stateReport := o.stateReport.filter (!atLimit ·) }

/-- One elementary move of a station outside OFFLINE. `stops` opens the way to STOPPING, `trips` lets the trip state of a TURBINE
station change; every other condition is read off the state the move starts from. -/
inductive Move (stops trips : Prop) : State → State → Prop
  | aside {s t : State} (h : Aside s t) : Move stops trips s t
  | offer (f : Firing) (s : State) : Move stops trips s (offer f s)
  | scanNotice (s : State) : Move stops trips s (scanNotice s)
  | enterTripFrame (c : TripCause) (s : State) : Move stops trips s (enterTripFrame c s)
  | enterClearFrame (s : State) : Move stops trips s (enterClearFrame s)
  | enterDemandFrame (d c : Nat) (s : State) : Move stops trips s (enterDemandFrame d c s)
  | enterStateFrame (s : State) : Move stops trips s (enterStateFrame s)
  | placeAsk (c : Nat) (s : State) :
      Move stops trips s
        (setOutbox { s.frh.outbox with restAsk := some (replacing s.frh.outbox.restAsk (.restAsk c)) } s)
  | placeReply (a : Nat) (q : Octet) (v : Verdict) (s : State) :
      Move stops trips s
        (setOutbox { s.frh.outbox with replies := (joinReplies s.frh.outbox.replies a (.restReply a q v)).1 } s)
  | beginAttempt (s : State) : Move stops trips s (beginAttempt s)
  | endAttempt (s : State) : Move stops trips s (endAttempt s)
  | settle (f : InFlight) (s : State) (h : s.frh.inFlight = some f) :
      Move stops trips s
        (setOutbox (withinLimit f.entry.payload.kind (settledOutbox f s.frh.outbox)) (endAttempt s))
  | dropReply (s : State) :
      Move stops trips s (setOutbox { s.frh.outbox with replies := s.frh.outbox.replies.eraseP atLimit } s)
  | empty (l : LineState) (x : Timer) (s : State) (h : l ≠ .offline) : Move stops trips s (emptied l x s)
  | activate (s : State) :
      Move stops trips s { s with frh := { s.frh with lineState := .active, joinTimer := .stopped } }
  | enterDuty (new : Duty) (s : State) (h : DutyAllowed stops s new) : Move stops trips s (enterDuty new s)
  | acknowledge (s : State) (hd : s.dtu.duty = .starting) (hr : s.dtu.runReq = true) :
      Move stops trips s (acknowledged s)
  | raiseRunReq (s : State) (hd : s.dtu.duty = .starting) : Move stops trips s (setRunReq true s)
  | stageTarget (s : State) : Move stops trips s (stageTarget s)
  | stageRamp (s : State) : Move stops trips s (stageRamp s)
  | stopRampEnds (s : State) (hd : s.dtu.duty = .stopping) : Move stops trips s (stopRampEnds s)
  | announceTrip (n c : Nat) (s : State) (hr : (rowOf s n).role = some .turbine) (hw : hasRole s .well = true) :
      Move stops trips s (announceTrip n c s)
  | earlyNotice (n : Nat) (s : State) : Move stops trips s (earlyNotice n s)
  | endTrip (n : Nat) (s : State) : Move stops trips s (setTripEntry n none s)
  | endPending (s : State) : Move stops trips s (setPendingTrip none s)
  | shrinkGrants (g : List Grant) (s : State) (h : g.Sublist s.rng.grants) : Move stops trips s (setGrants g s)
  | addGrant (a : Nat) (s : State) (hroom : s.rng.grants.length < 4) (hown : a ≠ ownNumber s)
      (hnew : ∀ g ∈ s.rng.grants, g.asker ≠ a) :
      Move stops trips s (setGrants (s.rng.grants ++ [newGrant s a]) s)
  | setRow (n : Nat) (r : PeerRow) (s : State) (h : ∀ role, (rowOf s n).role = some role → r.role = some role) :
      Move stops trips s (setRow n r s)
  | clearView (s : State) : Move stops trips s (clearView s)
  | setTrip (r : Srg) (s : State) (h : trips) : Move stops trips s (setSrg r s)

/-- A chain of moves. -/
def Moves (stops trips : Prop) : State → State → Prop := Relation.ReflTransGen (Move stops trips)

variable {p q : Prop} {s t u : State}

theorem Moves.refl (p q : Prop) (s : State) : Moves p q s s := Relation.ReflTransGen.refl

theorem Moves.move (m : Moves p q s t) (h : Move p q t u) : Moves p q s u := Relation.ReflTransGen.tail m h

theorem Moves.trans (m : Moves p q s t) (h : Moves p q t u) : Moves p q s u := Relation.ReflTransGen.trans m h

theorem Moves.aside (m : Moves p q s t) (h : Aside t u) : Moves p q s u := m.move (.aside h)

/-- A chain goes on into either branch of a test. -/
theorem Moves.ite {c : Prop} [Decidable c] (ht : c → Moves p q s t) (hu : ¬ c → Moves p q s u) :
    Moves p q s (if c then t else u) := by
  split
  · exact ht ‹_›
  · exact hu ‹_›

/-- What every move keeps, every chain keeps. -/
theorem Moves.keeps {P : State → Prop} (m : Moves p q s t) (hP : ∀ a b, Move p q a b → P a → P b) (h : P s) : P t := by
  induction m with
  | refl => exact h
  | tail _ hab ih => exact hP _ _ hab ih

/-! ### The duty unit -/

theorem Moves.offer (f : Firing) (m : Moves p q s t) : Moves p q s (offer f t) := m.move (.offer f t)

theorem Moves.offerAll (fs : List Firing) (m : Moves p q s t) : Moves p q s (offerAll fs t) := by
  unfold Machine.offerAll
  induction fs generalizing t with
  | nil => exact m
  | cons f fs ih => exact ih (m.offer f)

theorem Moves.takeDuty {new : Duty} (cause : List Firing) (m : Moves p q s t) (h : DutyAllowed p t new) :
    Moves p q s (takeDuty new cause t) := by
  have published := ((m.move (.enterDuty new t h)).offerAll (dutyChange new t.dtu.duty :: cause)).move (.enterStateFrame _)
  exact ((Moves.ite (fun _ => published.aside (sendWord_aside _)) fun _ => published).aside
    (tellNegotiator_aside new t.dtu.duty _)).aside (testRecall_aside _)

theorem Moves.driveLoss (m : Moves p q s t) : Moves p q s (driveLoss t) := m.takeDuty _ trivial

theorem Moves.warmUpEnds (m : Moves p q s t) (h : t.dtu.warmTimer ≠ .stopped) : Moves p q s (warmUpEnds t) :=
  m.takeDuty _ (.inl h)

theorem Moves.acknowledge (m : Moves p q s t) (hd : t.dtu.duty = .starting) (hr : t.dtu.runReq = true) :
    Moves p q s (acknowledge t) := by
  have started := (m.move (.acknowledge t hd hr)).aside (sendWord_aside _)
  exact Moves.ite (fun _ => started.warmUpEnds (by simp [acknowledged])) fun _ => started

theorem Moves.removeTrip (n d : Nat) (m : Moves p q s t) : Moves p q s (removeTrip n d t) :=
  .ite (fun _ => ((m.move (.endTrip n t)).offer (fire 27 n d)).aside (testRecall_aside _)) fun _ => m

theorem Moves.withdrawTrip (n d : Nat) (m : Moves p q s t) : Moves p q s (withdrawTrip n d t) :=
  .ite (fun _ => ((m.move (.endPending t)).offer (fire 26 n d)).aside (testRecall_aside _)) fun _ => m

theorem Moves.completeTrip (n : Nat) (m : Moves p q s t) : Moves p q s (completeTrip n t) :=
  .ite (fun _ => (m.move (.endPending t)).aside (testRecall_aside _)) fun _ => m

/-! ### The rest negotiator -/

theorem Moves.reportRefusal (m : Moves p q s t) : Moves p q s (reportRefusal t) :=
  .ite (fun h => m.takeDuty [] h) fun _ => m

theorem Moves.reportAgreement (hp : p) (m : Moves p q s t) : Moves p q s (reportAgreement t) :=
  .ite (fun h => m.takeDuty [] ⟨h, hp⟩) fun _ => m

theorem Moves.refuseAsk (n : Option Nat) (d : Nat) (m : Moves p q s t) : Moves p q s (refuseAsk n d t) :=
  ((m.aside (setAsk_aside .idle t)).offer _).reportRefusal

theorem Moves.agreeAsk (hp : p) (n : Nat) (m : Moves p q s t) : Moves p q s (agreeAsk n t) :=
  ((m.aside (setAsk_aside .idle t)).offer _).reportAgreement hp

theorem Moves.dropAsk (m : Moves p q s t) : Moves p q s (dropAsk t) :=
  (m.aside (setAsk_aside .idle t)).reportRefusal.offer _

theorem Moves.reportDropped (x : Option Octet) (m : Moves p q s t) : Moves p q s (reportDropped x t) := by
  unfold Machine.reportDropped
  split
  · exact .ite (fun _ => m.dropAsk) fun _ => m
  · exact .ite (fun _ => m.dropAsk) fun _ => m
  · exact m

theorem Moves.enterAskFrame (m : Moves p q s t) : Moves p q s (enterAskFrame t) :=
  .ite (fun _ => (m.move (.placeAsk (cOwn t) t)).aside (select_aside _)) fun _ => m.reportDropped none

theorem Moves.enterAsking (m : Moves p q s t) (h : t.dtu.duty = .on) : Moves p q s (enterAsking t) :=
  ((m.takeDuty (new := .asking) [] h).aside (setAsk_aside .waiting _)).enterAskFrame

theorem Moves.testRoll (hp : p) (m : Moves p q s t) : Moves p q s (testRoll t) := by
  unfold Machine.testRoll
  split
  · split
    · exact m.refuseAsk _ _
    · exact .ite (fun _ => m.agreeAsk hp _) fun _ => m
  · exact m

theorem Moves.ownEvaluation (hp : p) (m : Moves p q s t) : Moves p q s (ownEvaluation t) :=
  .ite (fun _ => m.agreeAsk hp 0) fun _ => m.refuseAsk none 5

theorem Moves.decideRoll (hp : p) (m : Moves p q s t) : Moves p q s (decideRoll t) := by
  unfold Machine.decideRoll
  split
  · exact .ite (fun _ => m.ownEvaluation hp) fun _ => m.testRoll hp
  · exact m

theorem Moves.reportSent (hp : p) (x : Octet) (m : Moves p q s t) : Moves p q s (reportSent x t) := by
  unfold Machine.reportSent
  split
  · exact .ite (fun _ => (m.aside (setAsk_aside _ t)).decideRoll hp) fun _ => m
  · exact m

theorem Moves.takeReply (hp : p) (n a : Nat) (x : Octet) (v : Option Verdict) (m : Moves p q s t) :
    Moves p q s (takeReply n a x v t) := by
  unfold Machine.takeReply
  split
  · exact m
  · refine .ite (fun _ => ?_) fun _ => m
    split
    · exact .ite (fun _ => m.aside (setAsk_aside _ t)) fun _ => m
    · exact .ite (fun _ => (m.aside (setAsk_aside _ t)).testRoll hp) fun _ => m
    · exact m

theorem Moves.strikeOff (hp : p) (n : Nat) (m : Moves p q s t) : Moves p q s (strikeOff n t) := by
  unfold Machine.strikeOff
  split
  · exact .ite (fun _ => (m.aside (setAsk_aside _ t)).decideRoll hp) fun _ => m
  · exact m

theorem Moves.removeGrant (n : Nat) (m : Moves p q s t) : Moves p q s (removeGrant n t) :=
  m.move (.shrinkGrants _ t List.filter_sublist)

theorem Moves.enterReplyFrame (a : Nat) (x : Octet) (v : Verdict) (m : Moves p q s t) :
    Moves p q s (enterReplyFrame a x v t) :=
  .ite (fun _ => ((m.move (.placeReply a x v t)).offerAll _).aside (select_aside _)) fun _ => m

/-- With the asker's old grant gone, an AGREE finds room and no grant of the asker (R132, R133). -/
theorem Moves.takeAsk (n : Nat) (x : Octet) (m : Moves p q s t) (hown : n ≠ ownNumber t) :
    Moves p q s (takeAsk n x t) := by
  have removed := m.removeGrant n
  refine .ite (fun _ => Moves.enterReplyFrame n x _ ?_) fun _ => removed
  refine .ite (fun hv => removed.move (.addGrant n _ ?_ hown ?_)) fun _ => removed
  · by_contra hfull
    simp [verdictFor, not_lt.mp hfull] at hv
  · simp [Machine.removeGrant]

theorem Moves.stateNotice (n : Nat) (d : Option Duty) (m : Moves p q s t) : Moves p q s (stateNotice n d t) :=
  .ite (fun _ => m) fun _ => m.removeGrant n

theorem Moves.conditionNotice (hp : p) (n : Nat) (c : Condition) (m : Moves p q s t) :
    Moves p q s (conditionNotice n c t) :=
  Moves.strikeOff hp n (.ite (fun _ => m.removeGrant n) fun _ => m)

theorem Moves.endHoldOff (m : Moves p q s t) : Moves p q s (endHoldOff t) := by
  have stopped := m.aside (setHoldOff_aside .stopped t)
  exact .ite (fun h => stopped.takeDuty [] (.inr (.inr h))) fun _ => stopped

theorem Moves.risenToOn (m : Moves p q s t) : Moves p q s (risenToOn t) := .ite (fun _ => m.endHoldOff) fun _ => m

theorem Moves.replyWindowEnds (m : Moves p q s t) : Moves p q s (replyWindowEnds t) := by
  unfold Machine.replyWindowEnds
  split
  · split
    · exact m.refuseAsk _ _
    · exact m
  · exact m

/-! ### The peer view -/

theorem Moves.viewChanged (m : Moves p q s t) : Moves p q s (viewChanged t) := m.aside (testRecall_aside t)

/-- The view-change notice goes to a WELL station alone. -/
theorem Moves.noticeView (m : Moves p q s t) : Moves p q s (if hasRole t .well then Machine.viewChanged t else t) :=
  .ite (fun _ => m.viewChanged) fun _ => m

theorem Moves.conditionMoved (hp : p) (n : Nat) (c : Condition) (m : Moves p q s t) :
    Moves p q s (conditionMoved n c t) :=
  .ite (fun _ => (m.conditionNotice hp n c).viewChanged) fun _ => m

theorem Moves.refreshRow (n : Nat) (r : Role) (k : FrameKind) (m : Moves p q s t) :
    Moves p q s (refreshRow n r k t) := by
  have set := m.move (.setRow n (refreshed (rowOf t n) r) t (by simp +contextual [refreshed]))
  exact .ite (fun _ => set.offer _) fun _ => set

theorem Moves.acceptSeq (n : Nat) (x : Octet) (m : Moves p q s t) : Moves p q s (acceptSeq n x t) :=
  m.move (.setRow n _ t fun _ h => h)

theorem Moves.acceptState (n : Nat) (o : List Octet) (m : Moves p q s t) : Moves p q s (acceptState n o t) := by
  have written := (m.move (.setRow n { rowOf t n with well := some (wellPartOf o) } t fun _ h => h)).offerAll
    (statePayloadFirings o)
  refine .ite (fun _ => ?_) fun _ => written
  have noticed := (written.stateNotice n (wellPartOf o).duty).viewChanged
  exact .ite (fun _ => noticed.risenToOn) fun _ => noticed

theorem Moves.acceptDemand (n : Nat) (o : List Octet) (m : Moves p q s t) : Moves p q s (acceptDemand n o t) :=
  Moves.noticeView (m.move (.setRow n _ t fun _ h => h))

theorem Moves.acceptAsk (n : Nat) (o : List Octet) (m : Moves p q s t) : Moves p q s (acceptAsk n o t) :=
  Moves.noticeView (m.move (.setRow n _ t fun _ h => h))

theorem Moves.acceptPayload (k : FrameKind) (n : Nat) (o : List Octet) (m : Moves p q s t) :
    Moves p q s (acceptPayload k n o t) := by
  cases k with
  | stateReport => exact m.acceptState n o
  | demand => exact m.acceptDemand n o
  | restAsk => exact m.acceptAsk n o
  | restReply => exact m.noticeView
  | trip => exact m.noticeView
  | clear => exact m.noticeView

theorem Moves.ageRow (hp : p) (n : Nat) (m : Moves p q s t) : Moves p q s (ageRow t n) := by
  have older := m.move (.setRow n (olderRow (rowOf t n)) t fun _ h => h)
  have stale := m.move (.setRow n (olderRow { rowOf t n with condition := .stale }) t fun _ h => h)
  have lost := m.move (.setRow n (lostRow (rowOf t n)) t fun _ h => h)
  unfold Machine.ageRow
  dsimp only
  split
  · exact .ite (fun _ => (stale.offer _).conditionMoved hp n _) fun _ => older
  · exact .ite (fun _ => (lost.offerAll _).conditionMoved hp n _) fun _ => older
  · exact m

theorem Moves.ageView (hp : p) (m : Moves p q s t) : Moves p q s (ageView t) := by
  unfold Machine.ageView
  induction List.range 32 generalizing t with
  | nil => exact m
  | cons n ns ih => exact ih (m.ageRow hp n)

theorem Moves.publishDemand (m : Moves p q s t) : Moves p q s (publishDemand t) := m.move (.enterDemandFrame _ _ t)

theorem Moves.periodicEntry (m : Moves p q s t) : Moves p q s (periodicEntry t) := by
  unfold Machine.periodicEntry
  split
  · exact m.move (.enterStateFrame t)
  · exact m.publishDemand
  · exact m

/-! ### The sending side -/

theorem Moves.reportDroppedAll (xs : List (Option Octet)) (m : Moves p q s t) :
    Moves p q s (xs.foldl (fun a x => Machine.reportDropped x a) t) := by
  induction xs generalizing t with
  | nil => exact m
  | cons x xs ih => exact ih (m.reportDropped x)

/-- What an entry to JOINING or LISTEN_ONLY does once the outbox is empty: the reports of dropped asks, and the recall test. -/
theorem leaveActive_moves (l : LineState) (x : Timer) (s : State) : Moves p q (emptied l x s) (leaveActive l x s) :=
  ((Moves.refl p q _).reportDroppedAll _).aside (testRecall_aside _)

theorem Moves.leaveActive (l : LineState) (x : Timer) (hl : l ≠ .offline) (m : Moves p q s t) :
    Moves p q s (leaveActive l x t) :=
  (m.move (.empty l x t hl)).trans (leaveActive_moves l x t)

theorem Moves.enterJoining (m : Moves p q s t) : Moves p q s (enterJoining t) := m.leaveActive _ _ (by decide)

theorem Moves.enterListenOnly (m : Moves p q s t) : Moves p q s (enterListenOnly t) := m.leaveActive _ _ (by decide)

theorem Moves.enterActive (m : Moves p q s t) : Moves p q s (enterActive t) :=
  ((m.move (.activate t)).aside (select_aside _)).aside (testRecall_aside _)

theorem Moves.settleSent (hp : p) (f : InFlight) (m : Moves p q s t) : Moves p q s (settleSent f t) := by
  have ended := m.move (.endAttempt t)
  refine Moves.aside ?_ (select_aside _)
  split
  · exact ended.reportSent hp _
  · exact ended

/-- The firings of the settlement: SEND_DROPPED for a reply that finds its slot full (R33). -/
def settleFirings (f : InFlight) (o : Outbox) : List Firing :=
  match f.entry.payload.kind with
  | .restReply => (settledReplies o.replies f).2.toList.map replyDropped
  | _ => []

theorem settleSlots_eq (f : InFlight) (s : State) :
    settleSlots f s = offerAll (settleFirings f s.frh.outbox) (setOutbox (settledOutbox f s.frh.outbox) s) := by
  unfold settleSlots settleFirings settledOutbox
  cases f.entry.payload.kind <;> rfl

/-- A failed reply gives its count to a newer one, returns as the oldest, or is discarded by a full slot (R33, R35). -/
theorem settledReplies_cases (es : List Entry) (f : InFlight) :
    (settledReplies es f = (es.map fun e =>
        if addresseeOf e == addresseeOf f.entry then { e with count := (failedEntry f.entry).count } else e, none)) ∨
      ((∀ e ∈ es, addresseeOf e ≠ addresseeOf f.entry) ∧ es.length < 4 ∧
        settledReplies es f = (failedEntry f.entry :: es, none)) ∨
      settledReplies es f = (es, some (failedEntry f.entry)) := by
  unfold settledReplies
  split
  · exact .inl rfl
  · split
    · exact .inr (.inl ⟨by simp_all, ‹_›, rfl⟩)
    · exact .inr (.inr rfl)

/-- A reply that finds its slot full leaves the outbox as it stands. -/
theorem settledOutbox_of_full (f : InFlight) (o : Outbox) (h : settleFirings f o ≠ []) :
    f.entry.payload.kind = .restReply ∧ settledOutbox f o = o := by
  unfold settleFirings at h
  split at h
  · rename_i hk
    refine ⟨hk, ?_⟩
    obtain e | ⟨-, -, e⟩ | e := settledReplies_cases o.replies f
    · simp [e] at h
    · simp [e] at h
    · simp [settledOutbox, hk, e]
  · exact absurd rfl h

/-- A slot whose entries all lie below the limit stays as it is. -/
theorem withinLimit_of_below {k : FrameKind} {o : Outbox} (h : ∀ e ∈ slotEntries k o, atLimit e = false) :
    withinLimit k o = o := by
  obtain ⟨_, _, replies, restAsk, demand, stateReport⟩ := o
  cases k with
  | trip => rfl
  | clear => rfl
  | restReply => simpa [withinLimit] using List.eraseP_of_forall_not (by simpa [slotEntries] using h)
  | restAsk => cases restAsk <;> simp_all [withinLimit, slotEntries]
  | demand => cases demand <;> simp_all [withinLimit, slotEntries]
  | stateReport => cases stateReport <;> simp_all [withinLimit, slotEntries]

/-- The attempt-limit check brings the slot within the limit, and offers SEND_DROPPED for what it removes (R36, R37). -/
theorem limitCheck_cases (k : FrameKind) (x : FailPoint) (s : State) :
    let u := setOutbox (withinLimit k s.frh.outbox) s
    let dropped := fire 2 k.code (failPointCode x)
    limitCheck k x s = u ∨ limitCheck k x s = offer dropped u ∨ ∃ y, limitCheck k x s = reportDropped y (offer dropped u) := by
  cases hb : (slotEntries k s.frh.outbox).any atLimit with
  | false =>
    refine .inl ?_
    rw [withinLimit_of_below (by simpa using hb)]
    unfold limitCheck
    cases k with
    | trip => rfl
    | clear => rfl
    | restReply => exact if_neg (by simpa [slotEntries] using hb)
    | restAsk => cases h : s.frh.outbox.restAsk <;> simp_all [slotEntries] <;> rfl
    | demand => cases h : s.frh.outbox.demand <;> simp_all [slotEntries] <;> rfl
    | stateReport => cases h : s.frh.outbox.stateReport <;> simp_all [slotEntries] <;> rfl
  | true =>
    unfold limitCheck withinLimit
    cases k with
    | trip => exact .inl rfl
    | clear => exact .inl rfl
    | restReply => exact .inr (.inl (if_pos hb))
    | restAsk =>
      cases h : s.frh.outbox.restAsk with
      | none => simp [slotEntries, h] at hb
      | some e => exact .inr (.inr ⟨e.seq, by simp_all [slotEntries, Option.filter_some]⟩)
    | demand =>
      cases h : s.frh.outbox.demand with
      | none => simp [slotEntries, h] at hb
      | some e => exact .inr (.inl (by simp_all [slotEntries, Option.filter_some]))
    | stateReport =>
      cases h : s.frh.outbox.stateReport with
      | none => simp [slotEntries, h] at hb
      | some e => exact .inr (.inl (by simp_all [slotEntries, Option.filter_some]))

theorem Moves.limitCheck (k : FrameKind) (x : FailPoint)
    (m : Moves p q s (setOutbox (withinLimit k t.frh.outbox) t)) : Moves p q s (limitCheck k x t) := by
  obtain h | h | ⟨y, h⟩ := limitCheck_cases k x t <;> rw [h]
  · exact m
  · exact m.offer _
  · exact (m.offer _).reportDropped y

theorem Moves.settleFailed (f : InFlight) (x : FailPoint) (m : Moves p q s t) (hf : t.frh.inFlight = some f) :
    Moves p q s (settleFailed f x t) := by
  refine Moves.aside (Moves.limitCheck _ x ?_) (select_aside _)
  rw [settleSlots_eq]
  by_cases hfull : settleFirings f (endAttempt t).frh.outbox = []
  · rw [hfull]
    exact m.move (.settle f t hf)
  · obtain ⟨hk, ho⟩ := settledOutbox_of_full f _ hfull
    rw [hk, ho]
    exact ((m.move (.endAttempt t)).offerAll _).move (.dropReply _)

/-! ### The receiving side -/

theorem Moves.headerArrives (h0 h1 h2 : Octet) (m : Moves p q s t) : Moves p q s (headerArrives h0 h1 h2 t) := by
  have kept := m.aside (u := { t with lif := { t.lif with rxHeader := some (h0, h1, h2), report := none } })
    (by constructor <;> simp)
  exact .ite (fun _ => (kept.aside (setNotice_aside _ _)).move (.earlyNotice _ _)) fun _ => kept

theorem Moves.closeNotice (d : Nat) (m : Moves p q s t) : Moves p q s (closeNotice d t) := by
  unfold Machine.closeNotice
  split
  · exact (m.aside (setNotice_aside none t)).withdrawTrip _ d
  · exact m

theorem Moves.malformed (r : Nat) (m : Moves p q s t) : Moves p q s (malformed r t) := (m.offer _).closeNotice 2

theorem Moves.stationClash (k : FrameKind) (m : Moves p q s t) : Moves p q s (stationClash k t) := by
  have clashed := m.offer (fire 3 (ownNumber t) k.code)
  exact .ite (fun _ => clashed.enterListenOnly) fun _ => clashed

theorem Moves.handDemand (n : Nat) (r : Role) (o : List Octet) (m : Moves p q s t)
    (hr : r = .turbine → (rowOf t n).role = some .turbine) (hw : hasRole t .well = true) :
    Moves p q s (handDemand n r o t) :=
  .ite (fun h => .ite (fun _ => m.removeTrip n 2) fun _ => m.move (.announceTrip n _ t (hr h) hw)) fun _ => m

/-- An accepted frame is handed on to a WELL station whose row of the sender holds the frame's role. -/
theorem Moves.handOn (k : FrameKind) (r : Role) (n : Nat) (x : Octet) (o : List Octet) (hp : k = .restReply → p)
    (m : Moves p q s t) (hs : k.sentBy r = true) (hr : (rowOf t n).role = some r) (hw : hasRole t .well = true)
    (hown : n ≠ ownNumber t) : Moves p q s (handOn k r n x o t) := by
  cases k with
  | stateReport => exact m
  | demand => exact m.handDemand n r o (fun h => h ▸ hr) hw
  | restAsk => exact m.takeAsk n x hown
  | restReply => exact m.takeReply (hp rfl) n _ _ _
  | trip =>
    have hturbine : r = .turbine := by cases r <;> simp [FrameKind.sentBy] at hs ⊢
    exact (m.move (.announceTrip n _ t (hturbine ▸ hr) hw)).completeTrip n
  | clear => exact m.removeTrip n 1

theorem Moves.closeCompleted (k : FrameKind) (n : Nat) (m : Moves p q s t) : Moves p q s (closeCompleted k n t) :=
  .ite (fun _ => m.aside (setNotice_aside none t)) fun _ => m.closeNotice 2

end Sys2Proof.Machine
end

section
namespace Sys2Proof.Machine

variable {p q : Prop} {s t u : State}

/-! ### A completed frame -/

/-- A view-change notice leaves the view as it stands. -/
theorem noticeView_pvw (s : State) : (if hasRole s .well then viewChanged s else s).pvw = s.pvw := by
  split <;> simp

/-- What a frame's payload writes into the view is the sender's row at most, and leaves that row's role as it is. -/
theorem acceptPayload_pvw (k : FrameKind) (n : Nat) (o : List Octet) (s : State) :
    (acceptPayload k n o s).pvw = s.pvw ∨
      ∃ r, r.role = (rowOf s n).role ∧ (acceptPayload k n o s).pvw = (setRow n r s).pvw := by
  cases k with
  | stateReport =>
    refine .inr ⟨{ rowOf s n with well := some (wellPartOf o) }, rfl, ?_⟩
    simp only [acceptPayload, acceptState]
    repeat' split
    all_goals simp
  | demand =>
    refine .inr ⟨_, ?_, noticeView_pvw (setRow n _ s)⟩
    rfl
  | restAsk =>
    refine .inr ⟨_, ?_, noticeView_pvw (setRow n _ s)⟩
    rfl
  | restReply => exact .inl (noticeView_pvw s)
  | trip => exact .inl (noticeView_pvw s)
  | clear => exact .inl (noticeView_pvw s)

theorem rowOf_congr {n : Nat} (h : s.pvw = t.pvw) : rowOf s n = rowOf t n := by simp [rowOf, h]

/-- The sender's row holds the frame's role once the frame has passed the role check and been written (R41, R42). -/
theorem acceptedFrame_role (k : FrameKind) (r : Role) {n : Nat} (x : Octet) (o : List Octet) (s : State) (hn : n < 32)
    (hr : roleAgrees (rowOf s n) r = true) :
    (rowOf (closeCompleted k n (acceptPayload k n o (acceptSeq n x (refreshRow n r k s)))) n).role = some r := by
  have hrefreshed : (rowOf (refreshRow n r k s) n).role = some r := by
    have hpvw : (refreshRow n r k s).pvw = (setRow n (refreshed (rowOf s n) r) s).pvw := by
      simp only [refreshRow]
      split <;> simp
    rw [rowOf_congr hpvw, rowOf_setRow _ _ _ _ hn]
    cases h : (rowOf s n).role <;> simp_all [refreshed, roleAgrees]
  have hseq : (rowOf (acceptSeq n x (refreshRow n r k s)) n).role = some r := by
    simp [acceptSeq, rowOf_setRow, hn, hrefreshed]
  rw [rowOf_congr (t := acceptPayload k n o (acceptSeq n x (refreshRow n r k s))) (by simp)]
  obtain h | ⟨r', hr', h⟩ := acceptPayload_pvw k n o (acceptSeq n x (refreshRow n r k s))
  · rw [rowOf_congr h, hseq]
  · rw [rowOf_congr h, rowOf_setRow _ _ _ _ hn, if_pos rfl, hr', hseq]

/-- Every sender's number names a row of the view. -/
theorem senderOf_lt (h0 : Octet) : senderOf h0 < 32 := Nat.mod_lt _ (by decide)

theorem Moves.validFrame (k : FrameKind) (r : Role) (n : Nat) (x : Octet) (o : List Octet) (hp : k = .restReply → p)
    (m : Moves p q s t) (hs : k.sentBy r = true) (hn : n < 32) (hown : n ≠ ownNumber t) :
    Moves p q s (validFrame k r n x o t) := by
  refine .ite (fun hr => ?_) fun _ => (m.offer _).closeNotice 2
  have refreshed := m.refreshRow n r k
  refine .ite (fun _ => refreshed.noticeView.closeNotice 1) fun _ => ?_
  have accepted := ((refreshed.acceptSeq n x).acceptPayload k n o).closeCompleted k n
  refine .ite (fun hw => ?_) fun _ => accepted
  exact accepted.handOn k r n x o hp hs (acceptedFrame_role k r x o t hn hr) hw (by simpa [ownNumber] using hown)

theorem Moves.wellFormedFrame (k : FrameKind) (r : Role) (b : List Octet) (e d : Bool) (hp : k = .restReply → p)
    (m : Moves p q s t) : Moves p q s (wellFormedFrame k r b e d t) := by
  refine .ite (fun _ => m.closeNotice 2) fun _ => .ite (fun _ => ?_) fun hown => .ite (fun hs => ?_) fun _ => ?_
  · exact .ite (fun _ => m.closeNotice 2) fun _ => (m.stationClash k).closeNotice 2
  · exact m.validFrame k r _ _ _ hp hs (senderOf_lt _) hown
  · exact (m.offer _).closeNotice 2

theorem Moves.frhFrame (b : List Octet) (e d : Bool) (hp : kindOfCode (kindCodeOf (b.getD 1 0)) = some .restReply → p)
    (m : Moves p q s t) : Moves p q s (frhFrame b e d t) := by
  unfold Machine.frhFrame
  split
  · exact m.malformed _
  · rename_i k _ _ hk
    exact m.wellFormedFrame k _ b e d fun h => hp (h ▸ hk)
  · exact m

theorem Moves.frameCompletes (o : List Octet) (e : Bool)
    (hp : kindOfCode (kindCodeOf ((o.take (o.length - 2)).getD 1 0)) = some .restReply → p) (m : Moves p q s t) :
    Moves p q s (frameCompletes o e t) :=
  (m.aside (rxHunt_aside t)).frhFrame _ e _ hp

/-! ### The scan -/

theorem Moves.scanChannel (n : Nat) (m : Moves p q s t) : Moves p q s (scanChannel t n) := by
  have emptied := m.aside (setLatch_aside n { latchOf t n with pending := none } t)
  exact .ite (fun _ => (emptied.aside (setQuantity_aside n _ _)).offerAll _) fun _ => emptied

theorem Moves.scanWindow (n : Nat) (m : Moves p q s t) : Moves p q s (scanWindow t n) := by
  refine .ite (fun _ => ?_) fun _ => m
  have evaluated := m.aside (setWindow_aside n
    (evaluated (windowConfig t n) (quantityOf t (windowConfig t n).quantity) (slotGet t.msu.windows n .unknown)) t)
  split
  · exact evaluated.offer _
  · exact evaluated

theorem Moves.foldl {f : State → Nat → State} (hf : ∀ {t : State} (n : Nat), Moves p q s t → Moves p q s (f t n))
    (ns : List Nat) (m : Moves p q s t) : Moves p q s (ns.foldl f t) := by
  induction ns generalizing t with
  | nil => exact m
  | cons n ns ih => exact ih (hf n m)

theorem Moves.scan (m : Moves p q s t) : Moves p q s (scan t) := by
  have sampled : Moves p q s ((List.range 8).foldl Machine.scanChannel t) := m.foldl (fun n => Moves.scanChannel n) _
  have scanned : Moves p q s
      ((List.range 8).foldl Machine.scanWindow (scanMargins ((List.range 8).foldl Machine.scanChannel t))) :=
    (sampled.aside (scanMargins_aside _)).foldl (fun n => Moves.scanWindow n) _
  unfold Machine.scan
  exact .ite (fun _ => scanned.move (.scanNotice _)) fun _ => scanned

/-! ### The turbine and the exchange -/

theorem Moves.announceOwnTrip (c : TripCause) (m : Moves p q s t) : Moves p q s (announceOwnTrip c t) :=
  ((m.move (.enterTripFrame c t)).move (.enterDemandFrame 0 c.code _)).offer _

theorem Moves.enterTripped (hq : q) (c : TripCause) (m : Moves p q s t) : Moves p q s (enterTripped c t) :=
  (m.move (.setTrip _ t hq)).announceOwnTrip c

theorem Moves.leaveTripped (hq : q) (m : Moves p q s t) : Moves p q s (leaveTripped t) :=
  ((m.move (.setTrip { t.srg with trip := .normal } t hq)).move (.enterClearFrame _)).offer _

theorem Moves.tripInActs (hq : q) (m : Moves p q s t) : Moves p q s (tripInActs t) := by
  unfold Machine.tripInActs
  split
  · exact m.enterTripped hq _
  · exact (m.move (.setTrip _ t hq)).announceOwnTrip _
  · exact m

theorem Moves.tripTests (hq : q) (x : Quantity) (m : Moves p q s t) : Moves p q s (tripTests x t) := by
  unfold Machine.tripTests
  split
  · exact .ite (fun _ => m.enterTripped hq _) fun _ => m
  · exact .ite (fun _ => m.leaveTripped hq) fun _ => m

theorem Moves.setDemand (x : Quantity) (m : Moves p q s t) : Moves p q s (setDemand x t) := by
  unfold Machine.setDemand
  split
  · unfold Machine.regulate
    split
    · exact m.offer _
    · exact (m.aside (setSrg_aside _ t (by rfl))).offerAll _
  · exact m.aside (setSrg_aside _ t (by rfl))

theorem Moves.turbineShare (hq : q) (m : Moves p q s t) : Moves p q s (turbineShare t) := by
  have regulated := (m.tripTests hq (quantityOf t 0)).setDemand (quantityOf t 0)
  exact (Moves.ite (fun _ => regulated.publishDemand) fun _ => regulated).aside (writeTurbineQuantities_aside _ _)

theorem Moves.outletLimit (m : Moves p q s t) : Moves p q s (outletLimit t) := by
  have limited := m.aside (setXcp_aside
    { t.xcp with
      tSat := lookup t.settings.table t.xcp.sMix
      tBoMin := min 4000 (max (lookup t.settings.table t.xcp.sMix + t.settings.silicaMargin) t.settings.outletFloor) } t)
  exact .ite (fun _ => limited.offer _) fun _ => limited

theorem Moves.exchangeDemand (i : ExchangeInputs) (m : Moves p q s t) : Moves p q s (exchangeDemand i t) := by
  unfold Machine.exchangeDemand
  refine .ite (fun _ => (m.aside (setXcp_aside _ t)).offer _) fun _ => ?_
  split
  · exact .ite (fun _ => (m.aside (setXcp_aside _ t)).offer _) fun _ => m.aside (setXcp_aside _ t)
  · exact m

theorem Moves.exchangeShare (m : Moves p q s t) : Moves p q s (exchangeShare t) := by
  have limited := (m.aside (mixSilica_aside t)).outletLimit
  refine Moves.aside (.ite (fun _ => Moves.publishDemand ?_) fun _ => ?_) (writeExchangeQuantities_aside _ _ _)
  all_goals exact ((limited.aside (setXcp_aside _ _)).aside (setXcp_aside _ _)).exchangeDemand _

/-! ### The drive -/

theorem Moves.runAckRises (m : Moves p q s t) : Moves p q s (runAckRises t) :=
  .ite (fun h => m.acknowledge (by simp_all) (by simp_all)) fun _ => m

theorem Moves.runAckFalls (m : Moves p q s t) : Moves p q s (runAckFalls t) := by
  refine .ite (fun _ => ?_) fun _ => m
  split
  · exact m.move (.raiseRunReq t ‹_›)
  · exact .ite (fun _ => m) fun _ => m.driveLoss
  · exact m.driveLoss
  · exact m.driveLoss
  · exact m.driveLoss
  · exact m.driveLoss
  · exact m.takeDuty (new := .resting) [] trivial
  · exact m

theorem Moves.stageDuty (m : Moves p q s t) : Moves p q s (stageDuty t) := by
  unfold Machine.stageDuty
  split
  · exact .ite (fun _ => m.enterAsking ‹_›) fun _ => m
  · exact .ite (fun _ => m.move (.stopRampEnds t ‹_›)) fun _ => m
  · exact m.aside (testRecall_aside t)
  · exact m

theorem Moves.wellShare (m : Moves p q s t) : Moves p q s (wellShare t) := by
  have targeted := m.move (.stageTarget t)
  have shortened : Moves p q s (stageShortfall (fieldDemand t) (totalCapacity t) (stageTarget t)) :=
    .ite (fun _ => targeted.offer _) fun _ => targeted
  exact ((shortened.move (.stageRamp _)).stageDuty.aside (stageQuantities_aside _ _ _ _)).aside (sendWord_aside _)

theorem Moves.shareTick (hq : roleOf t = some .turbine → q) (m : Moves p q s t) : Moves p q s (shareTick t) := by
  unfold Machine.shareTick
  split
  · exact m.wellShare
  · exact m.turbineShare (hq ‹_›)
  · exact m.exchangeShare
  · exact m

end Sys2Proof.Machine
end

section
namespace Sys2Proof.Machine

variable {p q : Prop} {s t u : State}

/-! ### The start loader -/

theorem setStl_aside (l : Loader) (s : State) (h : l.station = s.stl.station ∧ l.roleCode = s.stl.roleCode) :
    Aside s (setStl l s) := by
  constructor <;> simp [h]

theorem faultLoad_aside (c : Nat) (s : State) : Aside s (faultLoad c s) := setStl_aside _ s ⟨rfl, rfl⟩

/-- A load begins in OFFLINE, or at the release of RESET. -/
theorem beginLoad_aside (sn : BitVec 5) (r : BitVec 2) (s : State) (h : s.frh.lineState = .offline) :
    Aside s (beginLoad sn r s) := by
  unfold beginLoad faultLoad
  split <;> constructor <;> simp [h]

theorem release_aside (sn : BitVec 5) (r : BitVec 2) (s : State) (h : s.pins.resetLow = true) :
    Aside s (beginLoad sn r (releasePanel { s with pins := { s.pins with resetLow := false } })) := by
  unfold beginLoad faultLoad
  split <;> constructor <;> simp [h, releasePanel]

theorem tryFails_aside (c : Nat) (b : Bool) (s : State) : Aside s (tryFails c b s) := by
  unfold tryFails
  have hpins : Aside s { s with pins := { s.pins with stopPossible := b } } := by constructor <;> simp
  refine .ite (fun _ => (hpins.trans (setStl_aside _ _ ?_)).trans (faultLoad_aside _ _)) fun _ =>
    hpins.trans (setStl_aside _ _ ?_)
  · simp
  · simp [beginWait_straps]

theorem endTransfer_straps (b : Bool) (l : Loader) :
    (endTransfer b l).station = l.station ∧ (endTransfer b l).roleCode = l.roleCode := by
  unfold endTransfer
  split <;> simp

theorem restartOffline_aside (sn : BitVec 5) (r : BitVec 2) (b : Bool) (s : State) (h : s.frh.lineState = .offline) :
    Aside s (restartOffline sn r b s) := by
  have hpins : Aside s { s with pins := { s.pins with stopPossible := b } } := by constructor <;> simp
  have hstop := hpins.trans (Aside.ite (c := tryUnderWay { s with pins := { s.pins with stopPossible := b } } = true)
    (fun _ => setStl_aside { s.stl with stopSent := b } _ ⟨rfl, rfl⟩) fun _ => .refl _)
  have hend := hstop.trans (setStl_aside _ _ (endTransfer_straps b _))
  exact hend.trans (beginLoad_aside sn r _ (hend.lineState.trans h))

/-- The station at the moment a good image has been loaded: the settings taken, the links started, JOINING begun (R184). -/
def loaded (s : State) : State :=
  let w := startLinks (takeSettings s)
  emptied .joining (.running (joinPeriod w)) w

/-- What a completed load sets, and what it leaves as it stands (R184). -/
@[simp] theorem loaded_parts (s : State) :
    (loaded s).settings = clampSettings (rawSettings s.stl.image) ∧ (loaded s).frh.lineState = .joining ∧
    (loaded s).frh.outbox = Outbox.empty ∧ (loaded s).frh.inFlight = none ∧
    (loaded s).dtu = { s.dtu with normalTarget := (clampSettings (rawSettings s.stl.image)).fMin } ∧
    (loaded s).stl.station = s.stl.station ∧ (loaded s).stl.roleCode = s.stl.roleCode ∧ (loaded s).pins = s.pins ∧
    (loaded s).pvw = s.pvw ∧ (loaded s).rng = s.rng ∧ (loaded s).evu.queue = s.evu.queue := by
  simp [loaded, emptied, startLinks, takeSettings]

theorem completeLoad_moves (s : State) : Moves False True (loaded s) (completeLoad s) := by
  have joined : Moves False True (loaded s) (enterJoining (startLinks (takeSettings s))) := leaveActive_moves _ _ _
  exact .ite (fun _ => joined.enterTripped trivial _) fun _ => joined

/-- A transfer that succeeds goes on to the next one, ends the load with a fault, or completes the load. -/
theorem transferDone_cases (o : List Octet) (s : State) :
    Aside s (transferDone o s) ∨
      ∃ u, Aside s u ∧ u.pins.resetLow = s.pins.resetLow ∧ transferDone o s = completeLoad u := by
  unfold transferDone checkImage
  dsimp only
  split
  · exact .inl (setStl_aside _ s (by simp))
  · have hdone := setStl_aside (withBus [] { s.stl with image := s.stl.image ++ o, failedTries := 0, stopSent := true }) s
      (by simp)
    split
    · exact .inr ⟨_, hdone, rfl, rfl⟩
    · exact .inl (hdone.trans (faultLoad_aside _ _))

/-! ### The panel port -/

theorem settledEntry_key {b : Bool} {e x : QueueEntry} (h : settledEntry b e = some x) : entryKey x = entryKey e := by
  unfold settledEntry at h
  split at h <;> simp_all [entryKey] <;> simp [← h]

/-- Settling a delivery removes an entry at most. -/
theorem settleDelivery_aside (b : Bool) (s : State) : Aside s (settleDelivery b s) := by
  constructor <;> simp [settleDelivery]
  induction s.evu.queue with
  | nil => simp
  | cons e es ih =>
    cases h : settledEntry b e with
    | none => simpa [h] using ih.cons _
    | some x => simpa [h, settledEntry_key h] using ih.cons_cons (entryKey e)

theorem markDelivery_aside (e : QueueEntry) (s : State) : Aside s (setQueue (markDelivery e s.evu.queue) s) := by
  have hkeys : (markDelivery e s.evu.queue).map entryKey = s.evu.queue.map entryKey := by
    simp only [markDelivery, List.map_map, List.map_inj_left, Function.comp_apply]
    intro x _
    split <;> rfl
  constructor <;> simp [hkeys]

theorem takeStatus_aside (s : State) : Aside s (takeStatus s) := setPnp_aside _ s

theorem takeTake_aside (s : State) : Aside s (takeTake s) := by
  unfold takeTake
  split
  · exact (markDelivery_aside _ s).trans (setPnp_aside _ _)
  · exact answer_aside _ _ _ s

theorem takeReadRow_aside (o : Octet) (s : State) : Aside s (takeReadRow o s) :=
  .ite (fun _ => .ite (fun _ => answer_aside _ _ _ s) fun _ => answer_aside _ _ _ s) fun _ => answer_aside _ _ _ s

theorem takeReadQuantity_aside (o : Octet) (s : State) : Aside s (takeReadQuantity o s) :=
  .ite (fun _ => .ite (fun _ => answer_aside _ _ _ s) fun _ => answer_aside _ _ _ s) fun _ => answer_aside _ _ _ s

theorem takeReadChannel_aside (o : Octet) (s : State) : Aside s (takeReadChannel o s) :=
  .ite (fun _ => .ite (fun _ => answer_aside _ _ _ s) fun _ => answer_aside _ _ _ s) fun _ => answer_aside _ _ _ s

theorem rebind_aside (n : Nat) (c : Option Channel) (s : State) : Aside s (rebind n c s) := by
  cases c with
  | none => exact .refl s
  | some c => exact setChannel_aside n c s

theorem takeBind_aside (n x f d c : Octet) (s : State) : Aside s (takeBind n x f d c s) :=
  .ite (fun _ => (rebind_aside _ _ s).trans (answer_aside _ _ _ _)) fun _ => answer_aside _ _ _ s

theorem takeUnknown_aside (s : State) : Aside s (takeUnknown s) := answer_aside _ _ _ s

theorem Moves.answer (n : Nat) (r : Result) (c : List Octet) (m : Moves p q s t) : Moves p q s (answer n r c t) :=
  m.aside (answer_aside n r c t)

theorem Moves.takeRest (m : Moves p q s t) : Moves p q s (takeRest t) :=
  .ite (fun _ => .ite (fun _ => m.answer _ _ _) fun _ =>
    .ite (fun h => (m.enterAsking h).answer _ _ _) fun _ => m.answer _ _ _) fun _ => m.answer _ _ _

theorem Moves.takeWake (m : Moves p q s t) : Moves p q s (takeWake t) :=
  .ite (fun _ => .ite (fun _ => m.answer _ _ _) fun _ =>
    .ite (fun _ => (m.takeDuty (new := .starting) [] trivial).answer _ _ _) fun _ =>
    .ite (fun h => (m.takeDuty (new := .on) [] (.inr (.inl h))).answer _ _ _) fun _ => m.answer _ _ _) fun _ =>
    m.answer _ _ _

theorem Moves.takeFaultClear (m : Moves p q s t) : Moves p q s (takeFaultClear t) :=
  .ite (fun _ => .ite (fun _ => m.answer _ _ _) fun _ =>
    .ite (fun _ => (m.takeDuty (new := .resting) [] trivial).answer _ _ _) fun _ => m.answer _ _ _) fun _ =>
    m.answer _ _ _

theorem Moves.takeReleaseTrip (o : Octet) (m : Moves p q s t) : Moves p q s (takeReleaseTrip o t) :=
  .ite (fun _ => .ite (fun _ => m.answer _ _ _) fun _ => .ite (fun _ => m.answer _ _ _) fun _ =>
    .ite (fun _ => (m.removeTrip _ 3).answer _ _ _) fun _ => m.answer _ _ _) fun _ => m.answer _ _ _

theorem Moves.restartOnline (m : Moves p q s t) : Moves p q s (restartOnline t) := by
  have joined := (((m.aside (setAsk_aside .idle t)).move (.shrinkGrants [] _ (by simp))).move (.clearView _)).enterJoining
  exact .ite (fun h => joined.takeDuty [] (.inr (.inl h))) fun _ => joined

theorem Moves.takeRestart (sn : BitVec 5) (r : BitVec 2) (b : Bool) (m : Moves p q s t) :
    Moves p q s (takeRestart sn r b t) :=
  Moves.answer _ _ _ (.ite (fun h => m.aside (restartOffline_aside sn r b t h)) fun _ => m.restartOnline)

/-- The commands that move the plant are aside of every law. -/
structure PlantAside (s : State) : Prop where
  rest : Aside s (takeRest s)
  wake : Aside s (takeWake s)
  faultClear : Aside s (takeFaultClear s)
  releaseTrip : ∀ o, Aside s (takeReleaseTrip o s)
  restart : ∀ sn r b, Aside s (takeRestart sn r b s)

/-- In OFFLINE a command that moves the plant is refused (R187), and RESTART starts the load again (R189). -/
theorem plantCommands_offline (s : State) (h : s.frh.lineState = .offline) : PlantAside s where
  rest := by simpa [takeRest, ifServed, served, h] using answer_aside _ _ _ s
  wake := by simpa [takeWake, ifServed, served, h] using answer_aside _ _ _ s
  faultClear := by simpa [takeFaultClear, ifServed, served, h] using answer_aside _ _ _ s
  releaseTrip := fun o => by simpa [takeReleaseTrip, ifServed, served, h] using answer_aside _ _ _ s
  restart := fun sn r b => by simpa [takeRestart, h] using (restartOffline_aside sn r b s h).trans (answer_aside _ _ _ _)

/-- A taken command keeps what every chain of moves from here keeps. In OFFLINE it is aside of every law. -/
theorem takeCommand_cases (code : Octet) (a : List Octet) (s : State) :
    Moves p q s (takeCommand code a s) ∧ (s.frh.lineState = .offline → Aside s (takeCommand code a s)) := by
  have both (x : State) (h : Aside s x) : Moves p q s x ∧ (s.frh.lineState = .offline → Aside s x) :=
    ⟨(Moves.refl p q s).aside h, fun _ => h⟩
  have m := Moves.refl p q s
  have plant := plantCommands_offline s
  unfold takeCommand
  dsimp only
  repeat' split
  · exact both _ (takeStatus_aside s)
  · exact both _ (takeTake_aside s)
  · exact both _ (takeReadRow_aside _ s)
  · exact both _ (takeReadQuantity_aside _ s)
  · exact both _ (takeReadChannel_aside _ s)
  · exact both _ (takeBind_aside _ _ _ _ _ s)
  · exact ⟨m.takeRest, fun h => (plant h).rest⟩
  · exact ⟨m.takeWake, fun h => (plant h).wake⟩
  · exact ⟨m.takeFaultClear, fun h => (plant h).faultClear⟩
  · exact ⟨m.takeReleaseTrip _, fun h => (plant h).releaseTrip _⟩
  · exact ⟨m.takeRestart _ _ _, fun h => (plant h).restart _ _ _⟩
  · exact both _ (takeUnknown_aside s)

theorem panelOctet_cases (o : Octet) (s : State) :
    Moves p q s (panelOctet o s) ∧ (s.frh.lineState = .offline → Aside s (panelOctet o s)) := by
  have both (x : State) (h : Aside s x) : Moves p q s x ∧ (s.frh.lineState = .offline → Aside s x) :=
    ⟨(Moves.refl p q s).aside h, fun _ => h⟩
  unfold panelOctet
  split
  · exact both _ (.refl s)
  · exact both _ (.refl s)
  · split
    · exact takeCommand_cases _ _ s
    · exact both _ (setPnp_aside _ s)
  · split
    · exact both _ (setPnp_aside _ s)
    · exact takeCommand_cases _ _ s
  · exact both _ (setPnp_aside _ s)
  · exact both _ (setPnp_aside _ s)
  · exact both _ (setPnp_aside _ s)

theorem endTransaction_aside (s : State) : Aside s (endTransaction s) := by
  unfold endTransaction
  split
  · exact settleDelivery_aside _ s
  · constructor <;> simp
  · exact .refl s

end Sys2Proof.Machine
end

section
namespace Sys2Proof.Machine

variable {s t : State}

/-! ### The commands -/

/-- The frame of these octets is a REST-REPLY. -/
def isReplyFrame (octets : List Octet) : Prop :=
  kindOfCode (kindCodeOf ((octets.take (octets.length - 2)).getD 1 0)) = some .restReply

/-- The commands on which an ask can be agreed (R124, R127, R128, R130). -/
def mayStop : Instr → Prop
  | .attemptSent => True
  | .refreshTick => True
  | .frameComplete octets _ => isReplyFrame octets
  | _ => False

/-- The commands on which the trip state can change outside a reset and a load (R147 to R150). -/
def mayTrip (s : State) : Instr → Prop
  | .tripInActive => True
  | .shareTick => roleOf s = some .turbine
  | _ => False

/-- Every command but HARD_RESET takes a station outside OFFLINE along a chain of moves. -/
theorem exec_moves (c : Instr) (s : State) (hc : c ≠ .hardReset) (hw : works s = true) :
    ∃ t, exec c s = .next t ∧ Moves (mayStop c) (mayTrip s c) s t := by
  have hr : s.pins.resetLow = false := by simp_all [works]
  have hl : s.frh.lineState ≠ .offline := by simp_all [works]
  have m := Moves.refl (mayStop c) (mayTrip s c) s
  cases c with
  | hardReset => exact absurd rfl hc
  | resetRelease sn role => exact ⟨s, by simp [exec, execResetRelease, hr], m⟩
  | imageTransferDone _ | addressNotAcknowledged _ | heldLineTimeout _ | retryWaitEnd =>
    exact ⟨s, by simp [exec, execImageTransferDone, execAddressNotAcknowledged, execHeldLineTimeout, execRetryWaitEnd,
      tryUnderWay, isReading, hl], m⟩
  | joinExpiry => exact ⟨_, rfl, .ite (fun _ => m.enterActive) fun _ => m⟩
  | refreshTick =>
    exact ⟨_, rfl, .ite (fun _ => ((m.ageView trivial).aside (advanceRefreshCount_aside _)).periodicEntry) fun _ => m⟩
  | shareTick => exact ⟨_, rfl, .ite (fun _ => m.shareTick fun h => h) fun _ => m⟩
  | scanTick => exact ⟨_, rfl, .ite (fun _ => m.scan) fun _ => m⟩
  | quietGapExpiry => exact ⟨_, rfl, .ite (fun _ => m.move (.beginAttempt s)) fun _ => m⟩
  | attemptSent =>
    refine ⟨_, rfl, ?_⟩
    split
    · exact m.settleSent trivial _
    · exact m
  | attemptFailed x =>
    refine ⟨_, rfl, ?_⟩
    split
    · rename_i f x' _ hd
      exact .ite (fun _ => m.settleFailed f x ((dueOutcome_eq s f _).mp hd).2) fun _ => m
    · exact m
  | headerArrival h0 h1 h2 => exact ⟨_, rfl, .ite (fun _ => m.headerArrives h0 h1 h2) fun _ => m⟩
  | frameComplete o e => exact ⟨_, rfl, .ite (fun _ => m.frameCompletes o e fun h => h) fun _ => m⟩
  | frameMalformed r => exact ⟨_, rfl, .ite (fun _ => (m.aside (rxHunt_aside s)).malformed r) fun _ => m⟩
  | sampleOctet o => exact ⟨_, rfl, .ite (fun _ => m.aside (gatherOctet_aside o s)) fun _ => m⟩
  | framingFault => exact ⟨_, rfl, .ite (fun _ => m.aside (framingFaults_aside s)) fun _ => m⟩
  | partialWordDiscard => exact ⟨_, rfl, .ite (fun _ => m.aside (idleEnds_aside s)) fun _ => m⟩
  | smpInReleased => exact ⟨_, rfl, .ite (fun _ => m.aside (by constructor <;> simp)) fun _ => m⟩
  | runAckRising =>
    have set := m.aside (setRunAck_aside true s)
    exact ⟨_, rfl, .ite (fun _ => m) fun _ => .ite (fun _ => set.runAckRises) fun _ => set⟩
  | runAckFalling =>
    have set := m.aside (setRunAck_aside false s)
    exact ⟨_, rfl, .ite (fun _ => m) fun _ => .ite (fun _ => set.runAckFalls) fun _ => set⟩
  | tripInActive =>
    have set := m.aside (setSrg_aside { s.srg with tripIn := true } s rfl)
    exact ⟨_, rfl, .ite (fun _ => m) fun _ => .ite (fun _ => set.tripInActs trivial) fun _ => set⟩
  | tripInInactive => exact ⟨_, rfl, .ite (fun _ => m) fun _ => m.aside (setSrg_aside _ s (by rfl))⟩
  | startTimeout => exact ⟨_, rfl, .ite (fun _ => m.takeDuty (new := .fault) _ trivial) fun _ => m⟩
  | warmUpExpiry => exact ⟨_, rfl, .ite (fun h => m.warmUpEnds (by simp_all [timerEnds])) fun _ => m⟩
  | stopTimeout => exact ⟨_, rfl, .ite (fun _ => m.takeDuty (new := .fault) _ trivial) fun _ => m⟩
  | recallExpiry => exact ⟨_, rfl, .ite (fun _ => m.takeDuty (new := .starting) _ trivial) fun _ => m⟩
  | replyWindowExpiry => exact ⟨_, rfl, .ite (fun _ => m.replyWindowEnds) fun _ => m⟩
  | grantHoldExpiry a => exact ⟨_, rfl, .ite (fun _ => m.removeGrant a) fun _ => m⟩
  | holdOffExpiry => exact ⟨_, rfl, .ite (fun _ => m.endHoldOff) fun _ => m⟩
  | dosePulseEnd x => exact ⟨_, rfl, .ite (fun _ => m) fun _ => m.aside (by cases x <;> constructor <;> simp)⟩
  | setpointWordEnd => exact ⟨_, rfl, .ite (fun _ => m.aside (wordEnds_aside s)) fun _ => m⟩
  | pcsFall =>
    have set := m.aside (setPcs_aside true s)
    exact ⟨_, rfl, .ite (fun _ => set.aside (setPnp_aside _ _)) fun _ => set⟩
  | pcsRise =>
    have set := m.aside (setPcs_aside false s)
    exact ⟨_, rfl, .ite (fun _ => set) fun _ => (set.aside (endTransaction_aside _)).aside (setPnp_aside _ _)⟩
  | status => exact ⟨_, rfl, .ite (fun _ => m.aside (takeStatus_aside s)) fun _ => m⟩
  | take => exact ⟨_, rfl, .ite (fun _ => m.aside (takeTake_aside s)) fun _ => m⟩
  | readRow n => exact ⟨_, rfl, .ite (fun _ => m.aside (takeReadRow_aside n s)) fun _ => m⟩
  | readQuantity n => exact ⟨_, rfl, .ite (fun _ => m.aside (takeReadQuantity_aside n s)) fun _ => m⟩
  | readChannel n => exact ⟨_, rfl, .ite (fun _ => m.aside (takeReadChannel_aside n s)) fun _ => m⟩
  | bind n x f d k => exact ⟨_, rfl, .ite (fun _ => m.aside (takeBind_aside n x f d k s)) fun _ => m⟩
  | rest => exact ⟨_, rfl, .ite (fun _ => m.takeRest) fun _ => m⟩
  | wake => exact ⟨_, rfl, .ite (fun _ => m.takeWake) fun _ => m⟩
  | faultClear => exact ⟨_, rfl, .ite (fun _ => m.takeFaultClear) fun _ => m⟩
  | releaseTrip n => exact ⟨_, rfl, .ite (fun _ => m.takeReleaseTrip n) fun _ => m⟩
  | restart sn r b => exact ⟨_, rfl, .ite (fun _ => m.takeRestart sn r b) fun _ => m⟩
  | unknownCommand k => exact ⟨_, rfl, .ite (fun _ => m.aside (takeUnknown_aside s)) fun _ => m⟩
  | lineTransition d x =>
    have set := m.aside (setLineLevel_aside d s)
    exact ⟨_, rfl, .ite (fun _ => m) fun _ => .ite (fun _ => set.aside (lineMoves_aside d x _)) fun _ => set⟩
  | markRecessiveTimeout => exact ⟨_, rfl, .ite (fun _ => m.aside (rxHunt_aside s)) fun _ => m⟩
  | cutAttemptEnd =>
    refine ⟨_, rfl, ?_⟩
    split
    · exact (m.aside (setTx_aside .none s)).aside (select_aside _)
    · exact m
  | panelOctetComplete o => exact ⟨_, rfl, .ite (fun _ => m) fun _ => (panelOctet_cases o s).1⟩

/-- A station in OFFLINE, or held in reset, does nothing that a law speaks of, or completes a load. -/
theorem exec_resting (c : Instr) (s : State) (hc : c ≠ .hardReset) (hw : works s = false) :
    ∃ t, exec c s = .next t ∧
      (Aside s t ∨
        ∃ u, Aside s u ∧ s.frh.lineState = .offline ∧ u.pins.resetLow = false ∧ t = completeLoad u) := by
  have still : Aside s s := .refl s
  have offline (h : s.pins.resetLow = false) : s.frh.lineState = .offline := by simp_all [works]
  have plant {code : Octet} (h : takeable code s = true) :=
    plantCommands_offline s (offline (by simp_all [takeable]))
  cases c with
  | hardReset => exact absurd rfl hc
  | joinExpiry | refreshTick | shareTick | scanTick | quietGapExpiry | attemptSent | attemptFailed _
  | headerArrival _ _ _ | frameComplete _ _ | frameMalformed _ | sampleOctet _ | framingFault | partialWordDiscard
  | startTimeout | warmUpExpiry | stopTimeout | recallExpiry | replyWindowExpiry | grantHoldExpiry _ | holdOffExpiry
  | setpointWordEnd | markRecessiveTimeout | cutAttemptEnd | smpInReleased =>
    exact ⟨s, by simp [exec, execJoinExpiry, execRefreshTick, execShareTick, execScanTick, execQuietGapExpiry,
      execAttemptSent, execAttemptFailed, execHeaderArrival, execFrameComplete, execFrameMalformed, execSampleOctet,
      execFramingFault, execPartialWordDiscard, execStartTimeout, execWarmUpExpiry, execStopTimeout, execRecallExpiry,
      execReplyWindowExpiry, execGrantHoldExpiry, execHoldOffExpiry, execSetpointWordEnd, execMarkRecessiveTimeout,
      execCutAttemptEnd, execSmpInReleased, gapReached, handsOver, timerEnds, hw], .inl still⟩
  | resetRelease sn role => exact ⟨_, rfl, .inl (.ite (fun h => release_aside sn role s h) fun _ => still)⟩
  | imageTransferDone o =>
    by_cases h : (tryUnderWay s && s.stl.bus.isEmpty && o.length == 32) = true
    · have hr : s.pins.resetLow = false := by simp_all [tryUnderWay, isReading]
      refine ⟨transferDone o s, by simp only [exec, execImageTransferDone, h, if_true], ?_⟩
      obtain ha | ⟨u, ha, hu, e⟩ := transferDone_cases o s
      · exact .inl ha
      · exact .inr ⟨u, ha, offline hr, hu.trans hr, e⟩
    · exact ⟨s, by simp only [exec, execImageTransferDone, if_neg h], .inl still⟩
  | addressNotAcknowledged b => exact ⟨_, rfl, .inl (.ite (fun _ => tryFails_aside 2 b s) fun _ => still)⟩
  | heldLineTimeout b => exact ⟨_, rfl, .inl (.ite (fun _ => tryFails_aside 3 b s) fun _ => still)⟩
  | retryWaitEnd => exact ⟨_, rfl, .inl (.ite (fun _ => setStl_aside _ s (by simp)) fun _ => still)⟩
  | runAckRising =>
    have set := setRunAck_aside true s
    exact ⟨_, rfl, .inl (.ite (fun _ => still) fun _ => .ite (fun h => absurd h (by simp [hw])) fun _ => set)⟩
  | runAckFalling =>
    have set := setRunAck_aside false s
    exact ⟨_, rfl, .inl (.ite (fun _ => still) fun _ => .ite (fun h => absurd h (by simp [hw])) fun _ => set)⟩
  | tripInActive =>
    have set := setSrg_aside { s.srg with tripIn := true } s rfl
    exact ⟨_, rfl, .inl (.ite (fun _ => still) fun _ => .ite (fun h => absurd h (by simp [hw])) fun _ => set)⟩
  | tripInInactive => exact ⟨_, rfl, .inl (.ite (fun _ => still) fun _ => setSrg_aside _ s (by rfl))⟩
  | dosePulseEnd x => exact ⟨_, rfl, .inl (.ite (fun _ => still) fun _ => by cases x <;> constructor <;> simp)⟩
  | pcsFall =>
    have set := setPcs_aside true s
    exact ⟨_, rfl, .inl (.ite (fun _ => set.trans (setPnp_aside _ _)) fun _ => set)⟩
  | pcsRise =>
    have set := setPcs_aside false s
    exact ⟨_, rfl, .inl (.ite (fun _ => set) fun _ => (set.trans (endTransaction_aside _)).trans (setPnp_aside _ _))⟩
  | status => exact ⟨_, rfl, .inl (.ite (fun _ => takeStatus_aside s) fun _ => still)⟩
  | take => exact ⟨_, rfl, .inl (.ite (fun _ => takeTake_aside s) fun _ => still)⟩
  | readRow n => exact ⟨_, rfl, .inl (.ite (fun _ => takeReadRow_aside n s) fun _ => still)⟩
  | readQuantity n => exact ⟨_, rfl, .inl (.ite (fun _ => takeReadQuantity_aside n s) fun _ => still)⟩
  | readChannel n => exact ⟨_, rfl, .inl (.ite (fun _ => takeReadChannel_aside n s) fun _ => still)⟩
  | bind n x f d k => exact ⟨_, rfl, .inl (.ite (fun _ => takeBind_aside n x f d k s) fun _ => still)⟩
  | rest => exact ⟨_, rfl, .inl (.ite (fun h => (plant h).rest) fun _ => still)⟩
  | wake => exact ⟨_, rfl, .inl (.ite (fun h => (plant h).wake) fun _ => still)⟩
  | faultClear => exact ⟨_, rfl, .inl (.ite (fun h => (plant h).faultClear) fun _ => still)⟩
  | releaseTrip n => exact ⟨_, rfl, .inl (.ite (fun h => (plant h).releaseTrip n) fun _ => still)⟩
  | restart sn r b => exact ⟨_, rfl, .inl (.ite (fun h => (plant h).restart sn r b) fun _ => still)⟩
  | unknownCommand k => exact ⟨_, rfl, .inl (.ite (fun _ => takeUnknown_aside s) fun _ => still)⟩
  | lineTransition d x =>
    have set := setLineLevel_aside d s
    exact ⟨_, rfl, .inl (.ite (fun _ => still) fun _ => .ite (fun h => absurd h (by simp [hw])) fun _ => set)⟩
  | panelOctetComplete o =>
    have taken := (panelOctet_cases (p := False) (q := False) o s).2
    exact ⟨_, rfl, .inl (.ite (fun _ => still) fun h => taken (offline (by simpa using h)))⟩

end Sys2Proof.Machine
end

section
namespace Sys2Proof.Machine

variable {p q : Prop} {s t : State}

/-! ### What every step keeps -/

/-- No move leads into OFFLINE. -/
theorem Move.stays_online (m : Move p q s t) (h : s.frh.lineState ≠ .offline) : t.frh.lineState ≠ .offline := by
  cases m with
  | aside ha => exact ha.lineState ▸ h
  | empty l x _ hl => exact hl
  | activate => exact (by decide : LineState.active ≠ .offline)
  | offer | scanNotice | enterTripFrame | enterClearFrame | enterDemandFrame | enterStateFrame | placeAsk | placeReply
  | beginAttempt | endAttempt | settle | dropReply | enterDuty | acknowledge | raiseRunReq | stageTarget | stageRamp
  | stopRampEnds | announceTrip | earlyNotice | endTrip | endPending | shrinkGrants | addGrant | setRow | clearView
  | setTrip => simpa [acknowledged, Machine.stopRampEnds] using h

/-- A step is aside of every law, takes a station outside OFFLINE along a chain of moves, resets it, or completes a load. -/
theorem step_cases (h : step s = .next t) :
    Aside s t ∨ (s.frh.lineState ≠ .offline ∧ ∃ p q, Moves p q s t) ∨
      (∃ rest, t = { State.reset with pins := { s.pins with resetLow := true }, pending := rest }) ∨
      ∃ u, Aside s u ∧ s.frh.lineState = .offline ∧ u.pins.resetLow = false ∧ Moves False True (loaded u) t := by
  unfold step at h
  split at h
  · obtain rfl := Host.Outcome.next.inj h
    exact .inl (idle_aside s)
  · rename_i c rest _
    have taken : Aside s { s with pending := rest } := by constructor <;> simp
    by_cases hc : c = .hardReset
    · subst hc
      exact .inr (.inr (.inl ⟨rest, (Host.Outcome.next.inj h).symm⟩))
    · cases hw : works s with
      | true =>
        obtain ⟨t', e, m⟩ := exec_moves c { s with pending := rest } hc hw
        obtain rfl := Host.Outcome.next.inj (h.symm.trans e)
        exact .inr (.inl ⟨by simp_all [works], _, _, ((Moves.refl _ _ s).aside taken).trans m⟩)
      | false =>
        obtain ⟨t', e, ha | ⟨u, hu, hl, hr, rfl⟩⟩ := exec_resting c { s with pending := rest } hc hw
        all_goals obtain rfl := Host.Outcome.next.inj (h.symm.trans e)
        · exact .inl (taken.trans ha)
        · exact .inr (.inr (.inr ⟨u, taken.trans hu, hl, hr, completeLoad_moves u⟩))

/-- A property that the elementary moves, a hard reset and a load keep is kept by every step. -/
theorem step_keeps {P : State → Prop} (aside : ∀ {a b}, Aside a b → P a → P b)
    (move : ∀ {p q a b}, Move p q a b → a.frh.lineState ≠ .offline → P a → P b)
    (reset : ∀ pins rest, P { State.reset with pins := pins, pending := rest })
    (load : ∀ {a}, a.frh.lineState = .offline → a.pins.resetLow = false → P a → P (loaded a))
    (h : step s = .next t) (hs : P s) : P t := by
  have moves {p q : Prop} {a b : State} (m : Moves p q a b) (hl : a.frh.lineState ≠ .offline) (ha : P a) : P b :=
    (m.keeps (P := fun x => x.frh.lineState ≠ .offline ∧ P x)
      (fun _ _ m hx => ⟨m.stays_online hx.1, move m hx.1 hx.2⟩) ⟨hl, ha⟩).2
  obtain ha | ⟨hl, _, _, m⟩ | ⟨rest, rfl⟩ | ⟨u, hu, hl, hr, m⟩ := step_cases h
  · exact aside ha hs
  · exact moves m hl hs
  · exact reset _ _
  · exact moves m (by simp) (load (hu.lineState.trans hl) hr (aside hu hs))

/-! ### The trip set -/

/-- An announced trip enters the set and is offered, and may bring the trip step and the recall test (R92, R94). -/
theorem announceTrip_cases (n c : Nat) (s : State) :
    let t := setTripEntry n (some c) s
    announceTrip n c s = afterTripChange (tripInForce s) (offer (fire 25 n c) t) ∨
      (slotGet s.dtu.tripSet n none).isSome = true ∧ (announceTrip n c s = t ∨ announceTrip n c s = offer (fire 25 n c) t) := by
  unfold announceTrip
  split
  · exact .inl rfl
  · rename_i old h
    refine .inr ⟨by simp [h], ?_⟩
    dsimp only
    split
    · exact .inl rfl
    · exact .inr rfl

/-! ### Law 6: the event queue -/

theorem Law6.of_keys (h : (t.evu.queue.map entryKey).Sublist (s.evu.queue.map entryKey)) (hs : Law6 s) : Law6 t := by
  have hlen := h.length_le
  simp only [List.length_map] at hlen
  exact ⟨hlen.trans hs.1, hs.2.sublist h⟩

theorem Law6.of_queue (h : t.evu.queue = s.evu.queue) (hs : Law6 s) : Law6 t := hs.of_keys (by simp [h])

/-- Some entry of a queue that is not empty has its lowest level. -/
theorem exists_lowestLevel {es : List QueueEntry} (h : es ≠ []) : ∃ e ∈ es, e.level = lowestLevel es := by
  have key (l : List QueueEntry) : ∀ e : QueueEntry,
      ∃ x ∈ e :: l, x.level = l.foldl (fun low y => min low y.level) e.level := by
    induction l with
    | nil => simp
    | cons y l ih =>
      intro e
      rcases le_total e.level y.level with hle | hle
      · obtain ⟨x, hx, hv⟩ := ih e
        exact ⟨x, by simp_all; tauto, by simp [hv, hle]⟩
      · obtain ⟨x, hx, hv⟩ := ih y
        exact ⟨x, List.mem_cons_of_mem _ hx, by simp [hv, hle]⟩
  cases es with
  | nil => exact absurd rfl h
  | cons e l => exact key l e

/-- A firing that no entry waits for joins a queue with room, displaces one entry of a full queue, or is dropped (R169). -/
theorem append_queue (f : Firing) (s : State) :
    let e := newEntry f (levelOf s f.source) s.evu.refreshCount
    let q := s.evu.queue
    (append f s).evu.queue = q ∨ (q.length < 32 ∧ (append f s).evu.queue = q ++ [e]) ∨
      (32 ≤ q.length ∧ (append f s).evu.queue = q.eraseP (fun x => x.level == lowestLevel q) ++ [e]) := by
  dsimp only [append]
  split
  · exact .inr (.inl ⟨‹_›, rfl⟩)
  · split
    · exact .inr (.inr ⟨by omega, rfl⟩)
    · exact .inl rfl

/-- A new entry of a source and subject that no entry holds. -/
theorem nodup_keys_concat {es : List QueueEntry} {e : QueueEntry} (hn : (es.map entryKey).Nodup)
    (h : ∀ x ∈ es, entryKey x ≠ entryKey e) : ((es ++ [e]).map entryKey).Nodup := by
  simp only [List.map_append, List.map_cons, List.map_nil]
  exact hn.append (List.nodup_singleton _) (by simpa [List.disjoint_singleton] using h)

theorem append_law6 (f : Firing) (hnew : ∀ x ∈ s.evu.queue, entryKey x ≠ (f.source, f.subject)) (hs : Law6 s) :
    Law6 (append f s) := by
  obtain ⟨hlen, hnodup⟩ := hs
  obtain h | ⟨hroom, h⟩ | ⟨hfull, h⟩ := append_queue f s
  · exact Law6.of_queue h ⟨hlen, hnodup⟩
  · refine ⟨by simp [h]; omega, h ▸ nodup_keys_concat hnodup hnew⟩
  · obtain ⟨e, he, hlow⟩ := exists_lowestLevel (es := s.evu.queue) (by rintro h; simp [h] at hfull)
    have hsub : (s.evu.queue.eraseP fun x => x.level == lowestLevel s.evu.queue).Sublist s.evu.queue :=
      List.eraseP_sublist
    refine ⟨?_, h ▸ nodup_keys_concat (hnodup.sublist (hsub.map _)) fun x hx => hnew x (hsub.subset hx)⟩
    rw [h, List.length_append, List.length_eraseP_of_mem he (by simp [hlow])]
    simp
    omega

/-- A firing folded into an entry leaves every source and subject as it is. -/
theorem coalesced_keys (f : Firing) (es : List QueueEntry) :
    (es.map fun e => if sameKey f e then coalesce f e else e).map entryKey = es.map entryKey := by
  simp only [List.map_map, List.map_inj_left, Function.comp_apply]
  intro e _
  split <;> rfl

theorem enqueue_law6 (f : Firing) (hs : Law6 s) : Law6 (enqueue f s) := by
  unfold enqueue
  split
  · exact hs
  · split
    · exact hs.of_keys (by rw [setQueue_evu_queue, coalesced_keys])
    · rename_i h
      exact append_law6 f (by simpa [sameKey, entryKey] using h) hs

theorem channelActs_law6 (n : Nat) (f : Firing) (hs : Law6 s) : Law6 (channelActs n f s) := by
  unfold channelActs
  dsimp only
  split
  · exact enqueue_law6 _ (hs.of_queue (by simp))
  · exact hs.of_queue (by simp)

theorem offer_law6 (f : Firing) (hs : Law6 s) : Law6 (offer f s) := by
  unfold offer
  split
  · exact channelActs_law6 _ f hs
  · exact enqueue_law6 f hs

theorem law6_of_move (m : Move p q s t) (hs : Law6 s) : Law6 t := by
  cases m with
  | aside ha => exact hs.of_keys ha.queue
  | offer f => exact offer_law6 f hs
  | announceTrip n c =>
    have offered : Law6 (offer (fire 25 n c) (setTripEntry n (some c) s)) := offer_law6 _ (hs.of_queue (by simp))
    obtain h | ⟨-, h | h⟩ := announceTrip_cases n c s
    · exact offered.of_queue (by simp [h])
    · exact hs.of_queue (by simp [h])
    · exact h ▸ offered
  | scanNotice | enterTripFrame | enterClearFrame | enterDemandFrame | enterStateFrame | placeAsk | placeReply
  | beginAttempt | endAttempt | settle | dropReply | empty | activate | enterDuty | acknowledge | raiseRunReq | stageTarget
  | stageRamp | stopRampEnds | earlyNotice | endTrip | endPending | shrinkGrants | addGrant | setRow | clearView | setTrip =>
    exact hs.of_queue (by simp [acknowledged, stopRampEnds])

theorem law6_reset (pins : Pins) (rest : List Instr) : Law6 { State.reset with pins := pins, pending := rest } := by
  simp [Law6, State.reset]

/-- Settles O49: of all moves only an offered firing brings a new source and subject into the queue. -/
theorem eventQueueStaysLawful : Obligations.EventQueueStaysLawful := fun _ _ hs h =>
  step_keeps (fun ha hs => hs.of_keys ha.queue) (fun m _ hs => law6_of_move m hs) law6_reset
    (fun _ _ hs => hs.of_queue (by simp)) h hs

end Sys2Proof.Machine
end

section
namespace Sys2Proof.Machine

variable {p q : Prop} {s t : State}

/-! ### Law 8: the grant list -/

/-- Outside OFFLINE, grants may go so long as the own number and RESET stand. -/
theorem Law8.of_online (hs : Law8 s) (hl : s.frh.lineState ≠ .offline) (hl' : t.frh.lineState ≠ .offline)
    (hg : t.rng.grants.Sublist s.rng.grants) (hstl : t.stl = s.stl) (hpins : t.pins = s.pins) : Law8 t := by
  obtain ⟨hlen, hnodup, hown, -, hreset⟩ := hs
  refine ⟨hg.length_le.trans hlen, hnodup.sublist (hg.map _), ?_, fun h => absurd h hl', fun h => ?_⟩
  · simp only [List.all_eq_true, ownNumber, hstl] at hown ⊢
    exact fun g h => hown g (hg.subset h)
  · exact absurd (hreset (hpins ▸ h)) hl

theorem law8_of_aside (ha : Aside s t) (hs : Law8 s) : Law8 t := by
  obtain ⟨hlen, hnodup, hown, hempty, hreset⟩ := hs
  refine ⟨by rwa [ha.grants], by rwa [ha.grants], ?_, by rwa [ha.grants, ha.lineState], ?_⟩
  · rcases ha.straps with h | h | ⟨h, -⟩
    · simp [ha.grants, hempty h]
    · simp [ha.grants, hempty (hreset h)]
    · rwa [ha.grants, ownNumber, h]
  · exact fun h => ha.lineState.trans (hreset (ha.resetLow h))

theorem law8_of_move (m : Move p q s t) (hl : s.frh.lineState ≠ .offline) (hs : Law8 s) : Law8 t := by
  have online := m.stays_online hl
  cases m with
  | aside ha => exact law8_of_aside ha hs
  | shrinkGrants g _ h => exact hs.of_online hl online h rfl rfl
  | addGrant a _ hroom hown hnew =>
    obtain ⟨-, hnodup, hall, -, hreset⟩ := hs
    refine ⟨by simpa using hroom, ?_, ?_, fun h => absurd h online, hreset⟩
    · simpa [List.nodup_append, hnodup, newGrant] using hnew
    · simp only [List.all_eq_true, bne_iff_ne] at hall
      simpa [newGrant, ownNumber] using ⟨hall, hown⟩
  | offer | scanNotice | enterTripFrame | enterClearFrame | enterDemandFrame | enterStateFrame | placeAsk | placeReply
  | beginAttempt | endAttempt | settle | dropReply | empty | activate | enterDuty | acknowledge | raiseRunReq | stageTarget
  | stageRamp | stopRampEnds | announceTrip | earlyNotice | endTrip | endPending | setRow | clearView | setTrip =>
    exact hs.of_online hl online (by simp [acknowledged, stopRampEnds]) (by simp [acknowledged, stopRampEnds])
      (by simp [acknowledged, stopRampEnds])

theorem law8_reset (pins : Pins) (rest : List Instr) : Law8 { State.reset with pins := pins, pending := rest } := by
  simp [Law8, State.reset]

/-- Settles O43: only an AGREE adds a grant, after the asker's earlier one has gone and where fewer than four are held. -/
theorem grantListStaysLawful : Obligations.GrantListStaysLawful := fun _ _ hs h => by
  refine step_keeps law8_of_aside law8_of_move law8_reset (fun hl hr hs => ?_) h hs
  obtain ⟨-, -, -, hempty, -⟩ := hs
  simp [Law8, hempty hl, hr]

/-! ### Law 12: the trip set -/

/-- Outside OFFLINE a change keeps law 12 where every station that stands in the trip set after it stood there before or holds a row
of role TURBINE in a WELL station, and where those rows keep their role. -/
theorem Law12.of_online (hs : Law12 s) (hl : s.frh.lineState ≠ .offline) (hl' : t.frh.lineState ≠ .offline)
    (hset : ∀ n, n < 32 → inTripSet t n = true →
      inTripSet s n = true ∨ ((rowOf s n).role = some .turbine ∧ hasRole s .well = true))
    (hrole : ∀ n, n < 32 → inTripSet t n = true → hasRole s .well = true → (rowOf s n).role = some .turbine →
      (rowOf t n).role = some .turbine)
    (hstl : t.stl = s.stl) (hpins : t.pins = s.pins) : Law12 t := by
  obtain ⟨hrows, -, hreset⟩ := hs
  refine ⟨fun n hn h => ?_, fun h => absurd h hl', fun h => absurd (hreset (hpins ▸ h)) hl⟩
  obtain ⟨hturbine, hwell⟩ : (rowOf s n).role = some .turbine ∧ hasRole s .well = true := (hset n hn h).elim (hrows n hn) id
  exact ⟨hrole n hn h hwell hturbine, by simpa [hasRole, roleOf, hstl] using hwell⟩

theorem law12_of_aside (ha : Aside s t) (hs : Law12 s) : Law12 t := by
  obtain ⟨hrows, hempty, hreset⟩ := hs
  have same (n : Nat) : inTripSet t n = inTripSet s n := by simp [inTripSet, ha.tripSet]
  refine ⟨fun n hn h => ?_, fun h n hn => (same n).trans (hempty (ha.lineState.symm.trans h) n hn), fun h =>
    ha.lineState.trans (hreset (ha.resetLow h))⟩
  rw [same] at h
  obtain ⟨hturbine, hwell⟩ := hrows n hn h
  have hstraps : t.stl.roleCode = s.stl.roleCode := by
    rcases ha.straps with e | e | ⟨-, e⟩
    · exact absurd h (by simp [hempty e n hn])
    · exact absurd h (by simp [hempty (hreset e) n hn])
    · exact e
  exact ⟨by rwa [rowOf_congr ha.rows], by simpa [hasRole, roleOf, hstraps] using hwell⟩

/-- The view clear leaves role TURBINE to the rows of the trip set in a WELL station (R50). -/
theorem clearView_role (s : State) {n : Nat} (hn : n < 32) (h : inTripSet s n = true) (hw : hasRole s .well = true) :
    (rowOf (clearView s) n).role = some .turbine := by
  unfold clearView
  dsimp only
  rw [rowOf_congr (noticeView_pvw _)]
  simp [rowOf, slotGet_slotMap (d := PeerRow.empty) (h := hn), h, hw]

/-- An announced trip enters its station and no other. -/
theorem announceTrip_tripSet (n c : Nat) (s : State) :
    (announceTrip n c s).dtu.tripSet = slotSet s.dtu.tripSet n (some c) := by
  obtain h | ⟨-, h | h⟩ := announceTrip_cases n c s <;> simp [h]

theorem inTripSet_setTripEntry (m : Nat) (c : Option Nat) (s : State) {n : Nat} (hn : n < 32) :
    inTripSet (setTripEntry m c s) n = if m = n then c.isSome else inTripSet s n := by
  simp only [inTripSet, setTripEntry, slotGet_slotSet, hn, and_true]
  split <;> rfl

theorem law12_of_move (m : Move p q s t) (hl : s.frh.lineState ≠ .offline) (hs : Law12 s) : Law12 t := by
  have online := m.stays_online hl
  cases m with
  | aside ha => exact law12_of_aside ha hs
  | announceTrip m c _ hr hw =>
    refine hs.of_online hl online (fun n hn h => ?_) (fun n _ _ _ h => by simpa [rowOf] using h) (by simp) (by simp)
    by_cases e : m = n
    · exact .inr (e ▸ ⟨hr, hw⟩)
    · exact .inl (by simpa [inTripSet, announceTrip_tripSet, slotGet_slotSet, e] using h)
  | endTrip m =>
    refine hs.of_online hl online (fun n hn h => .inl ?_) (fun n _ _ _ h => h) rfl rfl
    rw [inTripSet_setTripEntry m none _ hn] at h
    split at h
    · simp at h
    · exact h
  | setRow m r _ h =>
    refine hs.of_online hl online (fun n _ h => .inl h) (fun n hn _ _ hr => ?_) rfl rfl
    rw [rowOf_setRow m n r s hn]
    split
    · exact h _ (by simp_all)
    · exact hr
  | clearView =>
    have same (n : Nat) : inTripSet (clearView s) n = inTripSet s n := by simp [inTripSet]
    exact hs.of_online hl online (fun n _ h => .inl (same n ▸ h))
      (fun n hn h hw _ => clearView_role s hn (same n ▸ h) hw) (by simp) (by simp)
  | offer | scanNotice | enterTripFrame | enterClearFrame | enterDemandFrame | enterStateFrame | placeAsk | placeReply
  | beginAttempt | endAttempt | settle | dropReply | empty | activate | enterDuty | acknowledge | raiseRunReq | stageTarget
  | stageRamp | stopRampEnds | earlyNotice | endPending | shrinkGrants | addGrant | setTrip =>
    refine hs.of_online hl online (fun n _ h => .inl ?_) (fun n _ _ _ h => ?_) (by simp [acknowledged, stopRampEnds])
      (by simp [acknowledged, stopRampEnds])
    · simpa [inTripSet, acknowledged, stopRampEnds] using h
    · simpa [rowOf, acknowledged, stopRampEnds] using h

theorem law12_reset (pins : Pins) (rest : List Instr) : Law12 { State.reset with pins := pins, pending := rest } := by
  have hnone (n : Nat) (hn : n < 32) : inTripSet { State.reset with pins := pins, pending := rest } n = false := by
    simp [inTripSet, State.reset, slotGet, hn]
  exact ⟨fun n hn h => absurd h (by simp [hnone n hn]), fun _ => hnone, fun _ => rfl⟩

/-- Settles O39: a station enters the trip set with an accepted frame of a turbine, whose row then holds role TURBINE, and a row
that holds a role keeps it but for a view clear, which leaves the rows of the trip set theirs. -/
theorem tripSetStaysLawful : Obligations.TripSetStaysLawful := fun _ _ hs h => by
  refine step_keeps law12_of_aside law12_of_move law12_reset (fun {a} hl hr hs => ?_) h hs
  obtain ⟨-, hempty, -⟩ := hs
  exact ⟨fun n hn h => absurd h (by simpa [inTripSet] using hempty hl n hn), by simp, by simp [hr]⟩

end Sys2Proof.Machine
end

section
namespace Sys2Proof.Machine

variable {p q : Prop} {s t : State}

/-! ### Law 5: the outbox -/

/-- The greatest attempt count that an entry of a kind can hold between attempts (R36). -/
def countLimit (k : FrameKind) : Nat := if k = .trip ∨ k = .clear then 255 else 7

/-- An entry of kind `k` within its limit. -/
def EntryFits (k : FrameKind) (e : Entry) : Prop := e.payload.kind = k ∧ e.count ≤ countLimit k

/-- A slot of one entry, as law 5 wants it. -/
def SlotFits (k : FrameKind) (slot : Option Entry) : Prop := ∀ e, slot = some e → EntryFits k e

/-- The slot of the replies, as law 5 wants it. -/
structure RepliesFit (es : List Entry) : Prop where
  length_le : es.length ≤ 4
  fit : ∀ e ∈ es, EntryFits .restReply e
  nodup : (es.map addresseeOf).Nodup

/-- Law 5 of an outbox and the frame in flight, slot by slot. -/
structure OutboxLawful (o : Outbox) (f : Option InFlight) : Prop where
  trip : SlotFits .trip o.trip
  clear : SlotFits .clear o.clear
  replies : RepliesFit o.replies
  restAsk : SlotFits .restAsk o.restAsk
  demand : SlotFits .demand o.demand
  stateReport : SlotFits .stateReport o.stateReport
  flight : ∀ i, f = some i → i.entry.count ≤ countLimit i.entry.payload.kind
  doomed : o.trip.isSome = true → ∀ i, f = some i → i.entry.payload.kind = .clear → i.doomed = true

theorem slotFits_iff (k : FrameKind) (slot : Option Entry) :
    SlotFits k slot ↔ slotHolds k slot = true ∧ ∀ e, slot = some e → e.count ≤ countLimit k := by
  cases slot <;> simp [SlotFits, EntryFits, slotHolds]

theorem countLimit_slots : countLimit .trip = 255 ∧ countLimit .clear = 255 ∧ countLimit .restReply = 7 ∧
    countLimit .restAsk = 7 ∧ countLimit .demand = 7 ∧ countLimit .stateReport = 7 := by
  decide

/-- Law 5 is lawfulness of the outbox and the frame in flight. -/
theorem law5_iff (s : State) : Law5 s ↔ OutboxLawful s.frh.outbox s.frh.inFlight := by
  obtain ⟨lt, lc, lr, la, ld, ls⟩ := countLimit_slots
  have flight (i : InFlight) :
      (if i.entry.payload.kind = .trip ∨ i.entry.payload.kind = .clear then i.entry.count ≤ 255 else i.entry.count < 8) ↔
        i.entry.count ≤ countLimit i.entry.payload.kind := by
    unfold countLimit
    split <;> omega
  simp only [Law5, flight, List.all_append, Bool.and_eq_true, List.all_eq_true, Option.mem_toList, decide_eq_true_eq,
    Option.all_eq_true, Bool.or_eq_true, bne_iff_ne, beq_iff_eq]
  constructor
  · rintro ⟨ht, hc, ha, hd, hs, hlen, hr, hn, ⟨⟨⟨hr8, ha8⟩, hd8⟩, hs8⟩, ⟨ht255, hc255⟩, hf, hdoomed⟩
    exact
      { trip := (slotFits_iff _ _).mpr ⟨ht, by rwa [lt]⟩
        clear := (slotFits_iff _ _).mpr ⟨hc, by rwa [lc]⟩
        replies := ⟨hlen, fun e he => ⟨hr e he, by have := hr8 e he; omega⟩, hn⟩
        restAsk := (slotFits_iff _ _).mpr ⟨ha, fun e he => by have := ha8 e he; omega⟩
        demand := (slotFits_iff _ _).mpr ⟨hd, fun e he => by have := hd8 e he; omega⟩
        stateReport := (slotFits_iff _ _).mpr ⟨hs, fun e he => by have := hs8 e he; omega⟩
        flight := hf
        doomed := fun h i hi => (hdoomed h i hi).resolve_left ∘ not_not_intro }
  · rintro ⟨ht, hc, ⟨hlen, hr, hn⟩, ha, hd, hs, hf, hdoomed⟩
    have below {k : FrameKind} {slot : Option Entry} (hk : countLimit k = 7) (h : SlotFits k slot) :
        ∀ e, slot = some e → e.count < 8 := fun e he => by have := (h e he).2; omega
    refine ⟨((slotFits_iff _ _).mp ht).1, ((slotFits_iff _ _).mp hc).1, ((slotFits_iff _ _).mp ha).1,
      ((slotFits_iff _ _).mp hd).1, ((slotFits_iff _ _).mp hs).1, hlen, fun e he => (hr e he).1, hn,
      ⟨⟨⟨fun e he => ?_, below la ha⟩, below ld hd⟩, below ls hs⟩, ⟨fun e he => lt ▸ (ht e he).2, fun e he => lc ▸ (hc e he).2⟩,
      hf, fun h i hi => ?_⟩
    · have := (hr e he).2
      omega
    · exact or_iff_not_imp_left.mpr fun hk => hdoomed h i hi (not_not.mp hk)

theorem SlotFits.none (k : FrameKind) : SlotFits k none := fun _ h => by simp at h

theorem SlotFits.replacing {k : FrameKind} {slot : Option Entry} {x : Payload} (h : SlotFits k slot) (hx : x.kind = k) :
    SlotFits k (some (replacing slot x)) := by
  rintro _ ⟨⟩
  refine ⟨hx, ?_⟩
  cases slot with
  | none => simp [Machine.replacing]
  | some e => exact (h e rfl).2

theorem RepliesFit.sublist {es es' : List Entry} (h : RepliesFit es) (hsub : es'.Sublist es) : RepliesFit es' :=
  ⟨hsub.length_le.trans h.length_le, fun e he => h.fit e (hsub.subset he), h.nodup.sublist (hsub.map _)⟩

/-- A reply to an addressee that no waiting reply has, as the newest. -/
theorem RepliesFit.concat {es : List Entry} (h : RepliesFit es) (hroom : es.length < 4) {e : Entry}
    (he : EntryFits .restReply e) (hnew : ∀ x ∈ es, addresseeOf x ≠ addresseeOf e) : RepliesFit (es ++ [e]) where
  length_le := by simpa using hroom
  fit := by
    intro x hx
    obtain hx | rfl := by simpa using hx
    · exact h.fit x hx
    · exact he
  nodup := by
    simp only [List.map_append, List.map_cons, List.map_nil]
    exact h.nodup.append (List.nodup_singleton _) (by simpa [List.disjoint_singleton] using hnew)

/-- Entries that change in place, each keeping its addressee. -/
theorem RepliesFit.map {es : List Entry} (h : RepliesFit es) {g : Entry → Entry}
    (hg : ∀ e ∈ es, EntryFits .restReply (g e) ∧ addresseeOf (g e) = addresseeOf e) : RepliesFit (es.map g) where
  length_le := by simpa using h.length_le
  fit := by simpa using fun e he => (hg e he).1
  nodup := by
    have same : (es.map g).map addresseeOf = es.map addresseeOf := by
      simpa using fun e he => (hg e he).2
    rw [same]
    exact h.nodup

theorem RepliesFit.join {es : List Entry} (h : RepliesFit es) (a : Nat) (x : Octet) (v : Verdict) :
    RepliesFit (joinReplies es a (.restReply a x v)).1 := by
  have fresh : EntryFits .restReply (replacing none (.restReply a x v)) := ⟨rfl, by simp [replacing]⟩
  unfold joinReplies
  split
  · refine h.map fun e he => ?_
    split
    · rename_i ha
      exact ⟨⟨rfl, (h.fit e he).2⟩, by simp_all [addresseeOf, replacing]⟩
    · exact ⟨h.fit e he, rfl⟩
  · rename_i hnew
    have hnew : ∀ e ∈ es, addresseeOf e ≠ some a := by simpa using hnew
    split
    · exact h.concat ‹_› fresh hnew
    · have htail : es.tail.length < 4 := by
        have := h.length_le
        simp
        omega
      exact (h.sublist es.tail_sublist).concat htail fresh fun e he => hnew e (List.mem_of_mem_tail he)

theorem doomClear_eq (f : Option InFlight) (i : InFlight) (h : doomClear f = some i) :
    ∃ j, f = some j ∧ i.entry = j.entry ∧ (j.entry.payload.kind = .clear → i.doomed = true) := by
  unfold doomClear at h
  cases f with
  | none => simp at h
  | some j =>
    refine ⟨j, rfl, ?_⟩
    simp only [Option.map_some, Option.some.injEq] at h
    split at h <;> subst h
    · exact ⟨rfl, fun _ => rfl⟩
    · exact ⟨rfl, fun hk => absurd hk ‹_›⟩

theorem OutboxLawful.placeTrip {o : Outbox} {f : Option InFlight} (h : OutboxLawful o f) (c : TripCause) :
    OutboxLawful { o with trip := some (replacing o.trip (.trip c)), clear := none } (doomClear f) where
  trip := h.trip.replacing rfl
  clear := .none _
  replies := h.replies
  restAsk := h.restAsk
  demand := h.demand
  stateReport := h.stateReport
  flight := fun i hi => by
    obtain ⟨j, hj, he, -⟩ := doomClear_eq f i hi
    exact he ▸ h.flight j hj
  doomed := fun _ i hi hk => by
    obtain ⟨j, -, he, hd⟩ := doomClear_eq f i hi
    exact hd (he ▸ hk)

/-- With no frame in flight. -/
theorem OutboxLawful.land {o : Outbox} {f : Option InFlight} (h : OutboxLawful o f) : OutboxLawful o none :=
  { h with flight := fun _ hi => by simp at hi, doomed := fun _ _ hi => by simp at hi }

theorem firstEntry_fits {o : Outbox} {f : Option InFlight} (h : OutboxLawful o f) {e : Entry}
    (he : firstEntry o = some e) : e.count ≤ countLimit e.payload.kind := by
  have own {k : FrameKind} (hf : EntryFits k e) : e.count ≤ countLimit e.payload.kind := hf.1 ▸ hf.2
  unfold firstEntry at he
  split at he
  case h_6 => exact own (h.stateReport e he)
  all_goals obtain rfl := Option.some.inj he
  · exact own (h.trip _ ‹_›)
  · exact own (h.clear _ ‹_›)
  · exact own (h.replies.fit _ (by simp_all))
  · exact own (h.restAsk _ ‹_›)
  · exact own (h.demand _ ‹_›)

/-- The first entry leaves its slot, and no TRIP waits behind it (R34). -/
theorem withoutFirst_lawful {o : Outbox} {f : Option InFlight} (h : OutboxLawful o f) :
    OutboxLawful (withoutFirst o) none ∧ (withoutFirst o).trip = none := by
  have landed := h.land
  unfold withoutFirst
  split
  · exact ⟨{ landed with trip := .none _, doomed := fun _ _ hi => by simp at hi }, rfl⟩
  · exact ⟨{ landed with clear := .none _ }, ‹_›⟩
  · rename_i hr
    exact ⟨{ landed with replies := h.replies.sublist (by simp [hr]) }, ‹_›⟩
  · exact ⟨{ landed with restAsk := .none _ }, ‹_›⟩
  · exact ⟨{ landed with demand := .none _ }, ‹_›⟩
  · exact ⟨{ landed with stateReport := .none _ }, ‹_›⟩

/-- The first entry takes its number and goes on the line. -/
theorem OutboxLawful.begin {o : Outbox} {f : Option InFlight} (h : OutboxLawful o f) {e : Entry}
    (he : firstEntry o = some e) (x : Option Octet) :
    OutboxLawful (withoutFirst o) (some { entry := { e with seq := x }, doomed := false }) := by
  obtain ⟨hslots, htrip⟩ := withoutFirst_lawful h
  refine { hslots with flight := ?_, doomed := fun hsome => by simp [htrip] at hsome }
  have fits := firstEntry_fits h he
  rintro _ ⟨⟩
  exact fits

theorem failedEntry_payload (e : Entry) : (failedEntry e).payload = e.payload := by
  unfold failedEntry
  split <;> rfl

/-- The failed frame's slot, before the attempt-limit check, holds an entry of the kind with the failed frame's count. -/
theorem settledSlot_fits {k : FrameKind} {slot : Option Entry} {f : InFlight} (h : SlotFits k slot)
    (hk : f.entry.payload.kind = k) (e : Entry) (he : settledSlot slot f = some e) :
    e.payload.kind = k ∧ e.count = (failedEntry f.entry).count := by
  unfold settledSlot at he
  split at he
  · rename_i newer
    obtain rfl := Option.some.inj he
    exact ⟨(h newer rfl).1, rfl⟩
  · split at he
    · simp at he
    · obtain rfl := Option.some.inj he
      exact ⟨by rw [failedEntry_payload, hk], rfl⟩

/-- TRIP and CLEAR count to 255 and no further. -/
theorem settledSlot_saturates {k : FrameKind} {slot : Option Entry} {f : InFlight} (h : SlotFits k slot)
    (hk : f.entry.payload.kind = k) (hs : k = .trip ∨ k = .clear) : SlotFits k (settledSlot slot f) := by
  intro e he
  obtain ⟨hkind, hcount⟩ := settledSlot_fits h hk e he
  refine ⟨hkind, hcount ▸ ?_⟩
  rcases hs with rfl | rfl <;> simp [failedEntry, hk, countLimit]

/-- The attempt-limit check leaves the slot an entry below 8 (R36). -/
theorem settledSlot_limited {k : FrameKind} {slot : Option Entry} {f : InFlight} (h : SlotFits k slot)
    (hk : f.entry.payload.kind = k) (hs : ¬ (k = .trip ∨ k = .clear)) :
    SlotFits k ((settledSlot slot f).filter (!atLimit ·)) := by
  intro e he
  obtain ⟨he, hlimit⟩ := Option.filter_eq_some_iff.mp he
  refine ⟨(settledSlot_fits h hk e he).1, ?_⟩
  simp only [atLimit, Bool.not_eq_true', decide_eq_false_iff_not] at hlimit
  simp only [countLimit, if_neg hs]
  omega

/-- Of replies to different addressees, one of which alone can be at the limit, none at the limit is left by its removal. -/
theorem below_of_eraseP {es : List Entry} {a : Option Nat} (hn : (es.map addresseeOf).Nodup)
    (ha : ∀ e ∈ es, atLimit e = true → addresseeOf e = a) : ∀ e ∈ es.eraseP atLimit, atLimit e = false := by
  induction es with
  | nil => simp
  | cons x es ih =>
    simp only [List.map_cons, List.nodup_cons, List.mem_map, not_exists, not_and] at hn
    simp only [List.mem_cons, forall_eq_or_imp] at ha
    cases hx : atLimit x with
    | true =>
      simp only [List.eraseP_cons, hx, cond_true]
      intro e he
      by_contra hlimit
      exact hn.1 e he ((ha.2 e he (by simpa using hlimit)).trans (ha.1 hx).symm)
    | false =>
      simp only [List.eraseP_cons, hx, cond_false, List.mem_cons, forall_eq_or_imp]
      exact ⟨trivial, ih hn.2 ha.2⟩

theorem addresseeOf_failed (e : Entry) : addresseeOf (failedEntry e) = addresseeOf e := by
  simp [addresseeOf, failedEntry_payload]

/-- Replies of which those at the limit go to one addressee, once the oldest at the limit is removed. -/
theorem RepliesFit.of_eraseP {es : List Entry} {a : Option Nat} (hlen : es.length ≤ 4)
    (hk : ∀ e ∈ es, e.payload.kind = .restReply) (hn : (es.map addresseeOf).Nodup)
    (ha : ∀ e ∈ es, atLimit e = true → addresseeOf e = a) : RepliesFit (es.eraseP atLimit) where
  length_le := List.eraseP_sublist.length_le.trans hlen
  fit := fun e he => by
    refine ⟨hk e (List.eraseP_sublist.subset he), ?_⟩
    have hbelow := below_of_eraseP hn ha e he
    simp only [atLimit, decide_eq_false_iff_not] at hbelow
    simp [countLimit]
    omega
  nodup := hn.sublist (List.eraseP_sublist.map _)

/-- A reply within its limit is not at it. -/
theorem EntryFits.not_atLimit {e : Entry} (h : EntryFits .restReply e) : atLimit e = false := by
  have := h.2
  simp [countLimit] at this
  simp [atLimit]
  omega

/-- The failed reply gives up its place to a newer one, returns as the oldest, or goes; none at the limit is left. -/
theorem RepliesFit.settle {es : List Entry} {f : InFlight} (h : RepliesFit es) (hk : f.entry.payload.kind = .restReply) :
    RepliesFit ((settledReplies es f).1.eraseP atLimit) := by
  obtain e | ⟨hnew, hroom, e⟩ | e := settledReplies_cases es f <;> rw [e]
  · have same : ∀ x ∈ es, addresseeOf (if addresseeOf x == addresseeOf f.entry then
        { x with count := (failedEntry f.entry).count } else x) = addresseeOf x := fun x _ => by split <;> rfl
    refine RepliesFit.of_eraseP (a := addresseeOf f.entry) (by simpa using h.length_le) ?_ ?_ ?_
    · simp only [List.mem_map, forall_exists_index, and_imp, forall_apply_eq_imp_iff₂]
      intro x hx
      split <;> exact (h.fit x hx).1
    · simp only [List.map_map, Function.comp_def]
      rw [List.map_congr_left same]
      exact h.nodup
    · simp only [List.mem_map, forall_exists_index, and_imp, forall_apply_eq_imp_iff₂]
      intro x hx
      split
      · rename_i ha
        exact fun _ => by simpa [addresseeOf] using ha
      · exact fun hlimit => absurd hlimit (by simp [(h.fit x hx).not_atLimit])
  · refine RepliesFit.of_eraseP (a := addresseeOf f.entry) (by simpa using hroom) ?_ ?_ ?_
    · simpa [failedEntry_payload, hk] using fun x hx => (h.fit x hx).1
    · simpa [addresseeOf_failed, h.nodup] using hnew
    · simp only [List.mem_cons, forall_eq_or_imp]
      exact ⟨fun _ => addresseeOf_failed _, fun x hx hlimit => absurd hlimit (by simp [(h.fit x hx).not_atLimit])⟩
  · exact h.sublist List.eraseP_sublist

theorem OutboxLawful.settle {o : Outbox} {f : InFlight} (h : OutboxLawful o (some f)) :
    OutboxLawful (withinLimit f.entry.payload.kind (settledOutbox f o)) none := by
  have landed := h.land
  unfold settledOutbox
  cases hk : f.entry.payload.kind with
  | trip => exact { landed with trip := settledSlot_saturates h.trip hk (.inl rfl), doomed := fun _ _ hi => by simp at hi }
  | clear => exact { landed with clear := settledSlot_saturates h.clear hk (.inr rfl) }
  | restReply => exact { landed with replies := h.replies.settle hk }
  | restAsk => exact { landed with restAsk := settledSlot_limited h.restAsk hk (by simp) }
  | demand => exact { landed with demand := settledSlot_limited h.demand hk (by simp) }
  | stateReport => exact { landed with stateReport := settledSlot_limited h.stateReport hk (by simp) }

end Sys2Proof.Machine
end

section
namespace Sys2Proof.Machine

variable {p q : Prop} {s t : State}

/-! ### Law 5 along the moves -/

theorem Law5.of_frh (ho : t.frh.outbox = s.frh.outbox) (hf : t.frh.inFlight = s.frh.inFlight) (hs : Law5 s) : Law5 t := by
  rw [law5_iff] at hs ⊢
  rwa [ho, hf]

theorem OutboxLawful.empty : OutboxLawful Outbox.empty none where
  trip := .none _
  clear := .none _
  replies := ⟨by decide, by simp [Outbox.empty], by simp [Outbox.empty]⟩
  restAsk := .none _
  demand := .none _
  stateReport := .none _
  flight := by simp
  doomed := by simp

/-- A selection touches neither the outbox nor the frame in flight. -/
theorem law5_select (h : OutboxLawful s.frh.outbox s.frh.inFlight) : Law5 (select s) :=
  ((law5_iff s).mpr h).of_frh (by simp) (by simp)

theorem enterTripFrame_law5 (c : TripCause) (hs : Law5 s) : Law5 (enterTripFrame c s) := by
  unfold enterTripFrame
  split
  · exact law5_select (((law5_iff s).mp hs).placeTrip c)
  · exact hs

theorem enterClearFrame_law5 (hs : Law5 s) : Law5 (enterClearFrame s) := by
  have lawful := (law5_iff s).mp hs
  unfold enterClearFrame
  dsimp only
  split
  · exact law5_select { lawful with clear := lawful.clear.replacing rfl }
  · exact hs

theorem enterDemandFrame_law5 (d c : Nat) (hs : Law5 s) : Law5 (enterDemandFrame d c s) := by
  have lawful := (law5_iff s).mp hs
  unfold enterDemandFrame
  dsimp only
  split
  · exact law5_select { lawful with demand := lawful.demand.replacing rfl }
  · exact hs

theorem enterStateFrame_law5 (hs : Law5 s) : Law5 (enterStateFrame s) := by
  have lawful := (law5_iff s).mp hs
  unfold enterStateFrame
  dsimp only
  split
  · exact law5_select { lawful with stateReport := lawful.stateReport.replacing rfl }
  · exact hs

/-- A change of C_own reaches the outbox by its STATE entry alone (R81). -/
theorem capacityChanged_law5 (hs : Law5 s) : Law5 (capacityChanged s) := by
  have written : Law5 (writeQuantity 5 .valid (cOwn s) s) := hs.of_frh (by simp) (by simp)
  unfold capacityChanged
  dsimp only
  split
  · exact (enterStateFrame_law5 written).of_frh (by simp) (by simp)
  · exact written.of_frh (by simp) (by simp)

theorem moveDerate_law5 (total quiet : Nat) (hs : Law5 s) : Law5 (moveDerate total quiet s) := by
  have set : Law5 (setDerate total quiet s) := hs.of_frh (by simp) (by simp)
  unfold moveDerate
  dsimp only
  split
  · exact set
  · exact capacityChanged_law5 set

theorem scanNotice_law5 (hs : Law5 s) : Law5 (scanNotice s) := by
  unfold scanNotice
  dsimp only
  split
  · exact moveDerate_law5 _ _ hs
  · exact hs.of_frh (by simp) (by simp)

theorem channelAction_law5 (m : Mode) (hs : Law5 s) : Law5 (channelAction m s) := by
  cases m with
  | pulse0 => exact hs.of_frh rfl rfl
  | pulse1 => exact hs.of_frh rfl rfl
  | derate => exact moveDerate_law5 _ _ hs
  | count => exact hs

/-- A firing reaches the outbox by the derate step of a channel alone (R178). -/
theorem offer_law5 (f : Firing) (hs : Law5 s) : Law5 (offer f s) := by
  unfold offer
  split
  · rename_i n _
    have acted := channelAction_law5 (slotGet s.evu.channels n Channel.unbound).mode hs
    unfold channelActs
    dsimp only
    split <;> exact acted.of_frh (by simp) (by simp)
  · exact hs.of_frh (by simp) (by simp)

/-- The first entry leaves its slot and is the frame in flight, with its number (R24, R34). -/
theorem beginAttempt_frh {e : Entry} (he : firstEntry s.frh.outbox = some e) :
    (beginAttempt s).frh.outbox = withoutFirst s.frh.outbox ∧
      (beginAttempt s).frh.inFlight =
        some { entry := { e with seq := some (e.seq.getD s.frh.nextSeq) }, doomed := false } := by
  simp only [beginAttempt, he]
  split <;> simp

theorem beginAttempt_law5 (hs : Law5 s) : Law5 (beginAttempt s) := by
  cases he : firstEntry s.frh.outbox with
  | none => simpa [beginAttempt, he] using hs
  | some e =>
    obtain ⟨ho, hf⟩ := beginAttempt_frh he
    rw [law5_iff, ho, hf]
    exact ((law5_iff s).mp hs).begin he _

theorem law5_of_move (m : Move p q s t) (hs : Law5 s) : Law5 t := by
  have lawful := (law5_iff s).mp hs
  cases m with
  | aside ha => exact hs.of_frh ha.outbox ha.inFlight
  | offer f => exact offer_law5 f hs
  | scanNotice => exact scanNotice_law5 hs
  | enterTripFrame c => exact enterTripFrame_law5 c hs
  | enterClearFrame => exact enterClearFrame_law5 hs
  | enterDemandFrame d c => exact enterDemandFrame_law5 d c hs
  | enterStateFrame => exact enterStateFrame_law5 hs
  | placeAsk c => exact (law5_iff _).mpr { lawful with restAsk := lawful.restAsk.replacing rfl }
  | placeReply a x v => exact (law5_iff _).mpr { lawful with replies := lawful.replies.join a x v }
  | beginAttempt => exact beginAttempt_law5 hs
  | endAttempt => exact (law5_iff _).mpr lawful.land
  | settle f _ hf => exact (law5_iff _).mpr (hf ▸ lawful).settle
  | dropReply => exact (law5_iff _).mpr { lawful with replies := lawful.replies.sublist List.eraseP_sublist }
  | empty l x _ _ =>
    exact (law5_iff _).mpr .empty
  | announceTrip n c =>
    have offered : Law5 (Machine.offer (fire 25 n c) (setTripEntry n (some c) s)) :=
      offer_law5 _ (hs.of_frh (by simp) (by simp))
    obtain h | ⟨-, h | h⟩ := announceTrip_cases n c s
    · exact offered.of_frh (by simp [h]) (by simp [h])
    · exact hs.of_frh (by simp [h]) (by simp [h])
    · exact h ▸ offered
  | activate | enterDuty | acknowledge | raiseRunReq | stageTarget
  | stageRamp | stopRampEnds | earlyNotice | endTrip | endPending | shrinkGrants | addGrant | setRow | clearView | setTrip =>
    exact hs.of_frh (by simp [acknowledged, stopRampEnds]) (by simp [acknowledged, stopRampEnds])

theorem law5_reset (pins : Pins) (rest : List Instr) : Law5 { State.reset with pins := pins, pending := rest } :=
  (law5_iff _).mpr .empty

/-! ### The trip state and its frames (R149, R150) -/

/-- A change of the trip state in a station that keeps entries stands announced in its outbox: a trip by a TRIP and no CLEAR, its
end by a CLEAR behind whatever the TRIP slot held. -/
def TripAnnounced (s t : State) : Prop :=
  keepsEntries t = true → t.srg.trip ≠ s.srg.trip →
    (t.srg.trip ≠ .normal → t.frh.outbox.trip.isSome = true ∧ t.frh.outbox.clear = none) ∧
    (t.srg.trip = .normal → t.frh.outbox.trip = s.frh.outbox.trip ∧ t.frh.outbox.clear.isSome = true)

theorem TripAnnounced.of_same (h : t.srg.trip = s.srg.trip) : TripAnnounced s t := fun _ hne => absurd h hne

/-- What leaves the line state, the trip state and the two slots alone leaves the announcement. -/
theorem TripAnnounced.frame {u : State} (h : TripAnnounced s t) (hl : u.frh.lineState = t.frh.lineState)
    (ht : u.srg.trip = t.srg.trip) (hto : u.frh.outbox.trip = t.frh.outbox.trip)
    (hco : u.frh.outbox.clear = t.frh.outbox.clear) : TripAnnounced s u := by
  simpa only [TripAnnounced, keepsEntries, hl, ht, hto, hco] using h

theorem announceOwnTrip_announced (c : TripCause) (r : State) (hr : s.srg.trip ≠ .normal) :
    TripAnnounced r (announceOwnTrip c s) := by
  intro hk _
  have hk : keepsEntries s = true := by simpa [keepsEntries] using hk
  have hs : (announceOwnTrip c s).srg = s.srg := by simp [announceOwnTrip]
  refine ⟨fun _ => ?_, fun h => absurd (hs ▸ h) hr⟩
  simp [announceOwnTrip, enterTripFrame, hk, placeTrip]

theorem enterTripped_announced (c : TripCause) (r s : State) : TripAnnounced r (enterTripped c s) :=
  announceOwnTrip_announced c r (by simp)

theorem leaveTripped_announced (s : State) : TripAnnounced s (leaveTripped s) := by
  intro hk _
  have hk : keepsEntries s = true := by simpa [leaveTripped, keepsEntries] using hk
  have hn : (leaveTripped s).srg.trip = .normal := by simp [leaveTripped]
  refine ⟨fun h => absurd hn h, fun _ => ⟨by simp [leaveTripped], ?_⟩⟩
  simp [leaveTripped, enterClearFrame, keepsEntries] at hk ⊢
  simp [hk]

theorem tripInActs_announced (s : State) : TripAnnounced s (tripInActs s) := by
  unfold tripInActs
  split
  · exact enterTripped_announced _ s s
  · exact announceOwnTrip_announced _ s (by simp)
  · exact .of_same rfl

theorem tripTests_announced (x : Quantity) (s : State) : TripAnnounced s (tripTests x s) := by
  unfold tripTests
  split <;> split
  · exact enterTripped_announced _ s s
  · exact .of_same rfl
  · exact leaveTripped_announced s
  · exact .of_same rfl

/-- Only the moves of R147 to R150 change the trip state. -/
theorem Moves.keeps_trip (m : Moves p q s t) (hq : ¬ q) : t.srg.trip = s.srg.trip := by
  refine m.keeps (P := fun x => x.srg.trip = s.srg.trip) (fun a b m h => ?_) rfl
  cases m with
  | aside ha => exact ha.trip.trans h
  | setTrip _ _ hq' => exact absurd hq' hq
  | offer | scanNotice | enterTripFrame | enterClearFrame | enterDemandFrame | enterStateFrame | placeAsk | placeReply
  | beginAttempt | endAttempt | settle | dropReply | empty | activate | enterDuty | acknowledge | raiseRunReq | stageTarget
  | stageRamp | stopRampEnds | announceTrip | earlyNotice | endTrip | endPending | shrinkGrants | addGrant | setRow
  | clearView =>
    simpa [acknowledged, Machine.stopRampEnds] using h

/-- The demand of a tick and its frame leave the trip state and its frames alone. -/
theorem turbineShare_announced (s : State) : TripAnnounced s (turbineShare s) := by
  have tested := tripTests_announced (quantityOf s 0) s
  have demanded : TripAnnounced s (setDemand (quantityOf s 0) (tripTests (quantityOf s 0) s)) :=
    tested.frame (by simp) (((Moves.refl False False _).setDemand _).keeps_trip id) (by simp) (by simp)
  unfold turbineShare
  dsimp only
  split <;> exact demanded.frame (by simp) (by simp) (by simp) (by simp)

theorem completeLoad_announced {r u : State} (h : u.srg.trip = r.srg.trip) : TripAnnounced r (completeLoad u) := by
  have joined : (enterJoining (startLinks (takeSettings u))).srg.trip = u.srg.trip := by simp [startLinks, takeSettings]
  unfold completeLoad
  dsimp only
  split
  · exact enterTripped_announced _ r _
  · exact .of_same (joined.trans h)

theorem exec_announced {c : Instr} (h : exec c s = .next t) : TripAnnounced s t := by
  by_cases hc : c = .hardReset
  · subst hc
    obtain rfl := Host.Outcome.next.inj h
    exact fun hk => absurd hk (by simp [keepsEntries, State.reset])
  cases hw : works s with
  | false =>
    obtain ⟨t', e, ha | ⟨u, hu, -, -, rfl⟩⟩ := exec_resting c s hc hw
    all_goals obtain rfl := Host.Outcome.next.inj (h.symm.trans e)
    · exact .of_same ha.trip
    · exact completeLoad_announced hu.trip
  | true =>
    obtain ⟨t', e, m⟩ := exec_moves c s hc hw
    obtain rfl := Host.Outcome.next.inj (h.symm.trans e)
    by_cases hm : mayTrip s c
    · cases c with
      | tripInActive =>
        obtain rfl := Host.Outcome.next.inj h
        split
        · exact .of_same rfl
        · dsimp only
          split
          · exact tripInActs_announced (setSrg { s.srg with tripIn := true } s)
          · exact .of_same rfl
      | shareTick =>
        have hrole : roleOf s = some .turbine := hm
        simp only [exec, execShareTick, hw, if_true, shareTick, hrole] at h
        exact Host.Outcome.next.inj h ▸ turbineShare_announced s
      | _ => exact absurd hm id
    · exact .of_same (m.keeps_trip hm)

theorem step_announced (h : step s = .next t) : TripAnnounced s t := by
  unfold step at h
  split at h
  · obtain rfl := Host.Outcome.next.inj h
    exact .of_same (idle_aside s).trip
  · rename_i rest _
    exact exec_announced (s := { s with pending := rest }) h

/-- Settles O50: a slot takes an entry of its own kind over the count of the one it replaces, a failed frame that returns is held
to the limit in the same move, and a TRIP marks the CLEAR in flight; the trip state changes with its frame. -/
theorem outboxStaysLawful : Obligations.OutboxStaysLawful := fun _ _ hs h =>
  ⟨step_keeps (fun ha hs => hs.of_frh ha.outbox ha.inFlight) (fun m _ hs => law5_of_move m hs) law5_reset
    (fun _ _ _ => (law5_iff _).mpr (by simpa using OutboxLawful.empty)) h hs, step_announced h⟩

end Sys2Proof.Machine
end

section
namespace Sys2Proof.Machine

variable {p q : Prop} {s t u : State}

/-! ### Laws 1 to 3: the drive -/

/-- The drive side of a safe state but for the trip flow and for OFFLINE. -/
structure DriveLawful (s : State) : Prop where
  order : FlowOrder s.settings
  handshake : Handshake s
  law1 : Law1 s
  law2 : Law2 s
  bounds : s.dtu.duty.runs = true → s.settings.fMin ≤ s.dtu.target ∧ s.dtu.target ≤ capacityCeiling s
  target_le : s.dtu.target ≤ s.settings.cRated
  target_rest : s.dtu.duty = .resting ∨ s.dtu.duty = .fault → s.dtu.target = 0

/-- The target is held to the trip flow, as a trip in force wants it (law 3). -/
def HoldsTripFlow (s : State) : Prop := s.dtu.duty.runs = true → s.dtu.target ≤ s.settings.tripFlow

theorem driveSafe_iff (s : State) :
    DriveSafe s ↔ DriveLawful s ∧ (tripInForce s = true → HoldsTripFlow s) ∧ OfflineAtRest s := by
  constructor
  · rintro ⟨horder, hoff, hshake, h1, h2, h3, hle, hrest⟩
    exact ⟨⟨horder, hshake, h1, h2, fun hr => ⟨(h3 hr).1, (h3 hr).2.1⟩, hle, hrest⟩, fun hf hr => (h3 hr).2.2 hf, hoff⟩
  · rintro ⟨⟨horder, hshake, h1, h2, hb, hle, hrest⟩, htrip, hoff⟩
    exact ⟨horder, hoff, hshake, h1, h2, fun hr => ⟨(hb hr).1, (hb hr).2, fun hf => htrip hf hr⟩, hle, hrest⟩

/-- The drive goes on as it was, but for a derate that lowers the target of a running pump to what is left (R81). -/
structure Calm (s t : State) : Prop where
  settings : t.settings = s.settings
  duty : t.dtu.duty = s.dtu.duty
  setpoint : t.dtu.setpoint = s.dtu.setpoint
  runReq : t.dtu.runReq = s.dtu.runReq
  startTimer : t.dtu.startTimer = s.dtu.startTimer
  warmTimer : t.dtu.warmTimer = s.dtu.warmTimer
  stopTimer : t.dtu.stopTimer = s.dtu.stopTimer
  recallTimer : t.dtu.recallTimer = s.dtu.recallTimer ∨ t.dtu.recallTimer = .stopped ∨ s.dtu.duty = .resting
  derate : s.dtu.derateTotal ≤ s.settings.cRated → t.dtu.derateTotal ≤ s.settings.cRated
  target : (t.dtu.target = s.dtu.target ∧ (s.dtu.duty.runs = true → t.dtu.derateTotal = s.dtu.derateTotal)) ∨
    (s.dtu.duty.runs = true ∧ t.dtu.target = min s.dtu.target (capacityCeiling t))

theorem Calm.target_le (c : Calm s t) : t.dtu.target ≤ s.dtu.target := by
  rcases c.target with ⟨h, -⟩ | ⟨-, h⟩ <;> simp [h]

/-- A pump that does not run keeps its target. -/
theorem Calm.target_same (c : Calm s t) (h : s.dtu.duty.runs = false) : t.dtu.target = s.dtu.target := by
  rcases c.target with ⟨e, -⟩ | ⟨e, -⟩
  · exact e
  · simp [h] at e

theorem Calm.handshake (c : Calm s t) (h : Handshake s) : Handshake t := by
  obtain ⟨hwarm, hstart, hstop, hrecall, hruns, hrest⟩ := h
  simp only [Handshake, c.settings, c.duty, c.runReq, c.startTimer, c.warmTimer, c.stopTimer]
  refine ⟨fun hw => ?_, hstart, hstop, fun hr => ?_, hruns, hrest⟩
  · obtain ⟨hd, hq, hs, htarget⟩ := hwarm hw
    exact ⟨hd, hq, hs, (c.target_same (by simp [hd, Duty.runs])).trans htarget⟩
  · rcases c.recallTimer with e | e | e
    · exact hrecall (e ▸ hr)
    · exact absurd e hr
    · exact e

theorem Calm.bounds (c : Calm s t)
    (h : s.dtu.duty.runs = true → s.settings.fMin ≤ s.dtu.target ∧ s.dtu.target ≤ capacityCeiling s)
    (hr : t.dtu.duty.runs = true) : t.settings.fMin ≤ t.dtu.target ∧ t.dtu.target ≤ capacityCeiling t := by
  have hr : s.dtu.duty.runs = true := c.duty ▸ hr
  obtain ⟨hlow, hhigh⟩ := h hr
  have hfloor : t.settings.fMin ≤ capacityCeiling t := le_max_right _ _
  rcases c.target with ⟨htarget, hderate⟩ | ⟨-, htarget⟩
  · have hceiling : capacityCeiling t = capacityCeiling s := by simp [capacityCeiling, cOwn, c.settings, hderate hr]
    rw [htarget, hceiling, c.settings]
    exact ⟨hlow, hhigh⟩
  · rw [htarget]
    exact ⟨le_min (c.settings ▸ hlow) hfloor, min_le_right _ _⟩

theorem Calm.lawful (c : Calm s t) (h : DriveLawful s) : DriveLawful t where
  order := c.settings ▸ h.order
  handshake := c.handshake h.handshake
  law1 := by simpa only [Law1, c.settings, c.duty, c.setpoint] using h.law1
  law2 := by
    have := c.derate h.law2.1
    simp only [Law2, cOwn, c.settings]
    omega
  bounds := c.bounds h.bounds
  target_le := c.settings ▸ c.target_le.trans h.target_le
  target_rest := fun hd => by
    have := h.target_rest (c.duty ▸ hd)
    have := c.target_le
    omega

theorem Calm.holdsTripFlow (c : Calm s t) (h : HoldsTripFlow s) : HoldsTripFlow t := by
  intro hr
  have := h (c.duty ▸ hr)
  have := c.target_le
  rw [c.settings]
  omega

theorem Calm.of_dtu (hd : t.dtu = s.dtu) (hc : t.settings = s.settings) : Calm s t := by
  constructor <;> simp [hd, hc]

theorem Calm.of_aside (ha : Aside s t) : Calm s t where
  settings := ha.settings
  duty := ha.duty
  setpoint := ha.setpoint
  runReq := ha.runReq
  startTimer := ha.startTimer
  warmTimer := ha.warmTimer
  stopTimer := ha.stopTimer
  recallTimer := ha.recallTimer
  derate := fun h => ha.derateTotal ▸ h
  target := .inl ⟨ha.target, fun _ => ha.derateTotal⟩

theorem sendWord_calm (s : State) : Calm s (sendWord s) := .of_aside (sendWord_aside s)

/-- A calm change goes on through what leaves target and derate total alone. -/
theorem Calm.append (c : Calm s t) (k : Calm t u) (htarget : u.dtu.target = t.dtu.target)
    (hderate : u.dtu.derateTotal = t.dtu.derateTotal) : Calm s u where
  settings := k.settings.trans c.settings
  duty := k.duty.trans c.duty
  setpoint := k.setpoint.trans c.setpoint
  runReq := k.runReq.trans c.runReq
  startTimer := k.startTimer.trans c.startTimer
  warmTimer := k.warmTimer.trans c.warmTimer
  stopTimer := k.stopTimer.trans c.stopTimer
  recallTimer := by
    have hr := c.recallTimer
    have hk := k.recallTimer
    rw [c.duty] at hk
    rcases hk with e | e
    · rwa [e]
    · exact .inr e
  derate := hderate ▸ c.derate
  target := by
    have hceiling : capacityCeiling u = capacityCeiling t := by simp [capacityCeiling, cOwn, k.settings, hderate]
    simpa only [htarget, hderate, hceiling] using c.target

theorem lowerTarget_calm (x : Nat) (h : x ≤ s.settings.cRated) (hc : t.settings = s.settings)
    (hd : ∃ y, t.dtu = { s.dtu with derateTotal := x, quietCount := y }) : Calm s (lowerTarget t) := by
  obtain ⟨y, hd⟩ := hd
  cases hr : s.dtu.duty.runs with
  | true =>
    constructor <;> simp [hc, hd, h]
    exact .inr ⟨hr, by simp [lowerTarget, hd, hr, capacityCeiling, cOwn]⟩
  | false =>
    constructor <;> simp [hc, hd, h]
    exact .inl ⟨by simp [lowerTarget, hd, hr], by simp [hr]⟩

/-- A move of the derate total is calm: a running pump comes down to the capacity left (R81). -/
theorem moveDerate_calm (total quiet : Nat) (s : State) (h : total ≤ s.settings.cRated) :
    Calm s (moveDerate total quiet s) := by
  have moved : ∃ y, (setDerate total quiet s).dtu = { s.dtu with derateTotal := total, quietCount := y } := ⟨quiet, rfl⟩
  unfold moveDerate
  dsimp only
  split
  · rename_i he
    constructor <;> simp [he]
  · unfold capacityChanged
    dsimp only
    refine Calm.append (lowerTarget_calm total h ?_ ?_) (.of_aside (testRecall_aside _)) (by simp) (by simp)
    · split <;> simp
    · split <;> simpa using moved

theorem scanNotice_calm (h : s.dtu.derateTotal ≤ s.settings.cRated) : Calm s (scanNotice s) := by
  unfold scanNotice
  dsimp only
  split
  · exact moveDerate_calm _ _ s (by omega)
  · constructor <;> simp

theorem channelAction_calm (m : Mode) (s : State) : Calm s (channelAction m s) := by
  cases m with
  | pulse0 => exact .of_dtu rfl rfl
  | pulse1 => exact .of_dtu rfl rfl
  | derate => exact moveDerate_calm _ _ s (by simp)
  | count => exact .of_dtu rfl rfl

theorem offer_calm (f : Firing) (s : State) : Calm s (offer f s) := by
  unfold offer
  split
  · rename_i n _
    have acted := channelAction_calm (slotGet s.evu.channels n Channel.unbound).mode s
    unfold channelActs
    dsimp only
    split <;> exact acted.append (.of_dtu (by simp) (by simp)) (by simp) (by simp)
  · exact .of_dtu (by simp) (by simp)

/-! ### The moves of the drive -/

/-- A running pump has RUN_REQ high, and none of the duty timers runs (R100, R104, R106, R114). -/
theorem DriveLawful.running (h : DriveLawful s) (hr : s.dtu.duty.runs = true) :
    s.dtu.runReq = true ∧ s.dtu.warmTimer = .stopped ∧ s.dtu.startTimer = .stopped ∧ s.dtu.stopTimer = .stopped := by
  obtain ⟨hwarm, hstart, hstop, -, hruns, -⟩ := h.handshake
  refine ⟨hruns hr, ?_, ?_, ?_⟩ <;> by_contra hne
  · simp [(hwarm hne).1, Duty.runs] at hr
  · simp [hstart hne, Duty.runs] at hr
  · simp [(hstop hne).1, Duty.runs] at hr

/-- A warm-up runs at F_min in STARTING (R106). -/
theorem DriveLawful.warming (h : DriveLawful s) (hw : s.dtu.warmTimer ≠ .stopped) :
    s.dtu.duty = .starting ∧ s.dtu.target = s.settings.fMin := by
  obtain ⟨hwarm, -⟩ := h.handshake
  obtain ⟨hd, -, -, htarget⟩ := hwarm hw
  exact ⟨hd, htarget⟩

/-- A change of duty that leaves the pump running, or on the way to its stop, keeps the drive's state. -/
theorem DriveLawful.goOn (h : DriveLawful s) (hr : s.dtu.duty.runs = true) {new : Duty}
    (hnew : new = .stopping ∨ new.runs = true) :
    DriveLawful { s with dtu := { s.dtu with duty := new, recallTimer := .stopped } } := by
  obtain ⟨hq, hw, hst, hsp⟩ := h.running hr
  have hmoves : new ≠ .resting ∧ new ≠ .fault := by
    rcases hnew with rfl | hn
    · decide
    · cases new <;> simp [Duty.runs] at hn ⊢
  exact
    { order := h.order
      handshake := by simp [Handshake, hq, hw, hst, hsp, hmoves]
      law1 := ⟨h.law1.1, by simp [hmoves]⟩
      law2 := h.law2
      bounds := fun _ => h.bounds hr
      target_le := h.target_le
      target_rest := by simp [hmoves] }

/-- A pump at rest, at its start or in FAULT: no setpoint and no target. -/
theorem DriveLawful.halt (h : DriveLawful s) (hc : t.settings = s.settings) (hderate : t.dtu.derateTotal = s.dtu.derateTotal)
    (hduty : t.dtu.duty.runs = false) (hset : t.dtu.setpoint = 0) (htarget : t.dtu.target = 0) (hshake : Handshake t) :
    DriveLawful t where
  order := hc ▸ h.order
  handshake := hshake
  law1 := by simp [Law1, hset]
  law2 := by simpa only [Law2, cOwn, hc, hderate] using h.law2
  bounds := by simp [hduty]
  target_le := by simp [htarget]
  target_rest := fun _ => htarget

/-- The start is over: the acknowledged pump, at F_min, goes ON (R107). -/
theorem DriveLawful.startEnds (h : DriveLawful s) (hw : s.dtu.warmTimer ≠ .stopped) (x : Nat) :
    DriveLawful { s with dtu :=
      { s.dtu with duty := .on, recallTimer := .stopped, warmTimer := .stopped, normalTarget := x } } := by
  obtain ⟨hwarm, -, hstop, -, -, -⟩ := h.handshake
  obtain ⟨hd, hq, hst, htarget⟩ := hwarm hw
  have hsp : s.dtu.stopTimer = .stopped := by
    by_contra hne
    simp [hd] at hstop
    exact hne hstop
  exact
    { order := h.order
      handshake := by simp [Handshake, hq, hst, hsp]
      law1 := ⟨h.law1.1, by simp⟩
      law2 := h.law2
      bounds := fun _ => ⟨htarget.ge, htarget.le.trans (le_max_right _ _)⟩
      target_le := h.target_le
      target_rest := by simp }

/-- ON is entered by an acknowledged start whose warm-up ends, or from ASKING or REFUSED. -/
theorem DutyAllowed.on_cases (h : DriveLawful s) (ha : DutyAllowed p s .on) :
    (s.dtu.duty = .starting ∧ s.dtu.warmTimer ≠ .stopped) ∨ (s.dtu.duty ≠ .starting ∧ s.dtu.duty.runs = true) := by
  rcases ha with hw | hd | hd
  · exact .inl ⟨(h.warming hw).1, hw⟩
  · exact .inr (by simp [hd, Duty.runs])
  · exact .inr (by simp [hd, Duty.runs])

theorem enterDuty_lawful {new : Duty} (h : DriveLawful s) (ha : DutyAllowed p s new) : DriveLawful (enterDuty new s) := by
  cases new with
  | resting => exact h.halt rfl rfl rfl rfl rfl (by simp [Handshake, enterDuty, Duty.runs])
  | starting => exact h.halt rfl rfl rfl rfl rfl (by simp [Handshake, enterDuty, Duty.runs])
  | fault => exact h.halt rfl rfl rfl rfl rfl (by simp [Handshake, enterDuty, Duty.runs])
  | on =>
    unfold enterDuty
    dsimp only
    obtain ⟨hd, hw⟩ | ⟨hd, hr⟩ := ha.on_cases h
    · rw [if_pos hd]
      exact h.startEnds hw _
    · rw [if_neg hd]
      exact h.goOn hr (.inr rfl)
  | asking => exact h.goOn (by rw [show s.dtu.duty = .on from ha]; rfl) (.inr rfl)
  | refused => exact h.goOn (by rw [show s.dtu.duty = .asking from ha]; rfl) (.inr rfl)
  | stopping => exact h.goOn (by rw [ha.1]; rfl) (.inl rfl)

/-- F_min, where a start ends, lies within the trip flow. -/
theorem enterDuty_holdsTripFlow {new : Duty} (h : DriveLawful s) (ha : DutyAllowed p s new) (ht : HoldsTripFlow s) :
    HoldsTripFlow (enterDuty new s) := by
  cases new with
  | resting => simp [HoldsTripFlow, enterDuty, Duty.runs]
  | starting => simp [HoldsTripFlow, enterDuty, Duty.runs]
  | fault => simp [HoldsTripFlow, enterDuty, Duty.runs]
  | stopping => simp [HoldsTripFlow, enterDuty, Duty.runs]
  | asking => exact fun _ => ht (by rw [show s.dtu.duty = .on from ha]; rfl)
  | refused => exact fun _ => ht (by rw [show s.dtu.duty = .asking from ha]; rfl)
  | on =>
    unfold enterDuty
    dsimp only
    obtain ⟨hd, hw⟩ | ⟨hd, hr⟩ := ha.on_cases h
    · rw [if_pos hd]
      exact fun _ => (h.warming hw).2.le.trans h.order.1
    · rw [if_neg hd]
      exact fun _ => ht hr

/-- A new target and setpoint within their limits. -/
theorem DriveLawful.setFlows (h : DriveLawful s) {x y : Nat}
    (hbounds : s.dtu.duty.runs = true → s.settings.fMin ≤ x ∧ x ≤ capacityCeiling s) (hx : x ≤ s.settings.cRated)
    (hwarm : s.dtu.warmTimer ≠ .stopped → x = s.settings.fMin) (hy : y ≤ s.settings.cRated)
    (hrest : s.dtu.duty = .resting ∨ s.dtu.duty = .fault → x = 0 ∧ y = 0) : DriveLawful (setFlows x y s) where
  order := h.order
  handshake := by
    obtain ⟨hwarming, others⟩ := h.handshake
    refine ⟨fun hw => ?_, others⟩
    obtain ⟨hd, hq, hs, -⟩ := hwarming hw
    exact ⟨hd, hq, hs, hwarm hw⟩
  law1 := ⟨hy, fun e => (hrest e).2⟩
  law2 := h.law2
  bounds := hbounds
  target_le := hx
  target_rest := fun e => (hrest e).1

theorem ramp_le (setpoint target up down n : Nat) (hs : setpoint ≤ n) (ht : target ≤ n) : ramp setpoint target up down ≤ n := by
  unfold ramp
  split <;> omega

/-- The setpoint goes one ramp step toward the target (R88). -/
theorem DriveLawful.ramped (h : DriveLawful s) (hm : ¬ (s.dtu.duty = .resting ∨ s.dtu.duty = .fault)) :
    DriveLawful (Machine.setFlows s.dtu.target (rampedSetpoint s) s) :=
  h.setFlows h.bounds h.target_le (fun hw => (h.warming hw).2) (ramp_le _ _ _ _ _ h.law1.1 h.target_le) fun e => absurd e hm

/-- A trip step holds a running pump to the trip flow (R92). -/
theorem tripStep_lawful (h : DriveLawful s) : DriveLawful (tripStep s) ∧ HoldsTripFlow (tripStep s) := by
  unfold tripStep
  split
  · rename_i hr
    obtain ⟨hlow, hhigh⟩ := h.bounds hr
    have hnw : s.dtu.warmTimer = .stopped := (h.running hr).2.1
    have hmoves : ¬ (s.dtu.duty = .resting ∨ s.dtu.duty = .fault) := by
      rintro (e | e) <;> simp [e, Duty.runs] at hr
    have limited : DriveLawful (Machine.setFlows (min s.dtu.target s.settings.tripFlow) s.dtu.setpoint s) :=
      h.setFlows (fun _ => ⟨le_min hlow h.order.1, (min_le_left _ _).trans hhigh⟩) ((min_le_left _ _).trans h.target_le)
        (by simp [hnw]) h.law1.1 (fun e => absurd e hmoves)
    exact ⟨(sendWord_calm _).lawful (limited.ramped hmoves), (sendWord_calm _).holdsTripFlow fun _ => min_le_right _ _⟩
  · rename_i hr
    exact ⟨h, fun e => absurd e hr⟩

end Sys2Proof.Machine
end

section
namespace Sys2Proof.Machine

variable {p q : Prop} {s t u : State}

/-- The acknowledge brings target and setpoint to F_min, and the warm-up runs (R106). -/
theorem acknowledged_lawful (h : DriveLawful s) (hd : s.dtu.duty = .starting) (hq : s.dtu.runReq = true) :
    DriveLawful (acknowledged s) := by
  obtain ⟨-, -, hstop, hrecall, -, -⟩ := h.handshake
  exact
    { order := h.order
      handshake := by simpa [Handshake, acknowledged, hd, hq, Duty.runs] using ⟨by simpa [hd] using hstop, by simpa [hd] using hrecall⟩
      law1 := ⟨h.order.2, by simp [acknowledged, hd]⟩
      law2 := h.law2
      bounds := by simp [acknowledged, hd, Duty.runs]
      target_le := h.order.2
      target_rest := by simp [acknowledged, hd] }

theorem raiseRunReq_lawful (h : DriveLawful s) (hd : s.dtu.duty = .starting) : DriveLawful (setRunReq true s) := by
  obtain ⟨hwarm, -, hstop, hrecall, -, -⟩ := h.handshake
  refine { h with handshake := ⟨fun hw => ?_, fun _ => hd, fun hs => ?_, hrecall, fun _ => rfl, ?_⟩ }
  · exact ⟨hd, rfl, (hwarm hw).2.2⟩
  · exact absurd (hstop hs).1 (by simp [hd])
  · simp [hd]

theorem stopRampEnds_lawful (h : DriveLawful s) (hd : s.dtu.duty = .stopping) : DriveLawful (stopRampEnds s) := by
  obtain ⟨hwarm, hstart, -, hrecall, -, -⟩ := h.handshake
  exact
    { order := h.order
      handshake := by
        simp only [hd, reduceCtorEq, imp_false, not_not, false_and] at hwarm hstart hrecall
        simp [Handshake, stopRampEnds, hd, hwarm, hstart, hrecall, Duty.runs]
      law1 := by simp [Law1, stopRampEnds]
      law2 := h.law2
      bounds := h.bounds
      target_le := h.target_le
      target_rest := h.target_rest }

/-- The normal target of a tick lies between F_min and the ceiling of law 3 (R84, R85). -/
theorem tickNormalTarget_bounds (s : State) :
    s.settings.fMin ≤ tickNormalTarget s ∧ tickNormalTarget s ≤ capacityCeiling s := by
  have floor : s.settings.fMin ≤ capacityCeiling s := le_max_right _ _
  unfold tickNormalTarget heldTarget computedTarget
  split <;> exact ⟨le_min (le_max_right _ _) floor, min_le_right _ _⟩

/-- The ceiling of law 3 lies within C_rated. -/
theorem DriveLawful.ceiling_le (h : DriveLawful s) : capacityCeiling s ≤ s.settings.cRated :=
  max_le (Nat.sub_le _ _) h.order.2

/-- The target of a tick, by duty (R86). -/
theorem dutyTarget_cases (s : State) :
    (s.dtu.duty.runs = true ∧
      dutyTarget s = if tripInForce s then min s.dtu.normalTarget s.settings.tripFlow else s.dtu.normalTarget) ∨
      (s.dtu.duty = .starting ∧ dutyTarget s = if s.dtu.warmTimer = .stopped then 0 else s.settings.fMin) ∨
      (s.dtu.duty = .stopping ∧ dutyTarget s = s.settings.fMin) ∨
      ((s.dtu.duty = .resting ∨ s.dtu.duty = .fault) ∧ dutyTarget s = 0) := by
  cases hd : s.dtu.duty <;> simp [dutyTarget, hd, Duty.runs]

theorem dutyTarget_lawful (h : DriveLawful s)
    (hn : s.dtu.duty.runs = true → s.settings.fMin ≤ s.dtu.normalTarget ∧ s.dtu.normalTarget ≤ capacityCeiling s) :
    DriveLawful (setFlows (dutyTarget s) s.dtu.setpoint s) ∧
      (tripInForce s = true → HoldsTripFlow (setFlows (dutyTarget s) s.dtu.setpoint s)) := by
  have hwarm := h.handshake.1
  have hset := h.law1
  have hceiling := h.ceiling_le
  obtain ⟨horder, hmin⟩ := h.order
  obtain ⟨hr, e⟩ | ⟨hd, e⟩ | ⟨hd, e⟩ | ⟨hd, e⟩ := dutyTarget_cases s
  · obtain ⟨hlow, hhigh⟩ := hn hr
    have hmoves : ¬ (s.dtu.duty = .resting ∨ s.dtu.duty = .fault) := by
      rintro (e | e) <;> simp [e, Duty.runs] at hr
    have hbounds : s.settings.fMin ≤ dutyTarget s ∧ dutyTarget s ≤ capacityCeiling s := by
      rw [e]
      split <;> omega
    refine ⟨h.setFlows (fun _ => hbounds) (hbounds.2.trans hceiling) (by simp [(h.running hr).2.1]) hset.1
      (fun e => absurd e hmoves), fun hf _ => ?_⟩
    simp [e, hf]
  · have hnr : s.dtu.duty.runs ≠ true := by simp [hd, Duty.runs]
    refine ⟨h.setFlows (fun hr => absurd hr hnr) ?_ (fun hw => by simp [e, hw]) hset.1 (by simp [hd]), fun _ hr => absurd hr hnr⟩
    rw [e]
    split <;> omega
  · have hnr : s.dtu.duty.runs ≠ true := by simp [hd, Duty.runs]
    exact ⟨h.setFlows (fun hr => absurd hr hnr) (e ▸ hmin) (fun _ => e) hset.1 (by simp [hd]), fun _ hr => absurd hr hnr⟩
  · have hnr : s.dtu.duty.runs ≠ true := by rcases hd with hd | hd <;> simp [hd, Duty.runs]
    have hnw : s.dtu.warmTimer = .stopped := by
      by_contra hw
      rcases hd with hd | hd <;> simp [hd] at hwarm <;> exact hw hwarm
    exact ⟨h.setFlows (fun hr => absurd hr hnr) (by omega) (by simp [hnw]) hset.1 (fun hd => ⟨e, hset.2 hd⟩),
      fun _ hr => absurd hr hnr⟩

theorem stageTarget_lawful (h : DriveLawful s) :
    DriveLawful (stageTarget s) ∧ (tripInForce s = true → HoldsTripFlow (stageTarget s)) := by
  unfold stageTarget
  dsimp only
  split
  · have ticked : DriveLawful { s with dtu := { s.dtu with normalTarget := tickNormalTarget s } } := { h with }
    exact dutyTarget_lawful ticked fun _ => tickNormalTarget_bounds s
  · rename_i hr
    exact dutyTarget_lawful h fun hr' => absurd hr' hr

theorem stageRamp_lawful (h : DriveLawful s) : DriveLawful (stageRamp s) := by
  unfold stageRamp
  split
  · rename_i hm
    exact h.ramped (by rintro (hd | hd) <;> simp [rampMoves, hd] at hm)
  · exact h

/-! ### The trip in force -/

/-- A station in the trip set puts a trip in force. -/
theorem tripInForce_of_slot {n : Nat} (h : (slotGet s.dtu.tripSet n none).isSome = true) : tripInForce s = true := by
  unfold slotGet at h
  split at h
  · have held : s.dtu.tripSet.toList.any (·.isSome) = true := List.any_eq_true.mpr ⟨_, by simp, h⟩
    simp [tripInForce, held]
  · simp at h

/-- A station that leaves the trip set puts no trip in force. -/
theorem tripInForce_of_endTrip {n : Nat} (h : tripInForce (setTripEntry n none s) = true) : tripInForce s = true := by
  simp only [tripInForce, setTripEntry, Bool.or_eq_true, List.any_eq_true] at h ⊢
  refine h.imp_left fun ⟨c, hc, hsome⟩ => ⟨c, ?_, hsome⟩
  rw [slotSet, Vector.toList_setIfInBounds] at hc
  obtain hc | rfl := List.mem_or_eq_of_mem_set hc
  · exact hc
  · simp at hsome

/-- Laws 1 to 3 of a station outside OFFLINE. -/
def DriveOnline (s : State) : Prop := DriveLawful s ∧ (tripInForce s = true → HoldsTripFlow s)

theorem Calm.online (c : Calm s t) (hf : tripInForce t = true → tripInForce s = true) (h : DriveOnline s) : DriveOnline t :=
  ⟨c.lawful h.1, fun ht => c.holdsTripFlow (h.2 (hf ht))⟩

/-- A trip that has come into force takes its step; one in force before holds the target already (R92). -/
theorem afterTripChange_online {before : Bool} (h : DriveLawful s) (ht : before = true → HoldsTripFlow s) :
    DriveOnline (afterTripChange before s) := by
  unfold afterTripChange
  refine (Calm.of_aside (testRecall_aside _)).online (fun h => by simpa [tripInForce] using h) ?_
  split
  · exact ⟨(tripStep_lawful h).1, fun _ => (tripStep_lawful h).2⟩
  · rename_i hstep
    refine ⟨h, fun hf => ht ?_⟩
    simpa [hf] using hstep

theorem announceTrip_online (n c : Nat) (h : DriveOnline s) : DriveOnline (announceTrip n c s) := by
  obtain ⟨hl, ht⟩ := h
  have set : Calm s (setTripEntry n (some c) s) := by constructor <;> simp
  have offered := offer_calm (fire 25 n c) (setTripEntry n (some c) s)
  have lawful := offered.lawful (set.lawful hl)
  have holds (hf : tripInForce s = true) := offered.holdsTripFlow (set.holdsTripFlow (ht hf))
  obtain e | ⟨hin, e | e⟩ := announceTrip_cases n c s <;> rw [e]
  · exact afterTripChange_online lawful holds
  · exact ⟨set.lawful hl, fun _ => set.holdsTripFlow (ht (tripInForce_of_slot hin))⟩
  · exact ⟨lawful, fun _ => holds (tripInForce_of_slot hin)⟩

theorem earlyNotice_online (n : Nat) (h : DriveOnline s) : DriveOnline (earlyNotice n s) := by
  obtain ⟨hl, ht⟩ := h
  have set : Calm s (setPendingTrip (some n) s) := by constructor <;> simp
  unfold earlyNotice
  split
  · exact ⟨hl, ht⟩
  · exact afterTripChange_online (set.lawful hl) fun hf => set.holdsTripFlow (ht hf)

theorem setRows_calm (rows : Vector PeerRow 32) (s : State) : Calm s { s with pvw := { s.pvw with rows := rows } } :=
  Calm.of_dtu rfl rfl

theorem Calm.testRecall (c : Calm s t) : Calm s (testRecall t) :=
  c.append (Calm.of_aside (testRecall_aside t)) (by simp) (by simp)

theorem clearView_calm (s : State) : Calm s (clearView s) := by
  unfold clearView viewChanged
  dsimp only
  split
  · exact (setRows_calm _ s).testRecall
  · exact setRows_calm _ s

theorem driveOnline_of_move (m : Move p q s t) (h : DriveOnline s) : DriveOnline t := by
  obtain ⟨hl, ht⟩ := h
  cases m with
  | aside ha => 
    exact (Calm.of_aside ha).online (fun h => by simpa [tripInForce, ha.tripSet, ha.pendingTrip] using h) ⟨hl, ht⟩
  | offer f => exact (offer_calm f s).online (fun h => by simpa [tripInForce] using h) ⟨hl, ht⟩
  | scanNotice => exact (scanNotice_calm hl.law2.1).online (fun h => by simpa [tripInForce] using h) ⟨hl, ht⟩
  | enterDuty new _ ha =>
    exact ⟨enterDuty_lawful hl ha, fun hf => enterDuty_holdsTripFlow hl ha (ht (by simpa [tripInForce] using hf))⟩
  | acknowledge _ hd hq =>
    exact ⟨acknowledged_lawful hl hd hq, fun _ hr => by simp [acknowledged, hd, Duty.runs] at hr⟩
  | raiseRunReq _ hd => exact ⟨raiseRunReq_lawful hl hd, ht⟩
  | stopRampEnds _ hd => exact ⟨stopRampEnds_lawful hl hd, ht⟩
  | stageTarget => exact ⟨(stageTarget_lawful hl).1, fun hf => (stageTarget_lawful hl).2 (by simpa [tripInForce] using hf)⟩
  | stageRamp =>
    have same : (stageRamp s).dtu.target = s.dtu.target := by
      unfold stageRamp
      split <;> simp
    refine ⟨stageRamp_lawful hl, fun hf hr => ?_⟩
    have held := ht (by simpa [tripInForce] using hf) (by simpa using hr)
    simpa [same] using held
  | announceTrip n c => exact announceTrip_online n c ⟨hl, ht⟩
  | earlyNotice n => exact earlyNotice_online n ⟨hl, ht⟩
  | endTrip n =>
    exact Calm.online (by constructor <;> simp) tripInForce_of_endTrip ⟨hl, ht⟩
  | endPending =>
    exact Calm.online (by constructor <;> simp) (fun h => by simp_all [tripInForce]) ⟨hl, ht⟩
  | enterTripFrame | enterClearFrame | enterDemandFrame | enterStateFrame | placeAsk | placeReply | beginAttempt | endAttempt
  | settle | dropReply | empty | activate | shrinkGrants | addGrant | setRow | setTrip =>
    exact (Calm.of_dtu (by simp) (by simp)).online (fun h => by simpa [tripInForce] using h) ⟨hl, ht⟩
  | clearView => exact (clearView_calm s).online (fun h => by simpa [tripInForce] using h) ⟨hl, ht⟩

/-! ### Every step -/

theorem driveSafe_of_aside (ha : Aside s t) (hs : DriveSafe s) : DriveSafe t := by
  obtain ⟨hl, ht, hoff⟩ := (driveSafe_iff s).mp hs
  obtain ⟨hl', ht'⟩ := (Calm.of_aside ha).online (fun h => by simpa [tripInForce, ha.tripSet, ha.pendingTrip] using h) ⟨hl, ht⟩
  refine (driveSafe_iff t).mpr ⟨hl', ht', ?_⟩
  simpa only [OfflineAtRest, ha.lineState, ha.duty, ha.setpoint, ha.target, ha.derateTotal, ha.warmTimer] using hoff

theorem driveSafe_of_move (m : Move p q s t) (hl : s.frh.lineState ≠ .offline) (hs : DriveSafe s) : DriveSafe t := by
  obtain ⟨hlaw, htrip, -⟩ := (driveSafe_iff s).mp hs
  obtain ⟨hlaw', htrip'⟩ := driveOnline_of_move m ⟨hlaw, htrip⟩
  exact (driveSafe_iff t).mpr ⟨hlaw', htrip', fun h => absurd h (m.stays_online hl)⟩

theorem driveSafe_reset (pins : Pins) (rest : List Instr) : DriveSafe { State.reset with pins := pins, pending := rest } := by
  simp [DriveSafe, FlowOrder, Handshake, Law1, Law2, Law3, cOwn, State.reset, Settings.default, Duty.runs]

/-- The clamps keep F_min within the trip flow and within C_rated (R77). -/
theorem clampSettings_flowOrder (r : Settings) : FlowOrder (clampSettings r) := by
  simp [FlowOrder, clampSettings, clampTo]

/-- A load finds the pump at rest, with no flow and no derate, and so within any limits. -/
theorem driveSafe_load (hl : s.frh.lineState = .offline) (hs : DriveSafe s) : DriveSafe (loaded s) := by
  obtain ⟨hlaw, -, hoff⟩ := (driveSafe_iff s).mp hs
  obtain ⟨hd, hset, htarget, hderate, hwarm⟩ := hoff hl
  have still (c : Prop) (hr : (loaded s).dtu.duty.runs = true) : c := by simp [hd, Duty.runs] at hr
  refine (driveSafe_iff _).mpr ⟨?_, fun _ => still _, fun h => by simp at h⟩
  have handshake := hlaw.handshake
  exact
    { order := by simpa using clampSettings_flowOrder _
      handshake := by simpa [Handshake, hd, hwarm, Duty.runs] using handshake
      law1 := by simp [Law1, hset]
      law2 := by simp [Law2, cOwn, hderate]
      bounds := still _
      target_le := by simp [htarget]
      target_rest := by simp [htarget] }

/-- Settles O37: what the drive is told keeps its limits along every move, and a derate or a trip brings a running pump's target
down in the move that lowers the limit. -/
theorem driveStaysSafe : Obligations.DriveStaysSafe := fun _ _ hs h =>
  step_keeps driveSafe_of_aside driveSafe_of_move driveSafe_reset (fun hl _ hs => driveSafe_load hl hs) h hs

end Sys2Proof.Machine
end

section
namespace Sys2Proof.Machine

variable {s : State}

/-! ### Law 7: where a firing goes -/

/-- The waiting entries of every source but ACTION_DONE (R164, R176). -/
def firedEntries (q : List QueueEntry) : List QueueEntry := q.filter fun e => decide (e.source < 33)

theorem firedEntries_append_done (q : List QueueEntry) {e : QueueEntry} (h : 33 ≤ e.source) :
    firedEntries (q ++ [e]) = firedEntries q := by
  simp [firedEntries, h]

/-- ACTION_DONE folds into an entry of its own source alone (R168). -/
theorem firedEntries_coalesced (f : Firing) (q : List QueueEntry) (h : 33 ≤ f.source) :
    firedEntries (q.map fun e => if sameKey f e then coalesce f e else e) = firedEntries q := by
  have done (e : QueueEntry) (hk : sameKey f e = true) : 33 ≤ e.source := by simp_all [sameKey]
  have sources : ((fun e : QueueEntry => decide (e.source < 33)) ∘ fun e => if sameKey f e then coalesce f e else e) =
      fun e => decide (e.source < 33) := by
    funext e
    by_cases hk : sameKey f e = true <;> simp [hk, coalesce]
  rw [firedEntries, List.filter_map, sources]
  refine (List.map_congr_left fun e he => ?_).trans (List.map_id _)
  have hlow : e.source < 33 := by simpa using (List.mem_filter.mp he).2
  have hother : ¬ sameKey f e = true := fun hk => absurd (done e hk) (by omega)
  simp [hother]

/-- A firing of ACTION_DONE leaves the other waiting entries as they are, or displaces one of them (R169). -/
theorem enqueue_done (f : Firing) (s : State) (h : 33 ≤ f.source) :
    (firedEntries (enqueue f s).evu.queue).Sublist (firedEntries s.evu.queue) := by
  unfold enqueue
  split
  · exact .refl _
  split
  · exact (firedEntries_coalesced f _ h).symm ▸ .refl _
  · have fresh (q : List QueueEntry) : firedEntries (q ++ [newEntry f (levelOf s f.source) s.evu.refreshCount]) = firedEntries q :=
      firedEntries_append_done q h
    obtain e | ⟨-, e⟩ | ⟨-, e⟩ := append_queue f s
    · rw [e]
    · rw [e, fresh]
    · rw [e, fresh]
      exact List.eraseP_sublist.filter _

/-- A channel that has taken a firing enters at most its own ACTION_DONE (R176). -/
theorem channelActs_done (n : Nat) (f : Firing) (s : State) :
    (firedEntries (channelActs n f s).evu.queue).Sublist (firedEntries s.evu.queue) := by
  unfold channelActs
  dsimp only
  split
  · exact (enqueue_done _ _ (Nat.le_add_right 33 n)).trans (by simp [setChannel])
  · simp [setChannel]

/-- A firing that goes to the queue changes the queue and the count of displaced firings alone (R166, R169). -/
theorem enqueue_changes (f : Firing) (s : State) :
    enqueue f s = { s with evu := { s.evu with queue := (enqueue f s).evu.queue, dropped := (enqueue f s).evu.dropped } } := by
  ext <;> simp

/-- A mode other than DERATE starts the dose output it names (R177). -/
theorem channelAction_pulse (m : Mode) (s : State) (h : m ≠ .derate) :
    channelAction m s = { s with evu := { s.evu with
      dose0 := if m = .pulse0 then .running (100 * s.settings.doseWidth0) else s.evu.dose0
      dose1 := if m = .pulse1 then .running (100 * s.settings.doseWidth1) else s.evu.dose1 } } := by
  cases m with
  | derate => exact absurd rfl h
  | pulse0 | pulse1 | count => rfl

/-- Settles O48: the lowest-numbered channel that matches acts, and only a firing that none takes is offered to the queue. -/
theorem firingTakenOnce : Obligations.FiringTakenOnce := by
  intro f s _
  refine ⟨fun n h => ?_, fun n h => ?_, fun h => ?_⟩
  · exact offer_taken f s n h ▸ channelActs_done n f s
  · intro c acted hm
    have pulsed := channelAction_pulse c.mode s hm
    simp only [offer_taken f s n h, channelActs]
    refine ⟨fun hcount => ?_, fun hcount => ?_⟩
    · rw [if_neg (by omega : ¬ c.count ≤ 1), pulsed]
      rfl
    · rw [if_pos hcount, pulsed]
      rfl
  · rw [offer_untaken f s h]
    exact ⟨rfl, enqueue_changes f s⟩

/-! ### Reset -/

/-- Settles O51, by the laws of a reset one by one. -/
theorem resetIsSafe : Obligations.ResetIsSafe :=
  ⟨driveSafe_reset State.reset.pins [], law5_reset State.reset.pins [], law6_reset State.reset.pins [],
    law8_reset State.reset.pins [], law12_reset State.reset.pins []⟩

end Sys2Proof.Machine
end

section
namespace Sys2Proof.Machine

variable {p q : Prop} {s t u : State}

/-! ### How an ask ends (R111, R127, R130) -/

/-- A roll of verdicts, with no entry for a station that is no member. -/
abbrev Roll := Vector (Option (Option Verdict)) 32

theorem mem_rollMembers {roll : Roll} {n : Nat} {v : Option Verdict} :
    (n, v) ∈ rollMembers roll ↔ slotGet roll n none = some v := by
  have inRange (h : slotGet roll n none = some v) : n < 32 := by
    by_contra hn
    simp [slotGet, hn] at h
  simp only [rollMembers, List.mem_filterMap, List.mem_range, Option.map_eq_some_iff, Prod.mk.injEq]
  constructor
  · rintro ⟨_, -, _, h, rfl, rfl⟩
    exact h
  · exact fun h => ⟨n, inRange h, v, h, rfl, rfl⟩

theorem rollMembers_isEmpty {roll : Roll} : (rollMembers roll).isEmpty = true ↔ ∀ n, slotGet roll n none = none := by
  rw [List.isEmpty_iff, List.eq_nil_iff_forall_not_mem]
  constructor
  · intro h n
    by_contra hn
    obtain ⟨v, hv⟩ := Option.ne_none_iff_exists'.mp hn
    exact h (n, v) (mem_rollMembers.mpr hv)
  · rintro h ⟨n, v⟩ hm
    have hm' := mem_rollMembers.mp hm
    simp [h n] at hm'

/-- Every member of the roll holds AGREE. -/
def Unanimous (roll : Roll) : Prop := ∀ n, (slotGet roll n none).isSome = true → slotGet roll n none = some (some .agree)

theorem unanimous_of_allAgree {roll : Roll} (h : allAgree roll = true) : Unanimous roll := by
  intro n hn
  obtain ⟨v, hv⟩ := Option.isSome_iff_exists.mp hn
  simp only [allAgree, Bool.and_eq_true, List.all_eq_true, beq_iff_eq] at h
  have agreed : v = some .agree := h.2 _ (mem_rollMembers.mpr hv)
  rw [hv, agreed]

/-- The own evaluation passes (R130). -/
def Passes (s : State) : Prop := fieldDemand s + s.settings.reserve ≤ peerCapacity s

/-- A fixed or shortened roll agrees to the ask: all its members do, or it has none and the own evaluation passes (R127, R128). -/
def Decided (roll : Roll) (s : State) : Prop :=
  Unanimous roll ∧ ((∃ n, (slotGet roll n none).isSome = true) ∨ Passes s)

/-- How the negotiator may leave the duty and the ask: as they are but for an ask that ends, refused, or agreed on a ground. -/
inductive AskOutcome (ground : Prop) (s t : State) : Prop
  | stands (hd : t.dtu.duty = s.dtu.duty) (ha : t.rng.ask = s.rng.ask ∨ t.rng.ask = .idle)
  | refused (hs : s.dtu.duty = .asking) (hd : t.dtu.duty = .refused)
  | agreed (hs : s.dtu.duty = .asking) (hd : t.dtu.duty = .stopping) (ha : t.rng.ask = .idle) (h : ground)

theorem AskOutcome.imp {g g' : Prop} (o : AskOutcome g s t) (h : g → g') : AskOutcome g' s t := by
  cases o with
  | stands hd ha => exact .stands hd ha
  | refused hs hd => exact .refused hs hd
  | agreed hs hd ha hg => exact .agreed hs hd ha (h hg)

theorem AskOutcome.congr {g : Prop} (o : AskOutcome g s t) (hd : u.dtu.duty = t.dtu.duty) (ha : u.rng.ask = t.rng.ask) :
    AskOutcome g s u := by
  cases o with
  | stands hd' ha' => exact .stands (hd.trans hd') (ha ▸ ha')
  | refused hs hd' => exact .refused hs (hd.trans hd')
  | agreed hs hd' ha' hg => exact .agreed hs (hd.trans hd') (ha.trans ha') hg

/-- A station that has come to STOPPING has ended its ask in ASKING, on the ground. -/
theorem AskOutcome.of_stopping {g : Prop} (o : AskOutcome g s t) (ht : t.dtu.duty = .stopping) (hs : s.dtu.duty ≠ .stopping) :
    s.dtu.duty = .asking ∧ t.rng.ask = .idle ∧ g := by
  cases o with
  | stands hd _ => exact absurd (hd.symm.trans ht) hs
  | refused _ hd => simp [hd] at ht
  | agreed hs _ ha hg => exact ⟨hs, ha, hg⟩

/-- Leaving ASKING ends the ask (R131). -/
theorem takeDuty_ask (new : Duty) (cause : List Firing) (s : State) (h : s.dtu.duty = .asking) :
    (takeDuty new cause s).rng.ask = .idle := by
  unfold takeDuty
  dsimp only
  rw [h]
  simpa using (tellNegotiator_ends new .asking _).1 rfl

theorem refuseAsk_outcome (n : Option Nat) (d : Nat) (s : State) : AskOutcome False s (refuseAsk n d s) := by
  unfold refuseAsk reportRefusal
  split
  · rename_i h
    exact .refused (by simpa using h) (by simp)
  · exact .stands (by simp) (.inr (by simp))

theorem agreeAsk_outcome (n : Nat) (s : State) : AskOutcome True s (agreeAsk n s) := by
  unfold agreeAsk reportAgreement
  split
  · rename_i h
    exact .agreed (by simpa using h) (by simp) (takeDuty_ask _ _ _ h) trivial
  · exact .stands (by simp) (.inr (by simp))

theorem testRoll_outcome {k : Octet} {roll : Roll} {x : Timer} (h : s.rng.ask = .window k roll x) :
    AskOutcome (allAgree roll = true) s (testRoll s) := by
  simp only [testRoll, h]
  split
  · exact (refuseAsk_outcome _ _ s).imp False.elim
  split
  · rename_i ha
    exact (agreeAsk_outcome _ s).imp fun _ => ha
  · exact .stands rfl (.inl rfl)

theorem ownEvaluation_outcome (s : State) : AskOutcome (Passes s) s (ownEvaluation s) := by
  unfold ownEvaluation
  split
  · rename_i h
    exact (agreeAsk_outcome 0 s).imp fun _ => h
  · exact (refuseAsk_outcome none 5 s).imp False.elim

theorem decideRoll_outcome {k : Octet} {roll : Roll} {x : Timer} (h : s.rng.ask = .window k roll x) :
    AskOutcome (Decided roll s) s (decideRoll s) := by
  simp only [decideRoll, h]
  split
  · rename_i he
    have none := rollMembers_isEmpty.mp he
    exact (ownEvaluation_outcome s).imp fun hp => ⟨fun n hn => by simp [none n] at hn, .inr hp⟩
  · rename_i he
    obtain ⟨n, hn⟩ : ∃ n, slotGet roll n none ≠ none := by
      by_contra hall
      exact he (rollMembers_isEmpty.mpr fun n => by_contra fun hn => hall ⟨n, hn⟩)
    exact (testRoll_outcome h).imp fun ha => ⟨unanimous_of_allAgree ha, .inl ⟨n, Option.isSome_iff_ne_none.mpr hn⟩⟩

/-! ### ATTEMPT_SENT and the roll it fixes (R124) -/

/-- The fixed roll holds each FRESH counted WELL row with its early verdict, and no other. -/
theorem slotGet_fixedRoll (early : Vector (Option Verdict) 32) (s : State) {n : Nat} (h : n < 32) :
    slotGet (fixedRoll s early) n none =
      if (rowOf s n).condition = .fresh ∧ counted (rowOf s n) = true then some (slotGet early n none) else none := by
  rw [fixedRoll, slotGet_slotMap _ _ n PeerRow.empty none h]
  exact if_congr (by simp [rowOf]) rfl rfl

/-- The SENT report brings a station to STOPPING on the roll fixed then (R124). -/
theorem reportSent_stops {k : Octet} (h : (reportSent k s).dtu.duty = .stopping) (hs : s.dtu.duty ≠ .stopping) :
    s.dtu.duty = .asking ∧ (reportSent k s).rng.ask = .idle ∧
      ∃ early, s.rng.ask = .sending k early ∧ Decided (fixedRoll s early) s := by
  unfold reportSent at h ⊢
  split at h
  · rename_i early ha
    split at h
    · rename_i e
      subst e
      rw [if_pos rfl]
      have outcome := decideRoll_outcome (setAsk_rng_ask (.window k (fixedRoll s early) (.running s.settings.replyWindow)) s)
      obtain ⟨hd, hidle, hdecided⟩ := outcome.of_stopping h hs
      exact ⟨hd, hidle, early, ha, hdecided⟩
    · exact absurd h hs
  · exact absurd h hs

/-- Law 9 at ATTEMPT_SENT. -/
theorem attemptSent_stops (e : exec .attemptSent s = .next t) (ht : t.dtu.duty = .stopping) (hs : s.dtu.duty ≠ .stopping) :
    s.dtu.duty = .asking ∧ t.rng.ask = .idle ∧ ∃ k early f, s.rng.ask = .sending k early ∧ s.frh.inFlight = some f ∧
      f.entry.payload.kind = .restAsk ∧ f.entry.seq = some k ∧ Decided (fixedRoll s early) s := by
  obtain rfl := Host.Outcome.next.inj e
  revert ht
  split
  · rename_i f _ hdue
    have hflight := ((dueOutcome_eq s f none).mp hdue).2
    unfold settleSent
    dsimp only
    split
    · rename_i k hkind hseq
      intro ht
      simp only [select_keeps] at ht ⊢
      obtain ⟨hd, hidle, early, ha, hdecided⟩ := reportSent_stops (s := endAttempt s) ht (by simpa using hs)
      exact ⟨by simpa using hd, hidle, k, early, f, by simpa using ha, hflight, hkind, hseq, hdecided⟩
    · exact fun ht => absurd (by simpa using ht) hs
  · exact fun ht => absurd ht hs

end Sys2Proof.Machine
end

section
namespace Sys2Proof.Machine

variable {p q : Prop} {s t u : State}

/-! ### FRAME_COMPLETE of a REST-REPLY (R125, R126) -/

theorem enterDuty_duty (new : Duty) (s : State) : (enterDuty new s).dtu.duty = new := by
  cases new with
  | on => simp only [enterDuty]; split <;> rfl
  | resting | starting | asking | refused | stopping | fault => rfl

/-- No move but an agreement leads to STOPPING (R111). -/
theorem Move.not_stopping (m : Move False q s t) (hs : s.dtu.duty ≠ .stopping) : t.dtu.duty ≠ .stopping := by
  cases m with
  | aside ha => exact ha.duty ▸ hs
  | enterDuty new _ hallowed =>
    rw [enterDuty_duty]
    rintro rfl
    exact hallowed.2
  | offer | scanNotice | enterTripFrame | enterClearFrame | enterDemandFrame | enterStateFrame | placeAsk | placeReply
  | beginAttempt | endAttempt | settle | dropReply | empty | activate | acknowledge | raiseRunReq | stageTarget | stageRamp
  | stopRampEnds | announceTrip | earlyNotice | endTrip | endPending | shrinkGrants | addGrant | setRow | clearView
  | setTrip => simpa [acknowledged, Machine.stopRampEnds] using hs

theorem Moves.not_stopping (m : Moves False q s t) (hs : s.dtu.duty ≠ .stopping) : t.dtu.duty ≠ .stopping :=
  m.keeps (P := fun x => x.dtu.duty ≠ .stopping) (fun _ _ m => m.not_stopping) hs

/-- The reply that decides a roll is the AGREE of a member, and every other member holds AGREE before it (R126, R127). -/
theorem takeReply_stops {n a : Nat} {k : Octet} {v : Option Verdict} (hn : n < 32)
    (h : (takeReply n a k v s).dtu.duty = .stopping) (hs : s.dtu.duty ≠ .stopping) :
    s.dtu.duty = .asking ∧ (takeReply n a k v s).rng.ask = .idle ∧ a = ownNumber s ∧ v = some .agree ∧
      ∃ roll x, s.rng.ask = .window k roll x ∧ (slotGet roll n none).isSome = true ∧
        ∀ m, m ≠ n → slotGet roll m none = none ∨ slotGet roll m none = some (some .agree) := by
  revert h
  unfold takeReply
  split
  · exact fun h => absurd h hs
  rename_i v
  split
  · rename_i ha
    split
    · split <;> exact fun h => absurd h hs
    · rename_i k' roll x hask
      split
      · rename_i hk
        obtain ⟨rfl, hmember⟩ := hk
        intro h
        have outcome := testRoll_outcome (setAsk_rng_ask (.window k (slotSet roll n (some (some v))) x) s)
        obtain ⟨hd, hidle, hall⟩ := outcome.of_stopping h hs
        have hall := unanimous_of_allAgree hall
        simp only [Unanimous, slotGet_slotSet] at hall
        refine ⟨hd, hidle, ha, ?_, roll, x, hask, hmember, fun m hm => ?_⟩
        · simpa [hn] using hall n
        · have hm' := hall m
          simp only [Ne.symm hm, false_and, if_false] at hm'
          by_cases hnone : slotGet roll m none = none
          · exact .inl hnone
          · exact .inr (hm' (Option.isSome_iff_ne_none.mpr hnone))
      · exact fun h => absurd h hs
    · exact fun h => absurd h hs
  · exact fun h => absurd h hs

/-- A valid REST-REPLY comes to STOPPING through the negotiator alone. -/
theorem validReply_cases (r : Role) (n : Nat) (x : Octet) (o : List Octet) (s : State) :
    (validFrame .restReply r n x o s).dtu.duty = s.dtu.duty ∨
      ∃ w, w.dtu.duty = s.dtu.duty ∧ w.rng = s.rng ∧ ownNumber w = ownNumber s ∧
        validFrame .restReply r n x o s =
          takeReply n (o.getD 0 0).toNat (o.getD 1 0) (verdictOfCode (o.getD 2 0).toNat) w := by
  have noticed (w : State) : (if hasRole w .well then viewChanged w else w).dtu.duty = w.dtu.duty ∧
      (if hasRole w .well then viewChanged w else w).rng = w.rng ∧
      (if hasRole w .well then viewChanged w else w).stl = w.stl := by
    split <;> simp
  unfold validFrame
  dsimp only
  split
  · split
    · exact .inl (by simp [(noticed _).1])
    · split
      · exact .inr ⟨_, by simp [acceptPayload, (noticed _).1], by simp [acceptPayload, (noticed _).2.1], by simp [ownNumber], rfl⟩
      · exact .inl (by simp [acceptPayload, (noticed _).1])
  · exact .inl (by simp)

/-- A REST-REPLY comes to STOPPING as a valid frame alone. -/
theorem frhFrame_reply_cases (b : List Octet) (e d : Bool) (hk : kindOfCode (kindCodeOf (b.getD 1 0)) = some .restReply) (s : State) :
    Moves False True s (frhFrame b e d s) ∨ ∃ r, frhReason b = none ∧
      frhFrame b e d s = validFrame .restReply r (senderOf (b.getD 0 0)) (b.getD 2 0) (b.drop 3) s := by
  have m := Moves.refl False True s
  unfold frhFrame
  split
  · exact .inl (m.malformed _)
  · rename_i r k hreason _ hk'
    obtain rfl := Option.some.inj (hk.symm.trans hk')
    unfold wellFormedFrame
    dsimp only
    split
    · exact .inl (m.closeNotice 2)
    split
    · exact .inl (.ite (fun _ => m.closeNotice 2) fun _ => (m.stationClash _).closeNotice 2)
    split
    · exact .inr ⟨r, hreason, rfl⟩
    · exact .inl ((m.offer _).closeNotice 2)
  · exact .inl m

/-- A REST-REPLY without a fault holds six octets (R18, R20). -/
theorem reply_length {b : List Octet} (hk : kindOfCode (kindCodeOf (b.getD 1 0)) = some .restReply) (h : frhReason b = none) :
    b.length = 6 := by
  unfold frhReason at h
  simp only [hk] at h
  split at h
  · simp at h
  split at h
  · simp at h
  split at h
  · simp at h
  split at h
  · simp at h
  · simp only [FrameKind.payloadLength] at *
    omega

/-- An octet of a frame that stands before the two of its CRC. -/
theorem getD_body {octets : List Octet} {i : Nat} (h : i < (octets.take (octets.length - 2)).length) :
    (octets.take (octets.length - 2)).getD i 0 = octets.getD i 0 := by
  simp only [List.length_take] at h
  simp only [List.getD_eq_getElem?_getD, List.getElem?_take, show i < octets.length - 2 by omega, if_true]

/-- The octets of a REST-REPLY that decides a roll: to this station, an AGREE, of a member whose word alone was missing (R18,
R126). -/
structure Agreement (s : State) (b : List Octet) (roll : Roll) : Prop where
  addressee : (b.getD 3 0).toNat = ownNumber s
  agrees : b.getD 5 0 = 1
  member : (slotGet roll (senderOf (b.getD 0 0)) none).isSome = true
  others : ∀ m, m ≠ senderOf (b.getD 0 0) → slotGet roll m none = none ∨ slotGet roll m none = some (some .agree)

theorem code_of_agree {x : Octet} (h : verdictOfCode x.toNat = some .agree) : x = 1 := by
  unfold verdictOfCode at h
  split at h <;> simp at h
  rename_i hx
  exact BitVec.eq_of_toNat_eq hx

theorem frhFrame_reply_stops {b : List Octet} {e d : Bool} (hk : kindOfCode (kindCodeOf (b.getD 1 0)) = some .restReply)
    (ht : (frhFrame b e d s).dtu.duty = .stopping) (hs : s.dtu.duty ≠ .stopping) :
    s.dtu.duty = .asking ∧ (frhFrame b e d s).rng.ask = .idle ∧
      b.length = 6 ∧ ∃ roll x, s.rng.ask = .window (b.getD 4 0) roll x ∧ Agreement s b roll := by
  obtain m | ⟨r, hreason, he⟩ := frhFrame_reply_cases b e d hk s
  · exact absurd ht (m.not_stopping hs)
  rw [he] at ht ⊢
  obtain h | ⟨w, hduty, hrng, hown, hv⟩ := validReply_cases r (senderOf (b.getD 0 0)) (b.getD 2 0) (b.drop 3) s
  · exact absurd (h.symm.trans ht) hs
  have payload (i : Nat) : (b.drop 3).getD i 0 = b.getD (3 + i) 0 := by simp [List.getD_eq_getElem?_getD, List.getElem?_drop]
  rw [hv] at ht ⊢
  obtain ⟨hd, hidle, haddress, hverdict, roll, x, hask, hmember, hothers⟩ :=
    takeReply_stops (senderOf_lt _) ht (hduty ▸ hs)
  simp only [payload] at hidle haddress hverdict hask ⊢
  exact ⟨hduty ▸ hd, hidle, reply_length hk hreason, roll, x, hrng ▸ hask, hown ▸ haddress, code_of_agree hverdict, hmember,
    hothers⟩

theorem kindCode_of_reply {x : Octet} (h : kindOfCode (kindCodeOf x) = some .restReply) : kindCodeOf x = 4 := by
  unfold kindOfCode at h
  split at h <;> simp_all

/-- Law 9 at FRAME_COMPLETE. -/
theorem frameComplete_stops {octets : List Octet} {own : Bool} (e : exec (.frameComplete octets own) s = .next t)
    (hr : isReplyFrame octets) (ht : t.dtu.duty = .stopping) (hs : s.dtu.duty ≠ .stopping) :
    s.dtu.duty = .asking ∧ t.rng.ask = .idle ∧ ∃ roll x, s.rng.ask = .window (octets.getD 4 0) roll x ∧
      kindCodeOf (octets.getD 1 0) = 4 ∧ Agreement s octets roll := by
  obtain rfl := Host.Outcome.next.inj e
  revert ht
  split
  · intro ht
    obtain ⟨hd, hidle, hlen, roll, x, hask, haddress, hagrees, hmember, hothers⟩ :=
      frhFrame_reply_stops (s := rxHunt s) hr ht (by simpa using hs)
    have read (i : Nat) (hi : i < 6) := getD_body (octets := octets) (i := i) (hlen ▸ hi)
    simp only [read 0, read 3, read 4, read 5, Nat.reduceLT] at hask haddress hagrees hmember hothers
    have hkind := kindCode_of_reply hr
    rw [read 1 (by decide)] at hkind
    exact ⟨by simpa using hd, hidle, roll, x, by simpa using hask, hkind, haddress, hagrees, hmember, hothers⟩
  · exact fun ht => absurd ht hs

end Sys2Proof.Machine
end

section
namespace Sys2Proof.Machine

variable {s t u v w : State}

/-! ### REFRESH_TICK and the members it strikes off (R48, R128) -/

/-- The row of a station moves at a refresh tick (R48). -/
abbrev RowMoves (s : State) (n : Nat) : Prop := (agedRow s.settings (rowOf s n)).condition ≠ (rowOf s n).condition

theorem slotSet_slotGet {α : Type} {k : Nat} {r : Vector α k} {n : Nat} {a d : α} (h : slotGet r n d = a) :
    slotSet r n a = r := by
  subst h
  ext i hi
  simp only [slotSet, slotGet, Vector.getElem_setIfInBounds]
  split <;> simp_all

theorem slotGet_slotSet_none {α : Type} {k : Nat} (r : Vector (Option α) k) (n m : Nat) :
    slotGet (slotSet r n none) m none = if m = n then none else slotGet r m none := by
  rw [slotGet_slotSet]
  by_cases hm : m < k
  · simp [hm, eq_comm]
  · simp [slotGet, hm]

theorem setRow_rowOf (n : Nat) (s : State) : setRow n (rowOf s n) s = s := by
  simp only [setRow, rowOf]
  rw [slotSet_slotGet rfl]

/-- What decides an ask, the view apart, stands as it was. -/
structure SameAsk (s t : State) : Prop where
  settings : t.settings = s.settings
  straps : t.stl = s.stl
  duty : t.dtu.duty = s.dtu.duty
  ask : t.rng.ask = s.rng.ask

theorem SameAsk.outcome {g : Prop} (h : SameAsk s t) (o : AskOutcome g t u) : AskOutcome g s u := by
  cases o with
  | stands hd ha => exact .stands (hd.trans h.duty) (h.ask ▸ ha)
  | refused hs hd => exact .refused (h.duty ▸ hs) hd
  | agreed hs hd ha hg => exact .agreed (h.duty ▸ hs) hd ha hg

/-- A row that ages in its condition is put back; one that moves goes through the firings and the condition notice. -/
theorem ageRow_cases (s : State) (n : Nat) :
    (¬ RowMoves s n ∧ ageRow s n = setRow n (agedRow s.settings (rowOf s n)) s) ∨
      (RowMoves s n ∧ ∃ c w, SameAsk s w ∧ w.pvw = (setRow n (agedRow s.settings (rowOf s n)) s).pvw ∧
        ageRow s n = conditionMoved n c w) := by
  cases hc : (rowOf s n).condition with
  | fresh =>
    by_cases hlimit : s.settings.staleLimit ≤ (rowOf s n).age
    · refine .inr ⟨by simp [RowMoves, agedRow, hc, hlimit], .stale, _, ?_, ?_, by simp only [ageRow, hc, hlimit, if_true]; rfl⟩
      · constructor <;> simp
      · simp [agedRow, hc, hlimit, olderRow]
    · refine .inl ⟨by simp [RowMoves, agedRow, hc, hlimit], ?_⟩
      simp [ageRow, agedRow, hc, hlimit, olderRow]
  | stale =>
    by_cases hlimit : s.settings.lostLimit ≤ (rowOf s n).age
    · refine .inr ⟨by simp [RowMoves, agedRow, hc, hlimit], .lost, _, ?_, ?_, by simp only [ageRow, hc, hlimit, if_true]; rfl⟩
      · constructor <;> simp
      · simp [agedRow, hc, hlimit, lostRow]
    · refine .inl ⟨by simp [RowMoves, agedRow, hc, hlimit], ?_⟩
      simp [ageRow, agedRow, hc, hlimit, olderRow]
  | absent | lost =>
    refine .inl ⟨by simp [RowMoves, agedRow, hc], ?_⟩
    simp [ageRow, agedRow, hc, setRow_rowOf]

/-- The station without a member on its roll. -/
def struck (n : Nat) (s : State) : State :=
  match s.rng.ask with
  | .window k roll x => setAsk (.window k (slotSet roll n none) x) s
  | _ => s

theorem struck_keeps (n : Nat) (s : State) :
    (struck n s).settings = s.settings ∧ (struck n s).stl = s.stl ∧ (struck n s).pvw = s.pvw ∧ (struck n s).dtu = s.dtu := by
  unfold struck
  split <;> simp

theorem struck_ask (n : Nat) (s : State) :
    (∃ k roll x, s.rng.ask = .window k roll x ∧ (struck n s).rng.ask = .window k (slotSet roll n none) x) ∨
      ((∀ k roll x, s.rng.ask ≠ .window k roll x) ∧ (struck n s).rng.ask = s.rng.ask) := by
  unfold struck
  split
  · rename_i k roll x h
    exact .inl ⟨k, roll, x, h, rfl⟩
  · rename_i h
    exact .inr ⟨fun k roll x => h k roll x, rfl⟩

theorem passes_congr (hc : t.settings = s.settings) (hv : t.pvw = s.pvw) : Passes t ↔ Passes s := by
  simp [Passes, fieldDemand, peerCapacity, hc, hv]

/-- The member struck off decides the ask (R128). -/
def StrikeDecides (n : Nat) (s : State) : Prop :=
  ∃ k roll x, s.rng.ask = .window k roll x ∧ (slotGet roll n none).isSome = true ∧ Decided (slotSet roll n none) s

theorem strikeOff_outcome (n : Nat) (s : State) : AskOutcome (StrikeDecides n s) (struck n s) (strikeOff n s) := by
  unfold strikeOff struck
  cases h : s.rng.ask with
  | window k roll x =>
    dsimp only
    split
    · rename_i hmember
      exact (decideRoll_outcome (setAsk_rng_ask _ s)).imp fun hd => ⟨k, roll, x, h, hmember, hd⟩
    · rename_i hmember
      exact .stands rfl (.inl (by simp [h, slotSet_slotGet (Option.not_isSome_iff_eq_none.mp hmember)]))
  | idle | waiting | sending k early => exact .stands rfl (.inl rfl)

/-- A state that decides as another does, with the same view. -/
theorem SameAsk.struck (n : Nat) (h : SameAsk s t) : SameAsk (struck n s) (struck n t) := by
  unfold Machine.struck
  rw [h.ask]
  split
  · exact ⟨h.settings, h.straps, h.duty, rfl⟩
  · exact h

theorem SameAsk.strikeDecides {n : Nat} (h : SameAsk s t) (hv : t.pvw = s.pvw) (d : StrikeDecides n t) : StrikeDecides n s := by
  obtain ⟨k, roll, x, ha, hmember, hall, hpass⟩ := d
  exact ⟨k, roll, x, h.ask ▸ ha, hmember, hall, hpass.imp_right (passes_congr h.settings hv).mp⟩

theorem conditionMoved_outcome (n : Nat) (c : Condition) (s : State) (hw : hasRole s .well = true) :
    AskOutcome (StrikeDecides n s) (struck n s) (conditionMoved n c s) := by
  have granted : SameAsk s (if c = .lost then removeGrant n s else s) ∧ (if c = .lost then removeGrant n s else s).pvw = s.pvw := by
    split
    · exact ⟨by constructor <;> simp, by simp⟩
    · exact ⟨⟨rfl, rfl, rfl, rfl⟩, rfl⟩
  have outcome := (granted.1.struck n).outcome ((strikeOff_outcome n _).imp (granted.1.strikeDecides granted.2))
  unfold conditionMoved conditionNotice
  rw [if_pos hw]
  exact outcome.congr (by simp) (by simp)

/-- The state in which a tick decides on the row of a station: the row aged, and a member whose row moves off the roll. -/
structure RowAged (n : Nat) (s t : State) : Prop where
  settings : t.settings = s.settings
  straps : t.stl = s.stl
  duty : t.dtu.duty = s.dtu.duty
  rows : ∀ m, m < 32 → rowOf t m = if n = m then agedRow s.settings (rowOf s m) else rowOf s m
  idle : s.rng.ask = .idle → t.rng.ask = .idle
  roll : hasRole s .well = true → ∀ k roll x, t.rng.ask = .window k roll x →
    ∃ old, s.rng.ask = .window k old x ∧
      ∀ m, slotGet roll m none = if m = n ∧ RowMoves s n then none else slotGet old m none

/-- The ask is agreed by a member struck off, in the view with its row aged. -/
def RowDecides (n : Nat) (s t : State) : Prop :=
  hasRole s .well = true ∧ RowMoves s n ∧
    ∃ k roll x, s.rng.ask = .window k roll x ∧ (slotGet roll n none).isSome = true ∧ Decided (slotSet roll n none) t

theorem rowOf_agedRow {n m : Nat} (h : t.pvw = (setRow n (agedRow s.settings (rowOf s n)) s).pvw) (hm : m < 32) :
    rowOf t m = if n = m then agedRow s.settings (rowOf s m) else rowOf s m := by
  rw [rowOf_congr h, rowOf_setRow _ _ _ _ hm]
  split
  · rename_i e
    rw [e]
  · rfl

/-- A row that stays in its condition, or a station with no negotiator, leaves the roll alone (R46, R128). -/
theorem rowAged_of_sameAsk {n : Nat} (hw : SameAsk s w) (hv : w.pvw = (setRow n (agedRow s.settings (rowOf s n)) s).pvw)
    (hstill : hasRole s .well = true → ¬ RowMoves s n) : RowAged n s w where
  settings := hw.settings
  straps := hw.straps
  duty := hw.duty
  rows := fun m hm => rowOf_agedRow hv hm
  idle := fun h => hw.ask.trans h
  roll := fun hr k roll x h => ⟨roll, hw.ask ▸ h, by simp [hstill hr]⟩

theorem rowAged_struck {n : Nat} (hw : SameAsk s w) (hv : w.pvw = (setRow n (agedRow s.settings (rowOf s n)) s).pvw)
    (hm : RowMoves s n) : RowAged n s (struck n w) := by
  obtain ⟨hsettings, hstraps, hrows, hdtu⟩ := struck_keeps n w
  refine
    { settings := hsettings.trans hw.settings, straps := hstraps.trans hw.straps, duty := (congrArg Dtu.duty hdtu).trans hw.duty
      rows := fun m hm => rowOf_agedRow (hrows.trans hv) hm, idle := fun h => ?_, roll := fun _ k roll x h => ?_ }
  · obtain ⟨k, roll, x, ha, -⟩ | ⟨-, ha⟩ := struck_ask n w
    · simp [hw.ask, h] at ha
    · rw [ha, hw.ask, h]
  · obtain ⟨k', old, x', ha, ha'⟩ | ⟨hno, ha⟩ := struck_ask n w
    · obtain ⟨rfl, rfl, rfl⟩ := AskRecord.window.inj (h.symm.trans ha')
      refine ⟨old, hw.ask ▸ ha, fun m => ?_⟩
      rw [slotGet_slotSet_none]
      exact if_congr (and_iff_left hm).symm rfl rfl
    · exact absurd (ha.symm.trans h) (hno k roll x)

theorem ageRow_outcome (n : Nat) (s : State) :
    ∃ t, RowAged n s t ∧ (ageRow s n).pvw = t.pvw ∧ AskOutcome (RowDecides n s t) t (ageRow s n) := by
  obtain ⟨hm, e⟩ | ⟨hm, c, w, hw, hv, e⟩ := ageRow_cases s n <;> rw [e]
  · exact ⟨_, rowAged_of_sameAsk (w := setRow n _ s) ⟨rfl, rfl, rfl, rfl⟩ rfl fun _ => hm, rfl, .stands rfl (.inl rfl)⟩
  have role : hasRole w .well = hasRole s .well := by simp [hasRole, roleOf, hw.straps]
  cases hr : hasRole s .well with
  | false =>
    have same : conditionMoved n c w = w := by simp [conditionMoved, role, hr]
    rw [same]
    exact ⟨w, rowAged_of_sameAsk hw hv (by simp [hr]), rfl, .stands rfl (.inl rfl)⟩
  | true =>
    obtain ⟨hsettings, -, hrows, -⟩ := struck_keeps n w
    refine ⟨struck n w, rowAged_struck hw hv hm, by simp [hrows], (conditionMoved_outcome n c w (role.trans hr)).imp ?_⟩
    rintro ⟨k, roll, x, ha, hmember, hall, hpass⟩
    exact ⟨hr, hm, k, roll, x, hw.ask ▸ ha, hmember, hall, hpass.imp_right (passes_congr hsettings hrows).mpr⟩

/-- A tick that has aged the rows below a number and decided no ask: their members' rows that move are off the roll. -/
structure AgedBelow (k : Nat) (s t : State) : Prop where
  settings : t.settings = s.settings
  straps : t.stl = s.stl
  duty : t.dtu.duty = s.dtu.duty
  rows : ∀ n, n < 32 → rowOf t n = if n < k then agedRow s.settings (rowOf s n) else rowOf s n
  roll : hasRole s .well = true → ∀ i roll x, t.rng.ask = .window i roll x →
    ∃ old, s.rng.ask = .window i old x ∧
      ∀ n, slotGet roll n none = if n < k ∧ RowMoves s n then none else slotGet old n none

/-- The ground of law 9 at a refresh tick: the row of a member moves, and those left on the roll agree, or none is left and the
own evaluation passes in the view aged so far (R128, R130). -/
def TickAgrees (s : State) : Prop :=
  ∃ i old x k, s.rng.ask = .window i old x ∧ k < 32 ∧ (slotGet old k none).isSome = true ∧ RowMoves s k ∧
    ∃ u roll, (∀ n, slotGet roll n none = if n ≤ k ∧ RowMoves s n then none else slotGet old n none) ∧
      u.settings = s.settings ∧ (∀ n, n < 32 → rowOf u n = if n ≤ k then agedRow s.settings (rowOf s n) else rowOf s n) ∧
      Decided roll u

/-- A tick after some rows: it goes on, or its ask is refused, or agreed. -/
def TickState (k : Nat) (s t : State) : Prop :=
  AgedBelow k s t ∨ t.dtu.duty = .refused ∨
    (s.dtu.duty = .asking ∧ t.dtu.duty = .stopping ∧ t.rng.ask = .idle ∧ TickAgrees s)

theorem AgedBelow.rowMoves {k : Nat} (h : AgedBelow k s t) (hk : k < 32) : RowMoves t k ↔ RowMoves s k := by
  have row : rowOf t k = rowOf s k := by simpa using h.rows k hk
  rw [RowMoves, h.settings, row]

theorem AgedBelow.next {k : Nat} (h : AgedBelow k s t) (hk : k < 32) (a : RowAged k t v) : AgedBelow (k + 1) s v where
  settings := a.settings.trans h.settings
  straps := a.straps.trans h.straps
  duty := a.duty.trans h.duty
  rows := fun n hn => by
    rw [a.rows n hn, h.rows n hn, h.settings]
    rcases lt_trichotomy n k with hlt | rfl | hgt
    · simp [hlt, hlt.ne', Nat.lt_succ_of_lt hlt]
    · simp
    · simp [hgt.ne, hgt.le, show ¬ n < k + 1 by omega]
  roll := fun hr i roll x hv => by
    have hr' : hasRole t .well = true := by simpa [hasRole, roleOf, h.straps] using hr
    obtain ⟨between, ht, hroll⟩ := a.roll hr' i roll x hv
    obtain ⟨old, hs, hbetween⟩ := h.roll hr i between x ht
    refine ⟨old, hs, fun n => ?_⟩
    rw [hroll, hbetween]
    have hk := h.rowMoves hk
    rcases lt_trichotomy n k with hlt | rfl | hgt
    · simp [hlt, hlt.ne, Nat.lt_succ_of_lt hlt]
    · simp [hk]
    · simp [hgt.ne', hgt.le, show ¬ n < k + 1 by omega]

theorem AgedBelow.agrees {k : Nat} (h : AgedBelow k s t) (hk : k < 32) (a : RowAged k t v) (d : RowDecides k t v) :
    TickAgrees s := by
  obtain ⟨hr, hmoves, i, roll, x, ht, hmember, hdecided⟩ := d
  have hr' : hasRole s .well = true := by simpa [hasRole, roleOf, h.straps] using hr
  obtain ⟨old, hs, hroll⟩ := h.roll hr' i roll x ht
  have below {n : Nat} : n < k + 1 ↔ n ≤ k := Nat.lt_succ_iff
  have aged := h.next hk a
  rw [h.rowMoves hk] at hmoves
  refine ⟨i, old, x, k, hs, hk, by simpa [hroll] using hmember, hmoves, v, _, fun n => ?_, aged.settings, ?_, hdecided⟩
  · rw [slotGet_slotSet_none, hroll]
    rcases lt_trichotomy n k with hlt | rfl | hgt
    · simp [hlt, hlt.ne, hlt.le]
    · simp [hmoves]
    · simp [hgt.ne', hgt.le, hgt.not_ge]
  · simpa only [below] using aged.rows

theorem AgedBelow.stands {k : Nat} (h : AgedBelow k s v) (hd : t.dtu.duty = v.dtu.duty)
    (ha : t.rng.ask = v.rng.ask ∨ t.rng.ask = .idle) (hc : t.settings = v.settings) (hl : t.stl = v.stl) (hv : t.pvw = v.pvw) :
    AgedBelow k s t where
  settings := hc.trans h.settings
  straps := hl.trans h.straps
  duty := hd.trans h.duty
  rows := fun n hn => (rowOf_congr hv).trans (h.rows n hn)
  roll := fun hr i roll x ht => by
    obtain ha | ha := ha
    · exact h.roll hr i roll x (ha.symm.trans ht)
    · simp [ha] at ht

theorem tickState_next {k : Nat} (hk : k < 32) (h : TickState k s t) : TickState (k + 1) s (ageRow t k) := by
  obtain ⟨v, aged, hrows, o⟩ := ageRow_outcome k t
  obtain h | h | ⟨hs, hd, ha, hg⟩ := h
  · cases o with
    | stands hd ha => exact .inl ((h.next hk aged).stands hd ha (by simp [aged.settings]) (by simp [aged.straps]) hrows)
    | refused _ hd => exact .inr (.inl hd)
    | agreed hs hd ha hg => exact .inr (.inr ⟨h.duty ▸ aged.duty ▸ hs, hd, ha, h.agrees hk aged hg⟩)
  · cases o with
    | stands hd' _ => exact .inr (.inl (hd'.trans (aged.duty.trans h)))
    | refused hs _ | agreed hs => exact absurd (aged.duty.symm.trans hs) (by simp [h])
  · cases o with
    | stands hd' ha' => exact .inr (.inr ⟨hs, hd'.trans (aged.duty.trans hd), by simpa [aged.idle ha] using ha', hg⟩)
    | refused hs' _ | agreed hs' => exact absurd (aged.duty.symm.trans hs') (by simp [hd])

/-- The rows are aged in ascending order (log 7). -/
theorem tickState_ageRows {k : Nat} (hk : k ≤ 32) (s : State) : TickState k s ((List.range k).foldl ageRow s) := by
  induction k with
  | zero =>
    exact .inl
      { settings := rfl, straps := rfl, duty := rfl, rows := fun n _ => by simp
        roll := fun _ i roll x h => ⟨roll, h, by simp⟩ }
  | succ k ih =>
    rw [List.range_succ, List.foldl_append]
    exact tickState_next hk (ih (by omega))

/-- Law 9 at REFRESH_TICK. -/
theorem refreshTick_stops (e : exec .refreshTick s = .next t) (ht : t.dtu.duty = .stopping) (hs : s.dtu.duty ≠ .stopping) :
    s.dtu.duty = .asking ∧ t.rng.ask = .idle ∧ TickAgrees s := by
  have aged : TickState 32 s (ageView s) := by
    unfold ageView
    exact tickState_ageRows le_rfl s
  obtain rfl := Host.Outcome.next.inj e
  revert ht
  split
  · intro ht
    simp only [periodicEntry_keeps, advanceRefreshCount_keeps] at ht ⊢
    obtain h | h | ⟨hd, -, ha, hg⟩ := aged
    · exact absurd (h.duty.symm.trans ht) hs
    · simp [h] at ht
    · exact ⟨hd, ha, hg⟩
  · exact fun ht => absurd ht hs

end Sys2Proof.Machine
end

section
namespace Sys2Proof.Machine

variable {s t : State}

/-! ### Law 9: the three ways to STOPPING -/

/-- Only the three commands of R124, R127 and R128 lead to STOPPING. -/
theorem exec_stops {c : Instr} (e : exec c s = .next t) (ht : t.dtu.duty = .stopping) (hs : s.dtu.duty ≠ .stopping) : mayStop c := by
  by_contra hno
  by_cases hc : c = .hardReset
  · subst hc
    obtain rfl := Host.Outcome.next.inj e
    simp [State.reset] at ht
  cases hw : works s with
  | true =>
    obtain ⟨t', e', m⟩ := exec_moves c s hc hw
    obtain rfl := Host.Outcome.next.inj (e.symm.trans e')
    rw [eq_false hno] at m
    exact m.not_stopping hs ht
  | false =>
    obtain ⟨t', e', ha | ⟨u, hu, -, -, rfl⟩⟩ := exec_resting c s hc hw
    all_goals obtain rfl := Host.Outcome.next.inj (e.symm.trans e')
    · exact hs (ha.duty ▸ ht)
    · exact (completeLoad_moves u).not_stopping (by simpa [hu.duty] using hs) ht

theorem mayStop_cases {c : Instr} (h : mayStop c) :
    c = .attemptSent ∨ c = .refreshTick ∨ ∃ octets own, c = .frameComplete octets own ∧ isReplyFrame octets := by
  unfold mayStop at h
  split at h
  · exact .inl rfl
  · exact .inr (.inl rfl)
  · exact .inr (.inr ⟨_, _, rfl, h⟩)
  · exact h.elim

theorem slotGet_inRange {α : Type} {k n : Nat} {r : Vector (Option α) k} (h : (slotGet r n none).isSome = true) : n < k := by
  by_contra hn
  simp [slotGet, hn] at h

/-- The roll fixed at ATTEMPT_SENT decides by the early verdicts of the rows it takes in (R124). -/
theorem Decided.early {early : Vector (Option Verdict) 32} (h : Decided (fixedRoll s early) s) :
    (∀ n, n < 32 → (rowOf s n).condition = .fresh ∧ counted (rowOf s n) = true → slotGet early n none = some .agree) ∧
      ((∃ n, n < 32 ∧ (rowOf s n).condition = .fresh ∧ counted (rowOf s n) = true) ∨ Passes s) := by
  obtain ⟨hall, hsome⟩ := h
  refine ⟨fun n hn hm => ?_, hsome.imp_left fun ⟨n, hn⟩ => ?_⟩
  · have agreed := hall n
    rw [slotGet_fixedRoll early s hn, if_pos hm] at agreed
    exact Option.some.inj (agreed rfl)
  · have hlt := slotGet_inRange hn
    rw [slotGet_fixedRoll early s hlt] at hn
    split at hn
    · exact ⟨n, hlt, ‹_›⟩
    · simp at hn

/-- Settles O36: the negotiator alone agrees to an ask, and each of its three ways reads the roll that it decides. -/
theorem stoppingOnlyFromAsking : Obligations.StoppingOnlyFromAsking := by
  intro c s t e ht hs passes agreed
  obtain rfl | rfl | ⟨octets, own, rfl, hr⟩ := mayStop_cases (exec_stops e ht hs)
  · obtain ⟨hd, hidle, k, early, f, hask, hflight, hkind, hseq, hdecided⟩ := attemptSent_stops e ht hs
    exact ⟨hd, hidle, .inl ⟨k, early, f, rfl, hask, hflight, hkind, hseq, hdecided.early⟩⟩
  · obtain ⟨hd, hidle, i, old, x, k, hask, hk, hmember, hmoves, u, roll, hroll, hsettings, hrows, hall, hsome⟩ :=
      refreshTick_stops e ht hs
    refine ⟨hd, hidle, .inr (.inr ⟨i, old, x, k, rfl, hask, hk, hmember, hmoves, fun n ⟨_, hn, hleft⟩ => ?_, ?_⟩)⟩
    · have kept : slotGet roll n none = slotGet old n none := by rw [hroll, if_neg hleft]
      have := hall n (kept ▸ hn)
      rwa [kept] at this
    · refine hsome.imp (fun ⟨n, hn⟩ => ?_) fun hp => ⟨u, hsettings, hp, hrows⟩
      have hlt := slotGet_inRange hn
      rw [hroll] at hn
      split at hn
      · simp at hn
      · exact ⟨n, hlt, hn, ‹_›⟩
  · obtain ⟨hd, hidle, roll, x, hask, hkind, h⟩ := frameComplete_stops e hr ht hs
    exact ⟨hd, hidle, .inr (.inl ⟨_, roll, x, _, octets, own, rfl, hask, rfl, hkind, h.addressee, rfl, h.agrees, h.member,
      fun m _ hm => h.others m hm⟩)⟩

end Sys2Proof.Machine
end

section
/-! SUPPORT. The octets of a frame and the pattern it makes on the line (R4, R5, R16, R18, R19, R191). -/

namespace Sys2Proof.Machine

/-! ### Octets and numbers -/

theorem octetOf_toNat (n : Nat) : (octetOf n).toNat = n % 256 := by simp [octetOf]

theorem octetOf_toNat_of_lt {n : Nat} (h : n < 256) : (octetOf n).toNat = n := by
  rw [octetOf_toNat, Nat.mod_eq_of_lt h]

/-- A 16-bit field holds the number placed in it (00_scope.md, Numbers). -/
theorem number16_octets {n : Nat} (h : n ≤ 65535) : number16 (octetOf n) (octetOf (n / 256)) = n := by
  rw [number16, octetOf_toNat, octetOf_toNat]
  omega

/-- A number below the mark of "not valid" is read back from its field. -/
theorem field16_octets {n : Nat} (h : n ≤ 65534) : field16 (octetOf n) (octetOf (n / 256)) = some n := by
  rw [field16, number16_octets (by omega)]
  exact if_neg (by omega)

/-- A measured value is read back as it is sent, an absent one as absent (R19). -/
theorem field16_fieldNumber {v : Option Nat} (h : ∀ n, v = some n → n ≤ 65535) :
    field16 (octetOf (fieldNumber v)) (octetOf (fieldNumber v / 256)) = v.map sentValue := by
  cases v with
  | none => decide
  | some n =>
    have hn := h n rfl
    refine field16_octets ?_
    simp only [fieldNumber]
    split <;> omega

/-! ### The codes of R18 and R191 -/

theorem role_code_lt (r : Role) : r.code < 3 := by cases r <;> decide

theorem roleOfCode_code (r : Role) : roleOfCode r.code = some r := by cases r <;> rfl

theorem kind_code_lt (k : FrameKind) : k.code < 8 := by cases k <;> decide

theorem kindOfCode_code (k : FrameKind) : kindOfCode k.code = some k := by cases k <;> rfl

theorem payloadLength_le (k : FrameKind) : k.payloadLength ≤ 7 := by cases k <;> decide

theorem verdictOfCode_code (v : Verdict) : verdictOfCode (octetOf v.code).toNat = some v := by cases v <;> decide

theorem dutyOfCode_code (d : Duty) : dutyOfCode (octetOf d.code).toNat = some d := by cases d <;> decide

/-! ### A frame's octets (R19, R191) -/

theorem payload_octets_length (p : Payload) : p.octets.length = p.kind.payloadLength := by cases p <;> rfl

/-- The octets of a frame that the CRC is taken over. -/
def frameBody (station roleCode : Nat) (p : Payload) (seq : Octet) : List Octet :=
  headerOctets station roleCode p.kind seq ++ p.octets

theorem frameOctets_eq (station roleCode : Nat) (p : Payload) (seq : Octet) :
    frameOctets station roleCode p seq = frameBody station roleCode p seq ++ crcOctets (frameBody station roleCode p seq) :=
  rfl

theorem frameBody_length (station roleCode : Nat) (p : Payload) (seq : Octet) :
    (frameBody station roleCode p seq).length = 3 + p.kind.payloadLength := by
  simp [frameBody, headerOctets, payload_octets_length]
  omega

theorem crcOctets_length (octets : List Octet) : (crcOctets octets).length = 2 := rfl

theorem frameOctets_length (station roleCode : Nat) (p : Payload) (seq : Octet) :
    (frameOctets station roleCode p seq).length = 5 + p.kind.payloadLength := by
  simp [frameOctets_eq, frameBody_length, crcOctets_length]
  omega

/-- A receiver takes the two octets of the CRC off again. -/
theorem take_frameOctets (station roleCode : Nat) (p : Payload) (seq : Octet) :
    (frameOctets station roleCode p seq).take ((frameOctets station roleCode p seq).length - 2) =
      frameBody station roleCode p seq := by
  simp [frameOctets_eq, crcOctets_length]

theorem drop_frameOctets (station roleCode : Nat) (p : Payload) (seq : Octet) :
    (frameOctets station roleCode p seq).drop ((frameOctets station roleCode p seq).length - 2) =
      crcOctets (frameBody station roleCode p seq) := by
  simp [frameOctets_eq, crcOctets_length]

/-- LIF finds nothing wrong with a frame as it was sent (R14 to R16). -/
theorem lifReason_frameOctets (station roleCode : Nat) (p : Payload) (seq : Octet) :
    lifReason (frameOctets station roleCode p seq) = none := by
  have hlen := frameOctets_length station roleCode p seq
  have hcrc : crcPasses (frameOctets station roleCode p seq) = true := by
    rw [crcPasses, take_frameOctets, drop_frameOctets]
    simp [hlen]
    omega
  rw [lifReason, if_neg (by omega), if_pos hcrc]

/-- What every receiver reads from the header of a sent frame (R191). -/
theorem header_reads {station : Nat} (role : Role) (p : Payload) (seq : Octet) (h : station ≤ 31) :
    let body := frameBody station role.code p seq
    topBitOf (body.getD 0 0) = false ∧ senderOf (body.getD 0 0) = station ∧ roleCodeOf (body.getD 0 0) = role.code ∧
      kindCodeOf (body.getD 1 0) = p.kind.code ∧ payloadLengthOf (body.getD 1 0) = p.kind.payloadLength ∧
      body.getD 2 0 = seq ∧ body.drop 3 = p.octets := by
  have hrole := role_code_lt role
  have hkind := kind_code_lt p.kind
  have hlen := payloadLength_le p.kind
  have h0 : (octetOf (station % 32 + 32 * (role.code % 4))).toNat = station + 32 * role.code := by
    rw [octetOf_toNat]
    omega
  have h1 : (octetOf (p.kind.code + 8 * p.kind.payloadLength)).toNat = p.kind.code + 8 * p.kind.payloadLength :=
    octetOf_toNat_of_lt (by omega)
  simp only [frameBody, headerOctets, List.cons_append, List.nil_append, List.getD_cons_zero, List.getD_cons_succ,
    topBitOf, senderOf, roleCodeOf, kindCodeOf, payloadLengthOf, h0, h1, decide_eq_false_iff_not]
  exact ⟨by omega, by omega, by omega, by omega, by omega, trivial, rfl⟩

/-- FRH finds nothing wrong with a sent frame (R20). -/
theorem frhReason_frameBody {station : Nat} (role : Role) (p : Payload) (seq : Octet) (h : station ≤ 31) :
    frhReason (frameBody station role.code p seq) = none := by
  obtain ⟨htop, -, hrole, hkind, hlen, -, -⟩ := header_reads role p seq h
  simp only [frhReason, htop, hrole, hkind, hlen, roleOfCode_code, kindOfCode_code, frameBody_length]
  simp

/-- Each field of a payload is read back as it was placed (R19, R43 to R45). -/
theorem payload_readsBack (p : Payload) (h : p.inRange) : readsBack p p.octets := by
  cases p with
  | trip cause => rfl
  | clear => rfl
  | restReply addressee askSeq verdict =>
    have haddr : addressee ≤ 31 := h
    exact ⟨octetOf_toNat_of_lt (by omega), rfl, verdictOfCode_code verdict⟩
  | restAsk capacity => exact field16_octets h
  | demand flow cause =>
    obtain ⟨hflow, hcause⟩ := h
    exact ⟨field16_octets hflow, octetOf_toNat_of_lt (by omega)⟩
  | stateReport duty capacity flow silica =>
    obtain ⟨hcapacity, hflow, hsilica⟩ := h
    have small (x : Nat) (hx : silica = some x) : x ≤ 2000 := hsilica x hx
    have hfield : silicaField (octetOf (fieldNumber silica)) (octetOf (fieldNumber silica / 256)) = silica := by
      rw [silicaField, field16_fieldNumber fun x hx => (small x hx).trans (by decide)]
      cases silica with
      | none => rfl
      | some x =>
        have hx := small x rfl
        have hsent : sentValue x = x := if_neg (by omega)
        simp [hsent, hx]
    exact WellPart.ext (dutyOfCode_code duty) (field16_octets hcapacity) (field16_fieldNumber hflow) hfield

/-! ### The cells of an attempt (R4, R5) -/

theorem octetBits_length (o : Octet) : (octetBits o).length = 8 := by simp [octetBits]

/-- The half-cells of the data of a frame. -/
def dataWave (octets : List Octet) : List HalfCell := (octets.flatMap octetBits).flatMap dataCell

theorem dataWave_length (octets : List Octet) : (dataWave octets).length = 16 * octets.length := by
  simp [dataWave, dataCell, cell, octetBits_length]
  omega

theorem attemptWave_eq (kind : FrameKind) (octets : List Octet) :
    attemptWave kind octets =
      (List.replicate kind.leadIn (cell .lead true true)).flatten ++
        (cell .mark false false ++ (cell .mark true true ++
          (dataWave octets ++ (cell .close true true ++ cell .check false false)))) := by
  simp [attemptWave, dataWave]

theorem leadWave_length (k : Nat) : (List.replicate k (cell .lead true true)).flatten.length = 2 * k := by
  simp [cell]
  omega

theorem attemptWave_length (kind : FrameKind) (octets : List Octet) :
    (attemptWave kind octets).length = 2 * (kind.leadIn + 4 + 8 * octets.length) := by
  rw [attemptWave_eq, List.length_append, leadWave_length]
  simp only [List.length_append, dataWave_length, cell, List.length_cons, List.length_nil]
  omega

/-- Settles O8: the length by the cells of each part of the frame, the fields octet by octet. -/
theorem sentFrameReadsBack : Obligations.SentFrameReadsBack := by
  refine ⟨fun station role p seq => ?_, fun station role p seq hstation hrange => ?_⟩
  · rw [attemptWave_length, frameOctets_length]
    cases p.kind <;> rfl
  · dsimp only
    rw [take_frameOctets]
    obtain ⟨-, hsender, hrole, hkind, -, hseq, hpayload⟩ := header_reads role p seq hstation
    rw [hsender, hrole, hkind, hseq, hpayload]
    exact ⟨lifReason_frameOctets .., frhReason_frameBody role p seq hstation, rfl, roleOfCode_code role,
      kindOfCode_code p.kind, rfl, payload_readsBack p hrange⟩

end Sys2Proof.Machine
end

section
/-! SUPPORT. The half-cell on the line: the echo check of an attempt, cell by cell (R8 to R11), and the cells a receiver gathers
(R14, R15). -/

namespace Sys2Proof.Machine

/-! ### The idle step and the events of LIF (log 2, 37) -/

theorem step_of_no_command {s : State} (h : s.pending = []) : step s = .next (idle s) := by simp [step, h]

theorem attemptEnded_iff (t : TxSide) : attemptEnded t = true ↔ ∃ cut failed, t = .sending [] cut failed := by
  unfold attemptEnded
  split
  · simp
  · rename_i hne
    simpa using fun cut failed => hne cut failed

/-- What is due before the next half-cell: a report of LIF, the outcome of an attempt, or the end of a quiet gap. -/
theorem lifEventDue_iff (s : State) :
    lifEventDue s = true ↔
      s.lif.report ≠ none ∨ (∃ cut failed, s.lif.tx = .sending [] cut failed) ∨ gapReached s = true := by
  simp [lifEventDue, attemptEnded_iff, Option.isSome_iff_ne_none, or_assoc]

/-- With nothing due, a half-cell ends on the line. -/
theorem lineAdvance_of_not_due {s : State}
    (h : ¬ (s.lif.report ≠ none ∨ (∃ cut failed, s.lif.tx = .sending [] cut failed) ∨ gapReached s = true)) :
    lineAdvance s = halfCellEnds s := by
  obtain ⟨hdue, -⟩ | ⟨-, e⟩ := lineAdvance_cases s
  · exact absurd ((lifEventDue_iff s).mp hdue) h
  · exact e

/-- With an event of LIF due, the line stands. -/
theorem lineAdvance_of_due {s : State}
    (h : s.lif.report ≠ none ∨ (∃ cut failed, s.lif.tx = .sending [] cut failed) ∨ gapReached s = true) :
    lineAdvance s = s := if_pos ((lifEventDue_iff s).mpr h)

/-! ### The cells of an attempt (R4, R5, R6) -/

/-- The cells that an attempt sends: their transmit state and their two halves. -/
inductive SentCell : TxState → Bool → Bool → Prop
  | lead : SentCell .lead true true
  | mark (b : Bool) : SentCell .mark b b
  | data (b : Bool) : SentCell .data b (!b)
  | close : SentCell .close true true
  | check : SentCell .check false false

/-- The cells of an attempt in order, each with its transmit state and its two halves. -/
def attemptCells (kind : FrameKind) (octets : List Octet) : List (TxState × Bool × Bool) :=
  List.replicate kind.leadIn (.lead, true, true) ++ [(.mark, false, false), (.mark, true, true)] ++
    (octets.flatMap octetBits).map (fun b => (.data, b, !b)) ++ [(.close, true, true), (.check, false, false)]

/-- The half-cells of a run of cells. -/
def halvesOf (cells : List (TxState × Bool × Bool)) : List HalfCell := cells.flatMap fun c => cell c.1 c.2.1 c.2.2

theorem attemptWave_halves (kind : FrameKind) (octets : List Octet) :
    attemptWave kind octets = halvesOf (attemptCells kind octets) := by
  have hlead (n : Nat) : (List.replicate n (cell .lead true true)).flatten =
      halvesOf (List.replicate n (.lead, true, true)) := by
    simp [halvesOf, List.flatMap]
  simp [attemptWave, hlead, attemptCells, halvesOf, List.flatMap_map]
  rfl

theorem sentCell_of_mem {kind : FrameKind} {octets : List Octet} {c : TxState × Bool × Bool}
    (h : c ∈ attemptCells kind octets) : SentCell c.1 c.2.1 c.2.2 := by
  simp only [attemptCells, List.mem_append, List.mem_replicate, List.mem_map, List.mem_cons, List.not_mem_nil, or_false] at h
  obtain ((⟨-, rfl⟩ | rfl | rfl) | ⟨b, -, rfl⟩) | rfl | rfl := h
  exacts [.lead, .mark false, .mark true, .data b, .close, .check]

theorem halvesOf_length (cells : List (TxState × Bool × Bool)) : (halvesOf cells).length % 2 = 0 := by
  simp [halvesOf, cell]

/-- A half-cell of a run of cells is the first half of its cell, with the second to follow, or the second half. -/
theorem halvesOf_split {cells : List (TxState × Bool × Bool)} {sent wave : List HalfCell} {h : HalfCell}
    (e : halvesOf cells = sent ++ h :: wave) :
    ∃ c ∈ cells,
      (sent.length % 2 = 0 ∧ h = ⟨c.1, c.2.1⟩ ∧ ∃ rest, wave = ⟨c.1, c.2.2⟩ :: rest ∧ rest.length % 2 = 0) ∨
        (sent.length % 2 = 1 ∧ h = ⟨c.1, c.2.2⟩ ∧ wave.length % 2 = 0) := by
  induction cells generalizing sent with
  | nil => simp [halvesOf] at e
  | cons c cells ih =>
    have e' : (⟨c.1, c.2.1⟩ : HalfCell) :: ⟨c.1, c.2.2⟩ :: halvesOf cells = sent ++ h :: wave := e
    match sent, e' with
    | [], e' =>
      simp only [List.nil_append, List.cons.injEq] at e'
      obtain ⟨rfl, rfl⟩ := e'
      exact ⟨c, List.mem_cons_self, .inl ⟨rfl, rfl, _, rfl, halvesOf_length cells⟩⟩
    | [x], e' =>
      simp only [List.cons_append, List.nil_append, List.cons.injEq] at e'
      obtain ⟨-, rfl, rfl⟩ := e'
      exact ⟨c, List.mem_cons_self, .inr ⟨rfl, rfl, halvesOf_length cells⟩⟩
    | x :: y :: sent, e' =>
      simp only [List.cons_append, List.cons.injEq] at e'
      obtain ⟨-, -, e'⟩ := e'
      obtain ⟨d, hd, found⟩ := ih e'
      refine ⟨d, List.mem_cons_of_mem c hd, ?_⟩
      simpa only [List.length_cons, Nat.add_mod_right, Nat.add_assoc] using found

/-- The rest of a cell cut off at its first half is its second half. -/
theorem cutWave_tail_first (h x : HalfCell) {rest : List HalfCell} (hr : rest.length % 2 = 0) :
    (cutWave (h :: x :: rest)).tail = [x] := by
  simp [cutWave, show (rest.length + 1 + 1) % 2 = 0 by omega]

/-- Of a cell cut off at its second half nothing is left. -/
theorem cutWave_tail_second (h : HalfCell) {wave : List HalfCell} (hw : wave.length % 2 = 0) :
    (cutWave (h :: wave)).tail = [] := by
  simp [cutWave, show ¬ (wave.length + 1) % 2 = 0 by omega]

/-- The transmit side of an attempt under way, after a half-cell (R8). -/
theorem idle_tx_of_sending {s : State} {h : HalfCell} {wave : List HalfCell} {cut : Bool} {failed : Option FailPoint}
    (hr : s.lif.report = none) (ht : s.lif.tx = .sending (h :: wave) cut failed) :
    (idle s).lif.tx = sendHalf s.pins.lineDominant (.sending (h :: wave) cut failed) := by
  have hgap : gapReached s = false := gapReached_sending s (by simp [isSending, ht])
  obtain ⟨-, hlif, -, -⟩ := idle_parts s
  rw [hlif, lineAdvance_of_not_due (by simp [hr, ht, hgap]), halfCellEnds, ht]

/-- A selection made with nothing on the transmit side (R34). -/
theorem select_of_tx_none (s : State) (h : s.lif.tx = .none) :
    select s = { s with lif := { s.lif with
      tx := if s.frh.lineState = .active then selectedTx s s.frh.outbox else .none } } := by
  by_cases ha : s.frh.lineState = .active
  · have tx := select_hands_over s ha (by simp [isSending, h])
    rw [if_pos ha, ← tx]
    ext <;> simp
  · rw [select_stands s (.inl ha), if_neg ha, ← h]

/-- The mismatch of a recessive half-cell leaves its point and the rest of its cell (R8). -/
theorem mismatch_leaves {kind : FrameKind} {octets : List Octet} {sent wave : List HalfCell} {h : HalfCell}
    (hd : h.dominant = false) (e : attemptWave kind octets = sent ++ h :: wave) :
    ((h.phase = .mark ∧ failPointOf h.phase = .leadMark) ∨ (h.phase = .data ∧ failPointOf h.phase = .data) ∨
        (h.phase = .check ∧ failPointOf h.phase = .check)) ∧
      (sent.length % 2 = 1 → (cutWave (h :: wave)).tail = []) ∧
      (sent.length % 2 = 0 →
        (cutWave (h :: wave)).tail = [{ phase := h.phase, dominant := h.phase == .data }] ∧
          ∃ rest, wave = (cutWave (h :: wave)).tail ++ rest) := by
  rw [attemptWave_halves] at e
  obtain ⟨⟨phase, first, second⟩, hm, ⟨heven, rfl, rest, rfl, hrest⟩ | ⟨hodd, rfl, hwave⟩⟩ := halvesOf_split e
  all_goals have hc : SentCell phase first second := sentCell_of_mem hm
  · refine ⟨?_, fun hodd => absurd heven (by omega), fun _ => ?_⟩
    · cases hc <;> simp_all [failPointOf]
    · rw [cutWave_tail_first _ _ hrest]
      refine ⟨?_, rest, rfl⟩
      cases hc <;> simp_all
  · refine ⟨?_, fun _ => cutWave_tail_second _ hwave, fun heven => absurd heven (by omega)⟩
    cases hc <;> simp_all [failPointOf]

/-- Settles O9: an attempt is a run of cells, and a mismatch lies in the first or the second half of one of them. -/
theorem echoCheckEndsAttempt : Obligations.EchoCheckEndsAttempt := by
  refine ⟨fun s => ⟨fun h wave cut failed ht => ?_, fun hn => ?_⟩, fun kind octets h hm => ?_,
    fun s h wave cut hp hr => ⟨fun ht => ?_, fun p ht => ?_⟩, fun s failed hw ht => ?_⟩
  · have drives : drivesDominant s = h.dominant := by simp [drivesDominant, ht]
    constructor <;> intro hd <;> simp [lineTx, driveEn, drives, hd]
  · have rests : drivesDominant s = false := by
      unfold drivesDominant
      split
      · exact absurd ‹_› (hn _ _ _ _)
      · rfl
    simp [lineTx, driveEn, rests]
  · rw [attemptWave_halves, halvesOf, List.mem_flatMap] at hm
    obtain ⟨⟨phase, first, second⟩, hm, hh⟩ := hm
    have hc : SentCell phase first second := sentCell_of_mem hm
    have hh : h = ⟨phase, first⟩ ∨ h = ⟨phase, second⟩ := by simpa [cell] using hh
    cases hc <;> obtain rfl | rfl := hh <;> simp
  · refine ⟨idle s, step_of_no_command hp, fun hm => ?_, fun hd hl kind octets sent e => ?_⟩
    · rw [idle_tx_of_sending hr ht, sendHalf_matches]
      obtain hm | hm := hm <;> simp [echoMismatch, hm]
    · rw [idle_tx_of_sending hr ht, sendHalf_mismatches _ _ _ _ (by simp [echoMismatch, hd, hl])]
      exact ⟨_, _, rfl, mismatch_leaves hd e⟩
  · exact ⟨idle s, step_of_no_command hp, by rw [idle_tx_of_sending hr ht, sendHalf_failed]⟩
  · have ended : exec .cutAttemptEnd s = .next (select (setTx .none s)) := by
      simp [exec, execCutAttemptEnd, hw, ht]
    rw [ended, select_of_tx_none _ rfl]
    rfl

end Sys2Proof.Machine
end

section
/-! SUPPORT. What a receiver makes of the cells of a frame (R4, R14, R15). -/

namespace Sys2Proof.Machine

/-! ### Bits and octets (R4) -/

theorem testBit_of_bits (bits : List Bool) (i : Nat) :
    (bits.foldr (fun (b : Bool) (n : Nat) => b.toNat + 2 * n) 0).testBit i = bits.getD i false := by
  induction bits generalizing i with
  | nil => simp
  | cons b bits ih =>
    have hbit (n : Nat) : b.toNat + 2 * n = Nat.bit b n := by rw [Nat.bit_val, Nat.add_comm]
    rw [List.foldr_cons, hbit]
    cases i with
    | zero => simp
    | succ i => simpa [Nat.testBit_bit_succ] using ih i

/-- The first of eight bits is the octet's lowest. -/
theorem octetOfBits_getLsbD (bits : List Bool) {i : Nat} (h : i < 8) :
    (octetOfBits bits).getLsbD i = bits.getD i false := by
  rw [octetOfBits, octetOf, BitVec.getLsbD_ofNat, testBit_of_bits]
  simp [h]

/-- The bits of an octet make that octet again. -/
theorem octetOfBits_octetBits (o : Octet) : octetOfBits (octetBits o) = o := by
  refine BitVec.eq_of_getLsbD_eq fun i hi => ?_
  rw [octetOfBits_getLsbD _ hi]
  simp [octetBits, hi]

/-! ### One cell (R14, R15) -/

/-- A data cell within the 36 octets adds its bit. -/
theorem dataCellEnds_bit (bit : Bool) {c : RxCells} (ho : c.octets.length < 36) (hb : c.bits.length < 7) :
    dataCellEnds bit c = ({ c with bits := c.bits ++ [bit] }, none) := by
  rw [dataCellEnds, if_neg (by omega), if_pos hb]

/-- The eighth bit completes an octet, and the third octet the header. -/
theorem dataCellEnds_octet (bit : Bool) {c : RxCells} (ho : c.octets.length < 36) (hb : c.bits.length = 7) :
    dataCellEnds bit c =
      ({ c with bits := [], octets := c.octets ++ [octetOfBits (c.bits ++ [bit])] },
        if c.octets.length = 2 then some .header else none) := by
  rw [dataCellEnds, if_neg (by omega), if_neg (by omega)]

/-- A cell after the 36th octet is malformed. -/
theorem dataCellEnds_long (bit : Bool) {c : RxCells} (ho : 36 ≤ c.octets.length) :
    dataCellEnds bit c = (c, some (.malformed 4)) := by
  rw [dataCellEnds, if_pos ho]

/-- The end of the mark's cell (log 36). -/
theorem cellEnds_mark (first second ownEcho : Bool) {c : RxCells} (h : c.markDue = true) :
    cellEnds first second ownEcho c = ({ c with firstHalf := none, markDue := false }, none) := by
  simp [cellEnds, h]

/-- A cell of two unlike halves is a data cell. -/
theorem cellEnds_data {first second : Bool} (ownEcho : Bool) {c : RxCells} (h : c.markDue = false) (hne : first ≠ second) :
    cellEnds first second ownEcho c = dataCellEnds first { c with firstHalf := none } := by
  simp [cellEnds, h, hne]

/-- A cell of two like halves is a violation. -/
theorem cellEnds_violation (level ownEcho : Bool) {c : RxCells} (h : c.markDue = false) :
    cellEnds level level ownEcho c =
      ({ c with firstHalf := none }, some (violationReport level ownEcho { c with firstHalf := none })) := by
  simp [cellEnds, h]

/-- The report of a violation cell, by its place and its level (R14, R15). -/
theorem violationReport_eq (level ownEcho : Bool) (c : RxCells) :
    violationReport level ownEcho c =
      if c.bits ≠ [] then .malformed 1
      else if level = false then .malformed 2
      else if c.octets.length < 5 then .malformed 3
      else if crcPasses c.octets = false then .malformed 5
      else .complete ownEcho := by
  by_cases hbits : c.bits = [] <;> cases level <;> simp [violationReport, hbits]
  by_cases hlen : c.octets.length < 5
  · simp [lifReason, hlen]
  · cases hcrc : crcPasses c.octets <;> simp [lifReason, hlen, hcrc]

/-- The cells and the report of a half-cell heard in DATA (R14). -/
theorem idle_hears {s : State} (hw : works s = true) (hrx : s.lif.rx = .data)
    (h : ¬ (s.lif.report ≠ none ∨ (∃ cut failed, s.lif.tx = .sending [] cut failed) ∨ gapReached s = true)) :
    ((idle s).lif.cells, (idle s).lif.report) = hearHalf s.pins.lineDominant (txState s == .close) s.lif.cells := by
  obtain ⟨-, hlif, -, -⟩ := idle_parts s
  rw [hlif, lineAdvance_of_not_due h]
  simp [halfCellEnds, hear, hw, hrx]

/-- Settles O10: the half-cell is the first of its cell, or ends the mark's cell, a data cell or a violation. -/
theorem receiverReadsCells : Obligations.ReceiverReadsCells := by
  intro s hp hw hrx hreport htx hgap
  have hidle := idle_hears hw hrx (by simp [hreport, htx, hgap])
  refine ⟨idle s, step_of_no_command hp, fun hfirst => ?_, fun first hfirst => ?_⟩
  · rw [hearHalf, hfirst] at hidle
    simpa using hidle
  · have hcell : ((idle s).lif.cells, (idle s).lif.report) =
        cellEnds first s.pins.lineDominant (txState s == .close) s.lif.cells := by
      rw [hidle, hearHalf, hfirst]
    refine ⟨fun hm => ?_, fun hm hne => ?_, fun hm heq => ?_⟩
    · rw [cellEnds_mark _ _ _ hm] at hcell
      simpa using hcell
    · rw [cellEnds_data _ hm hne] at hcell
      refine ⟨fun ho => ?_, fun ho hb => ?_, fun ho hb => ?_⟩
      · rw [dataCellEnds_long first (c := { s.lif.cells with firstHalf := none }) ho] at hcell
        exact (Prod.mk.inj hcell).2
      · rw [dataCellEnds_bit first (c := { s.lif.cells with firstHalf := none }) ho hb] at hcell
        simpa using hcell
      · rw [dataCellEnds_octet first (c := { s.lif.cells with firstHalf := none }) ho hb] at hcell
        obtain ⟨hcells, hrep⟩ := Prod.mk.inj hcell
        exact ⟨_, hcells, fun i hi => octetOfBits_getLsbD _ hi, hrep⟩
    · subst heq
      rw [cellEnds_violation _ _ hm, violationReport_eq] at hcell
      obtain ⟨hcells, hrep⟩ := Prod.mk.inj hcell
      exact ⟨by rw [hcells], hrep⟩

/-! ### A whole frame (R4, R5, R14) -/

theorem heard_foldl (e : Bool) (c : RxCells) (reports : List RxReport) (levels : List Bool) :
    levels.foldl (fun r level => ((hearHalf level e r.1).1, r.2 ++ (hearHalf level e r.1).2.toList)) (c, reports) =
      ((heard e c levels).1, reports ++ (heard e c levels).2) := by
  induction levels generalizing c reports with
  | nil => simp [heard]
  | cons level levels ih =>
    have hcons : heard e c (level :: levels) = levels.foldl
        (fun r level => ((hearHalf level e r.1).1, r.2 ++ (hearHalf level e r.1).2.toList))
        ((hearHalf level e c).1, (hearHalf level e c).2.toList) := rfl
    rw [List.foldl_cons, ih, hcons, ih, List.append_assoc]

/-- Levels heard one run after the other. -/
theorem heard_append (e : Bool) (c : RxCells) (l l' : List Bool) :
    heard e c (l ++ l') =
      ((heard e (heard e c l).1 l').1, (heard e c l).2 ++ (heard e (heard e c l).1 l').2) := by
  rw [heard, List.foldl_append]
  exact heard_foldl ..

/-- One half-cell heard. -/
theorem heard_one (e level : Bool) (c : RxCells) :
    heard e c [level] = ((hearHalf level e c).1, (hearHalf level e c).2.toList) := by
  simp [heard]

/-- A receiver in DATA at the start of a cell. -/
def cellStart (bits : List Bool) (octets : List Octet) : RxCells :=
  { markDue := false, firstHalf := none, bits := bits, octets := octets }

/-- The mark's cell passes without a bit. -/
theorem heard_mark (e a b : Bool) : heard e RxCells.start [a, b] = (cellStart [] [], []) := rfl

/-- The levels of a data cell. -/
def bitLevels (b : Bool) : List Bool := [b, !b]

/-- The bits of an octet that its last one does not complete are gathered without a report. -/
theorem heard_bits (e : Bool) {octets : List Octet} (ho : octets.length < 36) (bits more : List Bool)
    (h : bits.length + more.length ≤ 7) :
    heard e (cellStart bits octets) (more.flatMap bitLevels) = (cellStart (bits ++ more) octets, []) := by
  induction more generalizing bits with
  | nil => simp [heard]
  | cons b more ih =>
    rw [List.length_cons] at h
    have hbit : heard e (cellStart bits octets) (bitLevels b) = (cellStart (bits ++ [b]) octets, []) := by
      have hcell := cellEnds_data (first := b) (second := !b) e (c := { cellStart bits octets with firstHalf := some b })
        rfl (by simp)
      rw [dataCellEnds_bit b ho (show bits.length < 7 by omega)] at hcell
      simp [heard, bitLevels, hearHalf, cellStart] at hcell ⊢
      simp [hcell]
    rw [List.flatMap_cons, heard_append, hbit, ih (bits ++ [b]) (by simp; omega)]
    simp

/-- The levels of the data of a frame. -/
def dataLevels (octets : List Octet) : List Bool := (octets.flatMap octetBits).flatMap bitLevels

theorem dataLevels_cons (o : Octet) (octets : List Octet) :
    dataLevels (o :: octets) = dataLevels [o] ++ dataLevels octets := by
  simp [dataLevels]

theorem dataLevels_length (octets : List Octet) : (dataLevels octets).length = 16 * octets.length := by
  simp [dataLevels, bitLevels, octetBits_length]
  omega

/-- The levels of an octet up to the last half-cell. -/
def octetHead (o : Octet) : List Bool := ((octetBits o).take 7).flatMap bitLevels ++ [o.getLsbD 7]

theorem dataLevels_one (o : Octet) : dataLevels [o] = octetHead o ++ [!o.getLsbD 7] := by
  simp [dataLevels, octetHead, octetBits, bitLevels, List.range_succ]

theorem octetHead_length (o : Octet) : (octetHead o).length = 15 := by simp [octetHead, bitLevels, octetBits_length]

/-- The receiver before the last half-cell of an octet. -/
def beforeLastHalf (o : Octet) (octets : List Octet) : RxCells :=
  { cellStart ((octetBits o).take 7) octets with firstHalf := some (o.getLsbD 7) }

theorem heard_octetHead (e : Bool) {octets : List Octet} (ho : octets.length < 36) (o : Octet) :
    heard e (cellStart [] octets) (octetHead o) = (beforeLastHalf o octets, []) := by
  rw [octetHead, heard_append, heard_bits e ho [] _ (by simp [octetBits_length])]
  rfl

/-- The last half-cell of an octet completes it. -/
theorem heard_lastHalf (e : Bool) {octets : List Octet} (ho : octets.length < 36) (o : Octet) :
    heard e (beforeLastHalf o octets) [!o.getLsbD 7] =
      (cellStart [] (octets ++ [o]), if octets.length = 2 then [.header] else []) := by
  have hcell : cellEnds (o.getLsbD 7) (!o.getLsbD 7) e (beforeLastHalf o octets) =
      (cellStart [] (octets ++ [o]), if octets.length = 2 then some .header else none) := by
    rw [cellEnds_data e rfl (by simp), dataCellEnds_octet _ ho (by simp [beforeLastHalf, cellStart, octetBits_length])]
    have hbits : octetOfBits ((octetBits o).take 7 ++ [o.getLsbD 7]) = o :=
      (congrArg octetOfBits (by simp [octetBits, List.range_succ])).trans (octetOfBits_octetBits o)
    rw [show (beforeLastHalf o octets).bits = (octetBits o).take 7 from rfl, hbits]
    rfl
  rw [heard_one]
  simp only [hearHalf, beforeLastHalf, cellStart] at hcell ⊢
  rw [hcell]
  split <;> rfl

/-- The header arrival is reported where the third octet lies among those heard. -/
theorem heard_octets (e : Bool) (octets more : List Octet) (h : octets.length + more.length ≤ 36) :
    heard e (cellStart [] octets) (dataLevels more) =
      (cellStart [] (octets ++ more), if octets.length ≤ 2 ∧ 3 ≤ octets.length + more.length then [.header] else []) := by
  induction more generalizing octets with
  | nil => simp [heard, dataLevels]; omega
  | cons o more ih =>
    rw [List.length_cons] at h
    rw [dataLevels_cons, heard_append, dataLevels_one, heard_append, heard_octetHead e (by omega), heard_lastHalf e (by omega),
      ih (octets ++ [o]) (by simp; omega)]
    simp only [List.append_assoc, List.singleton_append, List.length_append, List.length_cons, List.length_nil, Prod.mk.injEq, true_and]
    split_ifs <;> simp <;> omega

/-- The closer completes a frame that LIF finds nothing wrong with. -/
theorem heard_closer (e : Bool) {octets : List Octet} (h : lifReason octets = none) :
    heard e (cellStart [] octets) [true] = ({ cellStart [] octets with firstHalf := some true }, []) ∧
    heard e (cellStart [] octets) [true, true] = (cellStart [] octets, [.complete e]) := by
  refine ⟨rfl, ?_⟩
  simp [heard, hearHalf, cellEnds, cellStart, violationReport, h]

/-- The levels of an attempt from the mark's dominant cell to the closer's dominant cell. -/
theorem levels_fromMark (kind : FrameKind) (octets : List Octet) :
    (((attemptWave kind octets).map (·.dominant)).drop (2 * kind.leadIn + 2)).take (16 * octets.length + 4) =
      [true, true] ++ dataLevels octets ++ [true, true] := by
  have hdata : (dataWave octets).map (·.dominant) = dataLevels octets := by
    simp only [dataWave, dataLevels, List.map_flatMap]
    rfl
  have hwave : (attemptWave kind octets).map (·.dominant) =
      (((List.replicate kind.leadIn (cell .lead true true)).flatten ++ cell .mark false false).map (·.dominant)) ++
        (([true, true] ++ dataLevels octets ++ [true, true]) ++ [false, false]) := by
    simp [attemptWave_eq, hdata, cell]
  rw [hwave, List.drop_left' (by simp [cell, Nat.mul_comm]), List.take_left' (by simp [dataLevels_length])]

/-- The mark's cell and whole octets heard. -/
theorem heard_fromMark (e : Bool) (octets : List Octet) (h : octets.length ≤ 36) :
    heard e RxCells.start ([true, true] ++ dataLevels octets) =
      (cellStart [] octets, if 3 ≤ octets.length then [.header] else []) := by
  rw [heard_append, heard_mark, heard_octets e [] octets (by simpa using h)]
  simp

/-- Settles O11: the mark's cell, then octet by octet, then the closer. -/
theorem sentFrameIsHeard : Obligations.SentFrameIsHeard := by
  intro station role p seq e _ _ octets levels fromMark begun gathered
  have hlen : octets.length = 5 + p.kind.payloadLength := frameOctets_length ..
  have hle := payloadLength_le p.kind
  have hall : fromMark = [true, true] ++ dataLevels octets ++ [true, true] := levels_fromMark p.kind octets
  have heard_all : heard e begun ([true, true] ++ dataLevels octets) = (gathered octets, [.header]) := by
    rw [show begun = RxCells.start from rfl, heard_fromMark e octets (by omega), if_pos (by omega)]
    rfl
  obtain ⟨hone, hboth⟩ := heard_closer e (lifReason_frameOctets station role.code p seq)
  obtain ⟨o0, o1, o2, rest, hocts⟩ : ∃ o0 o1 o2 rest, octets = o0 :: o1 :: o2 :: rest := ⟨_, _, _, _, rfl⟩
  have h49 : fromMark.take 49 = [true, true] ++ dataLevels [o0, o1] ++ octetHead o2 := by
    have hsplit : fromMark = ([true, true] ++ dataLevels [o0, o1] ++ octetHead o2) ++
        ([!o2.getLsbD 7] ++ dataLevels rest ++ [true, true]) := by
      rw [hall, hocts, dataLevels_cons o0, dataLevels_cons o1, dataLevels_cons o2, dataLevels_cons o0 [o1], dataLevels_one o2]
      simp
    rw [hsplit, List.take_left' (by simp [dataLevels_length, octetHead_length])]
  have h50 : fromMark.take 50 = [true, true] ++ dataLevels [o0, o1, o2] := by
    have hsplit : fromMark = ([true, true] ++ dataLevels [o0, o1, o2]) ++ (dataLevels rest ++ [true, true]) := by
      simp [hall, hocts, dataLevels]
    rw [hsplit, List.take_left' (by simp [dataLevels_length])]
  have hlast : fromMark.take (16 * octets.length + 3) = [true, true] ++ dataLevels octets ++ [true] := by
    have hsplit : fromMark = ([true, true] ++ dataLevels octets ++ [true]) ++ [true] := by simp [hall]
    rw [hsplit, List.take_left' (by simp [dataLevels_length])]
  refine ⟨?_, ?_, ?_, ?_, ?_⟩
  · simp [hall, dataLevels_length]
  · rw [h49, heard_append, show begun = RxCells.start from rfl, heard_fromMark e _ (by simp),
      heard_octetHead e (by simp)]
    rfl
  · rw [h50, show begun = RxCells.start from rfl, heard_fromMark e _ (by simp), hocts]
    rfl
  · rw [hlast, heard_append, heard_all]
    rfl
  · rw [hall, heard_append, heard_all, show gathered octets = cellStart [] octets from rfl, hboth]
    rfl

end Sys2Proof.Machine
end

section
/-! SUPPORT. The idle step, and LINE_TRANSITION, MARK_RECESSIVE_TIMEOUT and QUIET_GAP_EXPIRY. -/

namespace Sys2Proof.Machine

/-! ### The idle step (log 2, 37, 43) -/

/-- The bus moves its symbols and its phase, and the wait behind a failed try, and nothing else of the loader. -/
theorem busAdvance_frame (l : Loader) :
    busAdvance l = { l with
      bus := (busAdvance l).bus, busAt := (busAdvance l).busAt, waitDue := (busAdvance l).waitDue
      retryWait := (busAdvance l).retryWait } := by
  obtain ⟨-, e⟩ | ⟨b, rest, -, ⟨-, e⟩ | ⟨-, e⟩⟩ := busAdvance_cases l
  · rw [e]
  · rw [e]
  · obtain ⟨-, -, e'⟩ | ⟨-, e'⟩ := beginWait_cases (withBus rest l) <;> rw [e, e'] <;> rfl

/-- How the bus moves on from its present symbol (R181). -/
theorem busAdvance_symbol {l : Loader} {b : BusSymbol} {rest : List BusSymbol} (h : l.bus = b :: rest) :
    (l.busAt + 1 < b.levels.length → busAdvance l = { l with busAt := l.busAt + 1 }) ∧
      (b.levels.length ≤ l.busAt + 1 → rest ≠ [] ∨ l.waitDue = false → busAdvance l = { l with bus := rest, busAt := 0 }) ∧
      (b.levels.length ≤ l.busAt + 1 → rest = [] → l.waitDue = true →
        busAdvance l = { l with bus := [], busAt := 0, waitDue := false, retryWait := .running 10 }) := by
  refine ⟨fun hin => ?_, fun hout hstands => ?_, fun hout hrest hdue => ?_⟩
  · simp [busAdvance, h, hin]
  · have next : busAdvance l = beginWait (withBus rest l) := by simp [busAdvance, h, not_lt.mpr hout]
    obtain ⟨hdue, hrest, -⟩ | ⟨-, e⟩ := beginWait_cases (withBus rest l)
    · exact absurd (show rest = [] from hrest) (hstands.resolve_right (by simp_all))
    · rw [next, e]
      rfl
  · subst hrest
    have next : busAdvance l = beginWait (withBus [] l) := by simp [busAdvance, h, not_lt.mpr hout]
    rw [next, beginWait]
    simp [hdue, withBus]

/-- What a half-cell may change (R4, R6, R7). -/
theorem lineAdvance_frame (s : State) :
    lineAdvance s = { s with
      pins := { s.pins with lineSince := (lineAdvance s).pins.lineSince }
      lif := { s.lif with
        tx := (lineAdvance s).lif.tx, quiet := (lineAdvance s).lif.quiet, cells := (lineAdvance s).lif.cells
        report := (lineAdvance s).lif.report } } := by
  obtain ⟨-, e⟩ | ⟨-, e⟩ := lineAdvance_cases s
  · rw [e]
  · rw [e]
    rfl

/-- The frame of the idle step. -/
theorem idle_frame (s : State) :
    idle s = { s with
      pins := { s.pins with lineSince := (idle s).pins.lineSince }
      lif := { s.lif with
        tx := (idle s).lif.tx, quiet := (idle s).lif.quiet, cells := (idle s).lif.cells, report := (idle s).lif.report }
      stl := { s.stl with
        bus := (idle s).stl.bus, busAt := (idle s).stl.busAt, waitDue := (idle s).stl.waitDue
        retryWait := (idle s).stl.retryWait }
      dtu := { s.dtu with setpt := (idle s).dtu.setpt } } := by
  obtain ⟨hpins, hlif, hdtu, hstl⟩ := idle_parts s
  have line := lineAdvance_frame s
  have bus := busAdvance_frame s.stl
  ext1
  case pins => simpa [hpins] using congrArg State.pins line
  case stl => simpa [hstl] using bus
  case lif => simpa [hlif] using congrArg State.lif line
  case dtu => simp [hdtu]
  all_goals simp

/-- SETPT moves on to the next bit of its word, and stands on its last (R89). -/
theorem advanceSetpt_cases (l : SetptLine) :
    (∃ o b b' bits w, l = .sending o (b :: b' :: bits) w ∧ advanceSetpt l = .sending o (b' :: bits) w) ∨
      ((∀ o b b' bits w, l ≠ .sending o (b :: b' :: bits) w) ∧ advanceSetpt l = l) := by
  unfold advanceSetpt
  split
  · exact .inl ⟨_, _, _, _, _, rfl, rfl⟩
  · rename_i hne
    exact .inr ⟨fun o b b' bits w => hne o b b' bits w, rfl⟩

/-- Settles O2: the line, SETPT and the bus move each on its own. -/
theorem emptyQueueIdles : Obligations.EmptyQueueIdles := by
  intro s hp due
  obtain ⟨hpins, hlif, hdtu, hstl⟩ := idle_parts s
  refine ⟨idle s, step_of_no_command hp, idle_frame s, fun h => ?_, fun h => ?_, fun h => ?_, fun h => ?_, fun h => ?_,
    fun o b b' bits w h => ?_, fun h => ?_, fun h => ?_, fun b rest h => ?_⟩
  · rw [hlif, hpins, lineAdvance_of_due h]
    exact ⟨rfl, rfl⟩
  · rw [hpins, lineAdvance_of_not_due h]
    simp only [halfCellEnds, cellClocks]
    omega
  · rw [hlif, lineAdvance_of_not_due h]
    rfl
  · rw [hlif]
    obtain ⟨-, e⟩ | ⟨-, e⟩ := lineAdvance_cases s <;> rw [e]
    refine sendHalf_quiet _ _ fun wave cut failed ht => ?_
    simp [isSending, ht] at h
  · rw [hlif]
    obtain ⟨-, e⟩ | ⟨-, e⟩ := lineAdvance_cases s <;> simp [e, halfCellEnds, hear, h]
  · simp [hdtu, h, advanceSetpt]
  · obtain ⟨o, b, b', bits, w, e, -⟩ | ⟨-, e⟩ := advanceSetpt_cases s.dtu.setpt
    · exact absurd e (h o b b' bits w)
    · rw [hdtu]
      exact e
  · simp [hstl, busAdvance, h]
  · rw [hstl]
    exact busAdvance_symbol h

/-! ### LINE_TRANSITION and MARK_RECESSIVE_TIMEOUT (R13) -/

/-- A stretch is judged to the nearest half-cell, a midway length to the longer (R13). -/
theorem le_judgedHalfCells (s : State) (k n : Nat) :
    k ≤ judgedHalfCells s n ↔ k * (64 * 2 ^ s.settings.cellTimeCode) ≤ n + 32 * 2 ^ s.settings.cellTimeCode := by
  have hpos : 0 < 2 ^ s.settings.cellTimeCode := Nat.two_pow_pos _
  have half : cellClocks s / 2 = 64 * 2 ^ s.settings.cellTimeCode := by
    rw [cellClocks]
    omega
  have quarter : 64 * 2 ^ s.settings.cellTimeCode / 2 = 32 * 2 ^ s.settings.cellTimeCode := by omega
  simp only [judgedHalfCells, half, quarter]
  exact Nat.le_div_iff_mul_le (by omega)

/-- A lead-in is accepted from a quarter of a cell short of two cells (R13). -/
theorem judged_lead (s : State) (n : Nat) :
    4 ≤ judgedHalfCells s n ↔ 7 * (128 * 2 ^ s.settings.cellTimeCode) ≤ 4 * n := by
  rw [le_judgedHalfCells]
  omega

/-- The mark's recessive cell is accepted within a quarter of a cell of its length (R13). -/
theorem judged_mark (s : State) (n : Nat) :
    judgedHalfCells s n = 2 ↔
      3 * (128 * 2 ^ s.settings.cellTimeCode) ≤ 4 * n ∧ 4 * n < 5 * (128 * 2 ^ s.settings.cellTimeCode) := by
  have two := le_judgedHalfCells s 2 n
  have three := le_judgedHalfCells s 3 n
  omega

theorem rxHunt_eq (s : State) : rxHunt s = { s with lif := huntingLif s } := rfl

/-- Settles O16: the judged stretch is compared with the quarter-cell limits of R13, state by state of the receive side. -/
theorem transitionMovesReceiver : Obligations.TransitionMovesReceiver := by
  refine ⟨fun dominant stretch s hw hne => ?_, fun s hw hrx => ?_⟩
  · intro cell measured oneCell accepted
    have hmark : oneCell = true ↔ judgedHalfCells s measured = 2 := by
      rw [judged_mark, decide_eq_true_iff]
    have hlead : 7 * cell ≤ 4 * measured ↔ 4 ≤ judgedHalfCells s measured := (judged_lead s measured).symm
    have haccepted : (s.lif.rx = .mark ∧ rxNext s.lif.rx dominant (judgedHalfCells s measured) = .data) ↔ accepted = true := by
      simp only [accepted, Bool.and_eq_true, beq_iff_eq, hmark]
      cases s.lif.rx <;> cases dominant <;> simp [rxNext]
    have moves : exec (.lineTransition dominant stretch) s = .next (lineMoves dominant stretch (setLineLevel dominant s)) :=
      congrArg Host.Outcome.next ((if_neg hne).trans (if_pos hw))
    refine moves.trans (congrArg Host.Outcome.next ?_)
    ext1
    case lif =>
      ext1
      case rx =>
        change rxNext s.lif.rx dominant (judgedHalfCells s measured) = _
        cases s.lif.rx <;> cases dominant <;> simp [rxNext, hlead, hmark]
      case cells => exact if_congr haccepted rfl rfl
      case report => exact if_congr haccepted rfl rfl
      case rxHeader => exact if_congr haccepted rfl rfl
      case rxStartedSending => exact if_congr haccepted rfl rfl
      all_goals rfl
    all_goals rfl
  · simp [exec, execMarkRecessiveTimeout, hw, hrx, rxHunt_eq]

/-! ### QUIET_GAP_EXPIRY (R7, R24, R34, R37) -/

/-- When the quiet gap that the held frame requires has been counted (R7, log 43). -/
theorem gapReached_iff (s : State) :
    gapReached s = true ↔ works s = true ∧ s.frh.lineState = .active ∧
      ∃ gap halfCells, s.lif.tx = .waiting gap ∧ s.lif.quiet = .running halfCells ∧ 2 * gap ≤ halfCells := by
  unfold gapReached
  cases htx : s.lif.tx <;> cases hq : s.lif.quiet <;> simp [and_assoc]

/-- A waiting ask learns its number (R122). -/
theorem reportNumber_eq (q : Octet) (s : State) :
    reportNumber q s = { s with rng := { s.rng with
      ask := if s.rng.ask = .waiting then .sending q (Vector.replicate 32 none) else s.rng.ask } } := by
  unfold reportNumber
  split
  · rename_i hask
    rw [if_pos hask]
    rfl
  · rename_i hask
    rw [if_neg hask]

/-- The first entry leaves its slot with its number, and a waiting ask learns a new one (R24, R34, R37). -/
theorem beginAttempt_first {s : State} {e : Entry} (h : firstEntry s.frh.outbox = some e) :
    let q := e.seq.getD s.frh.nextSeq
    beginAttempt s =
      { s with
        frh := { s.frh with
          outbox := withoutFirst s.frh.outbox, inFlight := some { entry := { e with seq := some q }, doomed := false }
          nextSeq := if e.seq = none then s.frh.nextSeq + 1 else s.frh.nextSeq }
        lif := { s.lif with
          tx := .sending (attemptWave e.payload.kind (frameOctets (ownNumber s) s.stl.roleCode.toNat e.payload q)) false none }
        rng := { s.rng with ask :=
          if e.seq = none ∧ e.payload.kind = .restAsk ∧ s.rng.ask = .waiting then .sending q (Vector.replicate 32 none)
          else s.rng.ask } } := by
  cases hseq : e.seq with
  | some q => simp [beginAttempt, h, hseq]
  | none => by_cases hk : e.payload.kind = .restAsk <;> simp [beginAttempt, h, hseq, hk, reportNumber_eq]

end Sys2Proof.Machine
end

section
/-! SUPPORT. The attempt under way, through every operation and every command (R1, R12). -/

namespace Sys2Proof.Machine

/-! ### The attempt under way (R12)

No operation begins or ends an attempt but QUIET_GAP_EXPIRY and the outcomes. What a cut would leave of the transmit side tells this:
a selection moves between NONE and WAITING alone, and a cut that has been made is made once. -/

theorem isSending_iff_cutTx (s : State) : isSending s = true ↔ cutTx s.lif.tx ≠ .none := by
  cases h : s.lif.tx <;> simp [isSending, cutTx, h]

/-- Where a cut would leave the same, an attempt is under way in both states or in neither. -/
theorem isSending_of_cutTx {s t : State} (h : cutTx t.lif.tx = cutTx s.lif.tx) : isSending t = isSending s := by
  rw [Bool.eq_iff_iff, isSending_iff_cutTx, isSending_iff_cutTx, h]

theorem cutTx_of_not_sending {s : State} (h : isSending s = false) : cutTx s.lif.tx = .none := by
  by_contra hne
  simp [(isSending_iff_cutTx s).mpr hne] at h

/-- A cut of a cut attempt cuts nothing more. -/
@[simp] theorem cutTx_cutTx (x : TxSide) : cutTx (cutTx x) = cutTx x := by
  cases x with
  | none => rfl
  | waiting => rfl
  | sending wave cut failed =>
    have cutWave_cutWave : cutWave (cutWave wave) = cutWave wave := by
      simp only [cutWave, List.take_take, List.length_take]
      congr 1
      split_ifs <;> omega
    simp [cutTx, cutWave_cutWave]

theorem cutTx_selectedTx (s : State) (o : Outbox) : cutTx (selectedTx s o) = .none := by
  unfold selectedTx
  split <;> rfl

/-- A chain of operations that each leave the attempt. -/
theorem foldl_cutTx {α : Type} {f : State → α → State} (h : ∀ s a, cutTx (f s a).lif.tx = cutTx s.lif.tx) (l : List α)
    (s : State) : cutTx (l.foldl f s).lif.tx = cutTx s.lif.tx := by
  induction l generalizing s with
  | nil => rfl
  | cons a l ih => exact (ih (f s a)).trans (h s a)

@[simp] theorem select_cutTx (s : State) : cutTx (select s).lif.tx = cutTx s.lif.tx := by
  by_cases h : s.frh.lineState ≠ .active ∨ isSending s = true
  · rw [select_stands s h]
  · simp only [not_or, not_not, Bool.not_eq_true] at h
    obtain ⟨hl, hs⟩ := h
    rw [select_hands_over s hl hs, cutTx_selectedTx, cutTx_of_not_sending hs]

@[simp] theorem enterTripFrame_cutTx (cause : TripCause) (s : State) :
    cutTx (enterTripFrame cause s).lif.tx = cutTx s.lif.tx := by
  unfold enterTripFrame
  split <;> simp

@[simp] theorem enterClearFrame_cutTx (s : State) : cutTx (enterClearFrame s).lif.tx = cutTx s.lif.tx := by
  unfold enterClearFrame
  split <;> simp

@[simp] theorem enterDemandFrame_cutTx (demand cause : Nat) (s : State) :
    cutTx (enterDemandFrame demand cause s).lif.tx = cutTx s.lif.tx := by
  unfold enterDemandFrame
  split <;> simp

@[simp] theorem enterStateFrame_cutTx (s : State) : cutTx (enterStateFrame s).lif.tx = cutTx s.lif.tx := by
  unfold enterStateFrame
  split <;> simp

@[simp] theorem capacityChanged_cutTx (s : State) : cutTx (capacityChanged s).lif.tx = cutTx s.lif.tx := by
  unfold capacityChanged
  dsimp only
  split <;> simp

@[simp] theorem moveDerate_cutTx (total quiet : Nat) (s : State) :
    cutTx (moveDerate total quiet s).lif.tx = cutTx s.lif.tx := by
  unfold moveDerate
  split <;> simp

@[simp] theorem derateStep_cutTx (s : State) : cutTx (derateStep s).lif.tx = cutTx s.lif.tx := by
  simp [derateStep]

@[simp] theorem channelAction_cutTx (m : Mode) (s : State) : cutTx (channelAction m s).lif.tx = cutTx s.lif.tx := by
  unfold channelAction
  split <;> simp

@[simp] theorem channelActs_cutTx (n : Nat) (f : Firing) (s : State) :
    cutTx (channelActs n f s).lif.tx = cutTx s.lif.tx := by
  unfold channelActs
  dsimp only
  split <;> simp

@[simp] theorem offer_cutTx (f : Firing) (s : State) : cutTx (offer f s).lif.tx = cutTx s.lif.tx := by
  unfold offer
  split <;> simp

@[simp] theorem offerAll_cutTx (fs : List Firing) (s : State) : cutTx (offerAll fs s).lif.tx = cutTx s.lif.tx := by
  simp [offerAll, foldl_cutTx]

@[simp] theorem enterReplyFrame_cutTx (addressee : Nat) (askSeq : Octet) (verdict : Verdict) (s : State) :
    cutTx (enterReplyFrame addressee askSeq verdict s).lif.tx = cutTx s.lif.tx := by
  unfold enterReplyFrame
  split <;> simp

@[simp] theorem takeDuty_cutTx (new : Duty) (cause : List Firing) (s : State) :
    cutTx (takeDuty new cause s).lif.tx = cutTx s.lif.tx := by
  unfold takeDuty
  split <;> simp

@[simp] theorem driveLoss_cutTx (s : State) : cutTx (driveLoss s).lif.tx = cutTx s.lif.tx := by
  simp [driveLoss]

@[simp] theorem warmUpEnds_cutTx (s : State) : cutTx (warmUpEnds s).lif.tx = cutTx s.lif.tx := by
  simp [warmUpEnds]

@[simp] theorem acknowledge_cutTx (s : State) : cutTx (acknowledge s).lif.tx = cutTx s.lif.tx := by
  unfold acknowledge
  dsimp only
  split <;> simp

@[simp] theorem announceTrip_cutTx (station cause : Nat) (s : State) :
    cutTx (announceTrip station cause s).lif.tx = cutTx s.lif.tx := by
  unfold announceTrip
  repeat' split
  all_goals simp

@[simp] theorem removeTrip_cutTx (station detail : Nat) (s : State) :
    cutTx (removeTrip station detail s).lif.tx = cutTx s.lif.tx := by
  unfold removeTrip
  split <;> simp

@[simp] theorem withdrawTrip_cutTx (station detail : Nat) (s : State) :
    cutTx (withdrawTrip station detail s).lif.tx = cutTx s.lif.tx := by
  unfold withdrawTrip
  split <;> simp

@[simp] theorem reportRefusal_cutTx (s : State) : cutTx (reportRefusal s).lif.tx = cutTx s.lif.tx := by
  unfold reportRefusal
  split <;> simp

@[simp] theorem reportAgreement_cutTx (s : State) : cutTx (reportAgreement s).lif.tx = cutTx s.lif.tx := by
  unfold reportAgreement
  split <;> simp

@[simp] theorem refuseAsk_cutTx (subject : Option Nat) (detail : Nat) (s : State) :
    cutTx (refuseAsk subject detail s).lif.tx = cutTx s.lif.tx := by
  simp [refuseAsk]

@[simp] theorem agreeAsk_cutTx (members : Nat) (s : State) : cutTx (agreeAsk members s).lif.tx = cutTx s.lif.tx := by
  simp [agreeAsk]

@[simp] theorem dropAsk_cutTx (s : State) : cutTx (dropAsk s).lif.tx = cutTx s.lif.tx := by
  simp [dropAsk]

@[simp] theorem reportDropped_cutTx (number : Option Octet) (s : State) :
    cutTx (reportDropped number s).lif.tx = cutTx s.lif.tx := by
  unfold reportDropped
  repeat' split
  all_goals simp

@[simp] theorem enterAskFrame_cutTx (s : State) : cutTx (enterAskFrame s).lif.tx = cutTx s.lif.tx := by
  unfold enterAskFrame
  split <;> simp

@[simp] theorem enterAsking_cutTx (s : State) : cutTx (enterAsking s).lif.tx = cutTx s.lif.tx := by
  simp [enterAsking]

@[simp] theorem testRoll_cutTx (s : State) : cutTx (testRoll s).lif.tx = cutTx s.lif.tx := by
  unfold testRoll
  repeat' split
  all_goals simp

@[simp] theorem ownEvaluation_cutTx (s : State) : cutTx (ownEvaluation s).lif.tx = cutTx s.lif.tx := by
  unfold ownEvaluation
  split <;> simp

@[simp] theorem decideRoll_cutTx (s : State) : cutTx (decideRoll s).lif.tx = cutTx s.lif.tx := by
  unfold decideRoll
  repeat' split
  all_goals simp

@[simp] theorem takeReply_cutTx (sender addressee : Nat) (askSeq : Octet) (verdict : Option Verdict) (s : State) :
    cutTx (takeReply sender addressee askSeq verdict s).lif.tx = cutTx s.lif.tx := by
  unfold takeReply
  repeat' split
  all_goals simp

@[simp] theorem strikeOff_cutTx (station : Nat) (s : State) : cutTx (strikeOff station s).lif.tx = cutTx s.lif.tx := by
  unfold strikeOff
  repeat' split
  all_goals simp

@[simp] theorem takeAsk_cutTx (asker : Nat) (askSeq : Octet) (s : State) :
    cutTx (takeAsk asker askSeq s).lif.tx = cutTx s.lif.tx := by
  simp only [takeAsk]
  split_ifs <;> simp

@[simp] theorem conditionNotice_cutTx (station : Nat) (condition : Condition) (s : State) :
    cutTx (conditionNotice station condition s).lif.tx = cutTx s.lif.tx := by
  unfold conditionNotice
  split <;> simp

@[simp] theorem endHoldOff_cutTx (s : State) : cutTx (endHoldOff s).lif.tx = cutTx s.lif.tx := by
  unfold endHoldOff
  dsimp only
  split <;> simp

@[simp] theorem risenToOn_cutTx (s : State) : cutTx (risenToOn s).lif.tx = cutTx s.lif.tx := by
  unfold risenToOn
  split <;> simp

@[simp] theorem replyWindowEnds_cutTx (s : State) : cutTx (replyWindowEnds s).lif.tx = cutTx s.lif.tx := by
  unfold replyWindowEnds
  repeat' split
  all_goals simp

@[simp] theorem conditionMoved_cutTx (station : Nat) (condition : Condition) (s : State) :
    cutTx (conditionMoved station condition s).lif.tx = cutTx s.lif.tx := by
  unfold conditionMoved
  split <;> simp

@[simp] theorem refreshRow_cutTx (station : Nat) (role : Role) (kind : FrameKind) (s : State) :
    cutTx (refreshRow station role kind s).lif.tx = cutTx s.lif.tx := by
  unfold refreshRow
  dsimp only
  split <;> simp

@[simp] theorem acceptState_cutTx (station : Nat) (p : List Octet) (s : State) :
    cutTx (acceptState station p s).lif.tx = cutTx s.lif.tx := by
  simp only [acceptState]
  split_ifs <;> simp

@[simp] theorem acceptPayload_cutTx (kind : FrameKind) (station : Nat) (p : List Octet) (s : State) :
    cutTx (acceptPayload kind station p s).lif.tx = cutTx s.lif.tx := by
  unfold acceptPayload
  repeat' split
  all_goals simp

@[simp] theorem ageRow_cutTx (s : State) (station : Nat) : cutTx (ageRow s station).lif.tx = cutTx s.lif.tx := by
  simp only [ageRow]
  repeat' split
  all_goals simp

@[simp] theorem ageView_cutTx (s : State) : cutTx (ageView s).lif.tx = cutTx s.lif.tx := by
  simp [ageView, foldl_cutTx]

@[simp] theorem publishDemand_cutTx (s : State) : cutTx (publishDemand s).lif.tx = cutTx s.lif.tx := by
  simp [publishDemand]

@[simp] theorem periodicEntry_cutTx (s : State) : cutTx (periodicEntry s).lif.tx = cutTx s.lif.tx := by
  unfold periodicEntry
  split <;> simp

@[simp] theorem emptied_cutTx (l : LineState) (t : Timer) (s : State) :
    cutTx (emptied l t s).lif.tx = cutTx s.lif.tx := by
  simp [emptied]

@[simp] theorem leaveActive_cutTx (l : LineState) (t : Timer) (s : State) :
    cutTx (leaveActive l t s).lif.tx = cutTx s.lif.tx := by
  simp [leaveActive, foldl_cutTx]

@[simp] theorem enterJoining_cutTx (s : State) : cutTx (enterJoining s).lif.tx = cutTx s.lif.tx := by
  simp [enterJoining]

@[simp] theorem enterListenOnly_cutTx (s : State) : cutTx (enterListenOnly s).lif.tx = cutTx s.lif.tx := by
  simp [enterListenOnly]

@[simp] theorem enterActive_cutTx (s : State) : cutTx (enterActive s).lif.tx = cutTx s.lif.tx := by
  simp [enterActive]

@[simp] theorem closeNotice_cutTx (detail : Nat) (s : State) :
    cutTx (closeNotice detail s).lif.tx = cutTx s.lif.tx := by
  unfold closeNotice
  split <;> simp

@[simp] theorem malformed_cutTx (reason : Nat) (s : State) : cutTx (malformed reason s).lif.tx = cutTx s.lif.tx := by
  simp [malformed]

@[simp] theorem headerArrives_cutTx (h0 h1 h2 : Octet) (s : State) :
    cutTx (headerArrives h0 h1 h2 s).lif.tx = cutTx s.lif.tx := by
  unfold headerArrives
  dsimp only
  split <;> simp

@[simp] theorem stationClash_cutTx (kind : FrameKind) (s : State) :
    cutTx (stationClash kind s).lif.tx = cutTx s.lif.tx := by
  unfold stationClash
  split <;> simp

@[simp] theorem handDemand_cutTx (sender : Nat) (role : Role) (p : List Octet) (s : State) :
    cutTx (handDemand sender role p s).lif.tx = cutTx s.lif.tx := by
  simp only [handDemand]
  split_ifs <;> simp

@[simp] theorem handOn_cutTx (kind : FrameKind) (role : Role) (sender : Nat) (seq : Octet) (p : List Octet) (s : State) :
    cutTx (handOn kind role sender seq p s).lif.tx = cutTx s.lif.tx := by
  unfold handOn
  split <;> simp

@[simp] theorem closeCompleted_cutTx (kind : FrameKind) (sender : Nat) (s : State) :
    cutTx (closeCompleted kind sender s).lif.tx = cutTx s.lif.tx := by
  unfold closeCompleted
  split <;> simp

@[simp] theorem validFrame_cutTx (kind : FrameKind) (role : Role) (sender : Nat) (seq : Octet) (p : List Octet) (s : State) :
    cutTx (validFrame kind role sender seq p s).lif.tx = cutTx s.lif.tx := by
  simp only [validFrame]
  split_ifs <;> simp

@[simp] theorem wellFormedFrame_cutTx (kind : FrameKind) (role : Role) (body : List Octet) (ownEcho startedSending : Bool) (s : State) :
    cutTx (wellFormedFrame kind role body ownEcho startedSending s).lif.tx = cutTx s.lif.tx := by
  simp only [wellFormedFrame]
  split_ifs <;> simp

@[simp] theorem frhFrame_cutTx (body : List Octet) (ownEcho startedSending : Bool) (s : State) :
    cutTx (frhFrame body ownEcho startedSending s).lif.tx = cutTx s.lif.tx := by
  unfold frhFrame
  split <;> simp

@[simp] theorem frameCompletes_cutTx (octets : List Octet) (ownEcho : Bool) (s : State) :
    cutTx (frameCompletes octets ownEcho s).lif.tx = cutTx s.lif.tx := by
  simp [frameCompletes]

@[simp] theorem scanNotice_cutTx (s : State) : cutTx (scanNotice s).lif.tx = cutTx s.lif.tx := by
  unfold scanNotice
  dsimp only
  split <;> simp

@[simp] theorem scanChannel_cutTx (s : State) (channel : Nat) :
    cutTx (scanChannel s channel).lif.tx = cutTx s.lif.tx := by
  unfold scanChannel
  split <;> simp

@[simp] theorem scanWindow_cutTx (s : State) (n : Nat) : cutTx (scanWindow s n).lif.tx = cutTx s.lif.tx := by
  simp only [scanWindow]
  repeat' split
  all_goals simp

@[simp] theorem scan_cutTx (s : State) : cutTx (scan s).lif.tx = cutTx s.lif.tx := by
  simp only [scan]
  split <;> simp [foldl_cutTx]

@[simp] theorem announceOwnTrip_cutTx (cause : TripCause) (s : State) :
    cutTx (announceOwnTrip cause s).lif.tx = cutTx s.lif.tx := by
  simp [announceOwnTrip]

@[simp] theorem enterTripped_cutTx (cause : TripCause) (s : State) :
    cutTx (enterTripped cause s).lif.tx = cutTx s.lif.tx := by
  simp [enterTripped]

@[simp] theorem leaveTripped_cutTx (s : State) : cutTx (leaveTripped s).lif.tx = cutTx s.lif.tx := by
  simp [leaveTripped]

@[simp] theorem tripInActs_cutTx (s : State) : cutTx (tripInActs s).lif.tx = cutTx s.lif.tx := by
  unfold tripInActs
  split <;> simp

@[simp] theorem tripTests_cutTx (pressure : Quantity) (s : State) :
    cutTx (tripTests pressure s).lif.tx = cutTx s.lif.tx := by
  unfold tripTests
  repeat' split
  all_goals simp

@[simp] theorem regulate_cutTx (pressure : Quantity) (s : State) :
    cutTx (regulate pressure s).lif.tx = cutTx s.lif.tx := by
  unfold regulate
  split <;> simp

@[simp] theorem setDemand_cutTx (pressure : Quantity) (s : State) :
    cutTx (setDemand pressure s).lif.tx = cutTx s.lif.tx := by
  unfold setDemand
  split
  · simp
  · rfl

@[simp] theorem turbineShare_cutTx (s : State) : cutTx (turbineShare s).lif.tx = cutTx s.lif.tx := by
  unfold turbineShare
  dsimp only
  split <;> simp

@[simp] theorem outletLimit_cutTx (s : State) : cutTx (outletLimit s).lif.tx = cutTx s.lif.tx := by
  unfold outletLimit
  split <;> simp

@[simp] theorem exchangeDemand_cutTx (i : ExchangeInputs) (s : State) :
    cutTx (exchangeDemand i s).lif.tx = cutTx s.lif.tx := by
  simp only [exchangeDemand]
  repeat' split
  all_goals simp

@[simp] theorem exchangeShare_cutTx (s : State) : cutTx (exchangeShare s).lif.tx = cutTx s.lif.tx := by
  unfold exchangeShare
  dsimp only
  split <;> simp

@[simp] theorem runAckRises_cutTx (s : State) : cutTx (runAckRises s).lif.tx = cutTx s.lif.tx := by
  unfold runAckRises
  split <;> simp

@[simp] theorem runAckFalls_cutTx (s : State) : cutTx (runAckFalls s).lif.tx = cutTx s.lif.tx := by
  unfold runAckFalls
  repeat' split
  all_goals simp

@[simp] theorem stageShortfall_cutTx (demand total : Nat) (s : State) :
    cutTx (stageShortfall demand total s).lif.tx = cutTx s.lif.tx := by
  unfold stageShortfall
  split <;> simp

@[simp] theorem stageDuty_cutTx (s : State) : cutTx (stageDuty s).lif.tx = cutTx s.lif.tx := by
  unfold stageDuty
  split
  · split <;> simp
  · split <;> rfl
  · simp
  · rfl

@[simp] theorem wellShare_cutTx (s : State) : cutTx (wellShare s).lif.tx = cutTx s.lif.tx := by
  simp [wellShare]

@[simp] theorem shareTick_cutTx (s : State) : cutTx (shareTick s).lif.tx = cutTx s.lif.tx := by
  unfold shareTick
  split <;> simp

/-- The panel port answers and touches nothing else. -/
@[simp] theorem respond_cutTx (octets : List Octet) (e : EndEffect) (s : State) :
    cutTx (respond octets e s).lif.tx = cutTx s.lif.tx := rfl

@[simp] theorem answer_cutTx (n : Nat) (r : Result) (content : List Octet) (s : State) :
    cutTx (answer n r content s).lif.tx = cutTx s.lif.tx := rfl

/-- A command that is not served in the line state is answered alone (R187). -/
theorem ifServed_cutTx {code : Octet} {n : Nat} {s : State} {owner : State → State}
    (h : cutTx (owner s).lif.tx = cutTx s.lif.tx) : cutTx (ifServed code n s owner).lif.tx = cutTx s.lif.tx := by
  unfold ifServed
  split
  · exact h
  · simp

@[simp] theorem takeStatus_cutTx (s : State) : cutTx (takeStatus s).lif.tx = cutTx s.lif.tx := by
  rfl

@[simp] theorem takeTake_cutTx (s : State) : cutTx (takeTake s).lif.tx = cutTx s.lif.tx := by
  unfold takeTake
  split <;> simp

@[simp] theorem takeReadRow_cutTx (station : Octet) (s : State) :
    cutTx (takeReadRow station s).lif.tx = cutTx s.lif.tx := by
  refine ifServed_cutTx ?_
  split <;> simp

@[simp] theorem takeReadQuantity_cutTx (quantity : Octet) (s : State) :
    cutTx (takeReadQuantity quantity s).lif.tx = cutTx s.lif.tx := by
  refine ifServed_cutTx ?_
  split <;> simp

@[simp] theorem takeReadChannel_cutTx (channel : Octet) (s : State) :
    cutTx (takeReadChannel channel s).lif.tx = cutTx s.lif.tx := by
  refine ifServed_cutTx ?_
  split <;> simp

@[simp] theorem takeRest_cutTx (s : State) : cutTx (takeRest s).lif.tx = cutTx s.lif.tx := by
  refine ifServed_cutTx ?_
  split_ifs <;> simp

@[simp] theorem takeWake_cutTx (s : State) : cutTx (takeWake s).lif.tx = cutTx s.lif.tx := by
  refine ifServed_cutTx ?_
  split_ifs <;> simp

@[simp] theorem takeFaultClear_cutTx (s : State) : cutTx (takeFaultClear s).lif.tx = cutTx s.lif.tx := by
  refine ifServed_cutTx ?_
  split_ifs <;> simp

@[simp] theorem takeReleaseTrip_cutTx (station : Octet) (s : State) :
    cutTx (takeReleaseTrip station s).lif.tx = cutTx s.lif.tx := by
  refine ifServed_cutTx ?_
  split_ifs <;> simp

@[simp] theorem takeBind_cutTx (channel source filter mode count : Octet) (s : State) :
    cutTx (takeBind channel source filter mode count s).lif.tx = cutTx s.lif.tx := by
  refine ifServed_cutTx ?_
  simp only [answer_cutTx, rebind]
  split <;> simp

@[simp] theorem restartOffline_cutTx (sn : BitVec 5) (role : BitVec 2) (stopPossible : Bool) (s : State) :
    cutTx (restartOffline sn role stopPossible s).lif.tx = cutTx s.lif.tx := by
  simp only [restartOffline, beginLoad, faultLoad]
  repeat' split
  all_goals simp

@[simp] theorem restartOnline_cutTx (s : State) : cutTx (restartOnline s).lif.tx = cutTx s.lif.tx := by
  unfold restartOnline
  dsimp only
  split <;> simp

@[simp] theorem takeRestart_cutTx (sn : BitVec 5) (role : BitVec 2) (stopPossible : Bool) (s : State) :
    cutTx (takeRestart sn role stopPossible s).lif.tx = cutTx s.lif.tx := by
  unfold takeRestart
  split <;> simp

@[simp] theorem takeUnknown_cutTx (s : State) : cutTx (takeUnknown s).lif.tx = cutTx s.lif.tx := by
  rfl

@[simp] theorem takeCommand_cutTx (code : Octet) (arguments : List Octet) (s : State) :
    cutTx (takeCommand code arguments s).lif.tx = cutTx s.lif.tx := by
  unfold takeCommand
  dsimp only
  repeat' split
  all_goals simp

@[simp] theorem panelOctet_cutTx (pdi : Octet) (s : State) : cutTx (panelOctet pdi s).lif.tx = cutTx s.lif.tx := by
  unfold panelOctet
  repeat' split
  all_goals simp

@[simp] theorem settleDelivery_cutTx (whole : Bool) (s : State) :
    cutTx (settleDelivery whole s).lif.tx = cutTx s.lif.tx := by
  simp [settleDelivery]

@[simp] theorem endTransaction_cutTx (s : State) : cutTx (endTransaction s).lif.tx = cutTx s.lif.tx := by
  unfold endTransaction
  split <;> simp

@[simp] theorem completeLoad_cutTx (s : State) : cutTx (completeLoad s).lif.tx = cutTx s.lif.tx := by
  simp only [completeLoad]
  split <;> simp [startLinks, takeSettings]

@[simp] theorem transferDone_cutTx (octets : List Octet) (s : State) :
    cutTx (transferDone octets s).lif.tx = cutTx s.lif.tx := by
  simp only [transferDone, checkImage, faultLoad]
  repeat' split
  all_goals simp

@[simp] theorem tryFails_cutTx (code : Nat) (stopPossible : Bool) (s : State) :
    cutTx (tryFails code stopPossible s).lif.tx = cutTx s.lif.tx := by
  simp only [tryFails]
  repeat' split
  all_goals rfl

@[simp] theorem beginLoad_cutTx (sn : BitVec 5) (role : BitVec 2) (s : State) :
    cutTx (beginLoad sn role s).lif.tx = cutTx s.lif.tx := by
  simp only [beginLoad]
  split <;> rfl

@[simp] theorem releasePanel_cutTx (s : State) : cutTx (releasePanel s).lif.tx = cutTx s.lif.tx := rfl

@[simp] theorem sampleWord_cutTx (c lo hi x : Octet) (s : State) :
    cutTx (sampleWord c lo hi x s).lif.tx = cutTx s.lif.tx := by
  unfold sampleWord
  split_ifs <;> simp

@[simp] theorem gatherOctet_cutTx (o : Octet) (s : State) : cutTx (gatherOctet o s).lif.tx = cutTx s.lif.tx := by
  unfold gatherOctet
  dsimp only
  split <;> simp

@[simp] theorem framingFaults_cutTx (s : State) : cutTx (framingFaults s).lif.tx = cutTx s.lif.tx := by
  simp [framingFaults]

@[simp] theorem idleEnds_cutTx (s : State) : cutTx (idleEnds s).lif.tx = cutTx s.lif.tx := by
  unfold idleEnds
  dsimp only
  split <;> simp

/-- A transition of the line moves the receive side alone (R13). -/
@[simp] theorem lineMoves_cutTx (d : Bool) (n : Nat) (s : State) : cutTx (lineMoves d n s).lif.tx = cutTx s.lif.tx := rfl

@[simp] theorem setLineLevel_cutTx (d : Bool) (s : State) : cutTx (setLineLevel d s).lif.tx = cutTx s.lif.tx := rfl

/-! ### Law 4 (R1, R12, R30) -/

/-- An outcome is due of an attempt alone. -/
theorem dueOutcome_of_not_sending {s : State} (h : isSending s = false) : dueOutcome s = none := by
  unfold dueOutcome
  split
  · rename_i ht _
    simp [isSending, ht] at h
  · rfl

/-- No command but QUIET_GAP_EXPIRY begins an attempt. -/
theorem exec_begins_no_attempt {c : Instr} {s t : State} (hc : c ≠ .quietGapExpiry) (e : exec c s = .next t)
    (hs : isSending s = false) : isSending t = false := by
  have result {u : State} (hu : exec c s = .next u) : t = u := Host.Outcome.next.inj (e.symm.trans hu)
  have kept {u : State} (hu : exec c s = .next u) (h : cutTx u.lif.tx = cutTx s.lif.tx) : isSending t = false :=
    result hu ▸ (isSending_of_cutTx h).trans hs
  cases c with
  | quietGapExpiry => exact absurd rfl hc
  | hardReset => exact result rfl ▸ rfl
  | attemptSent => exact kept (u := s) (by simp [exec, execAttemptSent, dueOutcome_of_not_sending hs]) rfl
  | attemptFailed p => exact kept (u := s) (by simp [exec, execAttemptFailed, dueOutcome_of_not_sending hs]) rfl
  | cutAttemptEnd =>
    refine kept (u := s) ?_ rfl
    simp only [exec, execCutAttemptEnd]
    split
    · rename_i ht
      simp [isSending, ht] at hs
    · rfl
  | lineTransition dominant stretch | runAckRising | runAckFalling | tripInActive =>
    refine kept rfl ?_
    split
    · rfl
    · split <;> simp
  | pcsFall =>
    refine kept rfl ?_
    split <;> rfl
  | pcsRise =>
    refine kept rfl ?_
    split
    · rfl
    · exact endTransaction_cutTx (setPcs false s)
  | dosePulseEnd output =>
    refine kept rfl ?_
    split
    · rfl
    · cases output <;> rfl
  | _ =>
    refine kept rfl ?_
    split <;> simp

/-- Settles O13: a gap that is reached begins the first entry's attempt, and no other command begins one. -/
theorem attemptTakesNextNumber : Obligations.AttemptTakesNextNumber := by
  refine ⟨gapReached_iff, fun s h => ?_, fun s e gap halfCells hw hl htx hq hgap he => ?_, fun c s t h hs ht => ?_⟩
  · simp [exec, execQuietGapExpiry, h]
  · have reached := (gapReached_iff s).mpr ⟨hw, hl, gap, halfCells, htx, hq, hgap⟩
    have begun : exec .quietGapExpiry s = .next (beginAttempt s) := by simp [exec, execQuietGapExpiry, reached]
    exact begun.trans (congrArg _ (beginAttempt_first he))
  · by_cases hc : c = .quietGapExpiry
    · subst hc
      obtain ⟨hgap, -⟩ | ⟨-, stands⟩ := execQuietGapExpiry_cases s
      · exact ⟨rfl, ((gapReached_iff s).mp hgap).2.1, hgap⟩
      · obtain rfl := Host.Outcome.next.inj (h.symm.trans stands)
        simp [hs] at ht
    · simp [exec_begins_no_attempt hc h hs] at ht

end Sys2Proof.Machine
end

section
/-! SUPPORT. ATTEMPT_SENT (R11, R35, R122, R124), HEADER_ARRIVAL (R14, R27, R91, R92) and FRAME_MALFORMED (R15, R28, R93). -/

namespace Sys2Proof.Machine

/-! ### ATTEMPT_SENT -/

/-- An attempt that no echo check failed settles its frame as SENT. -/
theorem exec_attemptSent {s : State} {f : InFlight} (hw : works s = true) (ht : s.lif.tx = .sending [] false none)
    (hf : s.frh.inFlight = some f) : exec .attemptSent s = .next (settleSent f s) := by
  have due : dueOutcome s = some (f, none) := (dueOutcome_eq s f none).mpr ⟨ht, hf⟩
  simp only [exec, execAttemptSent, hw, due]

/-- The selection that ends the settlement of a frame hands over the next one (R34). -/
theorem select_after_attempt (a : AskRecord) (s : State) :
    select (setAsk a (endAttempt s)) =
      { s with
        frh := { s.frh with inFlight := none }
        lif := { s.lif with tx := if s.frh.lineState = .active then selectedTx s s.frh.outbox else .none }
        rng := { s.rng with ask := a } } :=
  select_of_tx_none _ rfl

/-- A SENT report of a number that no ask waits for goes by (R122). -/
theorem reportSent_other {q : Octet} {s : State} (h : ∀ early, s.rng.ask ≠ .sending q early) : reportSent q s = s := by
  unfold reportSent
  split
  · rename_i k early hask
    exact if_neg fun hq : q = k => h early (hq ▸ hask)
  · rfl

/-- A roll with a member none of whose members has answered is not decided (R127). -/
theorem decideRoll_unanswered {s : State} {q : Octet} {roll : Roll} {x : Timer} {m : Nat}
    (hask : s.rng.ask = .window q roll x) (hm : slotGet roll m none = some none)
    (hall : ∀ n v, slotGet roll n none = some v → v = none) : decideRoll s = s := by
  have hempty : (rollMembers roll).isEmpty = false := by
    rw [Bool.eq_false_iff, Ne, rollMembers_isEmpty]
    exact fun h => absurd (h m) (by simp [hm])
  have hrefusal : firstRefusal roll = none := by
    rw [firstRefusal, List.findSome?_eq_none_iff]
    rintro ⟨n, v⟩ hmem
    rw [hall n v (mem_rollMembers.mp hmem)]
  have hagree : allAgree roll = false := by
    rw [Bool.eq_false_iff]
    exact fun h => absurd (unanimous_of_allAgree h m (by simp [hm])) (by simp [hm])
  simp [decideRoll, hask, hempty, testRoll, hrefusal, hagree]

/-- With no early verdict held, each FRESH counted row is on the roll with none (R124). -/
theorem slotGet_fixedRoll_fresh (s : State) {n : Nat} (h : n < 32) :
    slotGet (fixedRoll s (Vector.replicate 32 none)) n none =
      if (rowOf s n).condition = .fresh ∧ counted (rowOf s n) = true then some none else none := by
  rw [slotGet_fixedRoll _ s h]
  simp [slotGet]

/-- Settles O14: no ask waits for the frame, or the roll it fixes is not decided yet. -/
theorem sentFrameSettles : Obligations.SentFrameSettles := by
  intro s f hw ht hf gone
  refine ⟨fun hother => ?_, fun q m hk hseq hask hm hfresh hcounted => ?_⟩
  · rw [exec_attemptSent hw ht hf]
    have stands : select (setAsk s.rng.ask (endAttempt s)) = gone := select_after_attempt _ s
    refine congrArg Host.Outcome.next (Eq.trans ?_ stands)
    refine congrArg select ?_
    split
    · rename_i q hk hq
      exact reportSent_other fun early hask => hother hk q early hask hq
    · rfl
  · have fixed (n : Nat) (hn : n < 32) := slotGet_fixedRoll_fresh s hn
    refine ⟨fixedRoll s (Vector.replicate 32 none), ?_, fixed⟩
    rw [exec_attemptSent hw ht hf]
    have opened := select_after_attempt
      (.window q (fixedRoll s (Vector.replicate 32 none)) (.running s.settings.replyWindow)) s
    refine congrArg Host.Outcome.next (Eq.trans (congrArg select ?_) opened)
    have hask' : (endAttempt s).rng.ask = .sending q (Vector.replicate 32 none) := hask
    simp only [hk, hseq, reportSent, hask', if_true]
    refine decideRoll_unanswered (m := m) rfl ?_ fun n v hv => ?_
    · exact (fixed m hm).trans (if_pos ⟨hfresh, hcounted⟩)
    · have hn : n < 32 := slotGet_inRange (by rw [hv]; rfl)
      have hv' := (fixed n hn).symm.trans hv
      split at hv' <;> simp_all

/-! ### HEADER_ARRIVAL (R14, R27, R91, R92) -/

/-- The two forms of one move of the setpoint toward a target (R88). -/
theorem ramp_eq_movedSetpoint (setpoint target up down : Nat) :
    ramp setpoint target up down = movedSetpoint setpoint target up down := by
  unfold ramp movedSetpoint
  split_ifs <;> omega

/-- A word that falls due in a working WELL station (R89). -/
theorem sendWord_due {s : State} (hwell : hasRole s .well = true) (hl : s.frh.lineState ≠ .offline) :
    sendWord s = setSetpt (dueWord s s.dtu.setpoint s.dtu.duty s.dtu.runReq) s := by
  have works_well : (hasRole s .well && s.frh.lineState != .offline) = true := by simp [hwell, hl]
  rw [sendWord, if_pos works_well]
  unfold dueWord
  cases s.dtu.setpt <;> rfl

theorem online_of_works {s : State} (h : works s = true) : s.frh.lineState ≠ .offline := by simp_all [works]

/-- Where the recall conditions do not all hold, the timer of RESTING stops (R104). -/
theorem testRecall_fails {s : State} (h : recallConditions s = false) :
    testRecall s = setRecallTimer
      (if hasRole s .well = true ∧ s.dtu.duty = .resting then .stopped else s.dtu.recallTimer) s := by
  by_cases hr : hasRole s .well = true ∧ s.dtu.duty = .resting
  · simp [testRecall, hr, h]
  · have stands : testRecall s = s := if_neg (by simpa using hr)
    rw [stands, if_neg hr]
    rfl

/-- With a trip pending, the recall test of a WELL station stops the timer of RESTING (R104). -/
theorem testRecall_pending {s : State} (hwell : hasRole s .well = true) (h : s.dtu.pendingTrip.isSome = true) :
    testRecall s = setRecallTimer (if s.dtu.duty = .resting then .stopped else s.dtu.recallTimer) s := by
  rw [testRecall_fails (by simp [recallConditions, h])]
  simp only [hwell, true_and]

/-- A pending trip is in force (R90). -/
theorem tripInForce_pending (n : Nat) (s : State) : tripInForce (setPendingTrip (some n) s) = true := by
  simp [tripInForce]

/-- The trip step of a running pump (R88, R92). -/
theorem tripStep_running {s : State} (hwell : hasRole s .well = true) (hl : s.frh.lineState ≠ .offline)
    (hruns : s.dtu.duty.runs = true) (htrip : tripInForce s = true) :
    let target := min s.dtu.target s.settings.tripFlow
    let setpoint := movedSetpoint s.dtu.setpoint target s.settings.rampUp s.settings.tripRamp
    tripStep s = setSetpt (dueWord s setpoint s.dtu.duty s.dtu.runReq) (setFlows target setpoint s) := by
  intro target setpoint
  have moved : rampedSetpoint (setFlows target s.dtu.setpoint s) = setpoint := by
    have htrip' : tripInForce (setFlows target s.dtu.setpoint s) = true := htrip
    rw [rampedSetpoint, htrip', if_pos rfl]
    exact ramp_eq_movedSetpoint ..
  have limited : tripStep s = sendWord (setFlows target (rampedSetpoint (setFlows target s.dtu.setpoint s))
      (setFlows target s.dtu.setpoint s)) := if_pos hruns
  exact limited.trans (moved ▸ sendWord_due (s := setFlows target setpoint s) hwell hl)

/-- A header arrival that is due (R14). -/
theorem exec_headerArrival {s : State} {h0 h1 h2 : Octet} (hw : works s = true) (hr : s.lif.report = some .header)
    (ho : s.lif.cells.octets = [h0, h1, h2]) : exec (.headerArrival h0 h1 h2) s = .next (headerArrives h0 h1 h2 s) :=
  congrArg Host.Outcome.next (if_pos ((handsOver_iff s _ _).mpr ⟨hw, hr, ho⟩))

/-- Settles O17: a notice makes its sender the pending trip, and a trip that comes into force takes its step. -/
theorem headerGivesEarlyNotice : Obligations.HeaderGivesEarlyNotice := by
  intro h0 h1 h2 s hw hr ho kept noticed
  have arrives := exec_headerArrival hw hr ho
  have gives (hwell : hasRole s .well = true) (hg : givesNotice s h0 h1 = true) :
      headerArrives h0 h1 h2 s = earlyNotice (senderOf h0) noticed :=
    if_pos (show (hasRole s .well && givesNotice s h0 h1) = true by rw [hwell, hg]; rfl)
  refine ⟨fun hn => ?_, fun hwell hg hin => ?_, fun hwell hg hout => ?_⟩
  · exact arrives.trans (congrArg _ (if_neg (show ¬ (hasRole s .well && givesNotice s h0 h1) = true by simpa using hn)))
  · rw [arrives, gives hwell hg]
    exact congrArg _ (if_pos hin)
  · intro timer
    have entered : headerArrives h0 h1 h2 s =
        afterTripChange (tripInForce s) (setPendingTrip (some (senderOf h0)) noticed) :=
      (gives hwell hg).trans (if_neg (show ¬ inTripSet s (senderOf h0) = true by simp [hout]))
    have inForce := tripInForce_pending (senderOf h0) noticed
    rw [arrives, entered, afterTripChange, inForce]
    refine ⟨fun hruns hbefore => ?_, fun hstands => ?_⟩
    · have stepped := tripStep_running (s := setPendingTrip (some (senderOf h0)) noticed) hwell (online_of_works hw) hruns inForce
      rw [hbefore, Bool.not_false, Bool.true_and, if_pos rfl, stepped, testRecall_pending]
      · rfl
      · exact hwell
      · rfl
    · have skipped : (if (!tripInForce s && true) = true then tripStep (setPendingTrip (some (senderOf h0)) noticed)
          else setPendingTrip (some (senderOf h0)) noticed) = setPendingTrip (some (senderOf h0)) noticed := by
        obtain hruns | hbefore := hstands
        · have stands : tripStep (setPendingTrip (some (senderOf h0)) noticed) = setPendingTrip (some (senderOf h0)) noticed :=
            if_neg (by simpa using hruns)
          rw [stands, ite_self]
        · simp [hbefore]
      rw [skipped, testRecall_pending]
      · rfl
      · exact hwell
      · rfl

/-! ### FRAME_MALFORMED (R13, R15, R28, R93) -/

/-- What a firing does to the event unit does not hang on the rest of the state (R166 to R169). -/
theorem enqueue_evu_congr (f : Firing) {s t : State} (hc : t.settings = s.settings) (he : t.evu = s.evu) :
    (enqueue f t).evu = (enqueue f s).evu := by
  have hlevel (source : Nat) : levelOf t source = levelOf s source := by simp [levelOf, hc]
  simp only [enqueue, append, hlevel, he]
  split_ifs <;> simp [setQueue, countDropped, he]

/-- With no channel bound, no firing is taken (R175). -/
theorem takingChannel_of_unbound {s : State} (h : noChannelBound s) (f : Firing) : takingChannel f s = none := by
  rw [takingChannel, List.find?_eq_none]
  intro n hn
  simp [channelTakes, h n (List.mem_range.mp hn)]

/-- What an offered firing may change: the event unit, and by a derate step what hangs on C_own (R81, R166, R176). -/
theorem offer_frame (f : Firing) (s : State) :
    offer f s = { s with
      lif := { s.lif with tx := (offer f s).lif.tx }, evu := (offer f s).evu
      msu := { s.msu with quantities := (offer f s).msu.quantities }
      frh := { s.frh with
        outbox := { s.frh.outbox with stateReport := (offer f s).frh.outbox.stateReport }, lastC := (offer f s).frh.lastC }
      dtu := { s.dtu with
        derateTotal := (offer f s).dtu.derateTotal, quietCount := (offer f s).dtu.quietCount
        target := (offer f s).dtu.target, recallTimer := (offer f s).dtu.recallTimer } } := by
  ext1
  case lif => ext1 <;> simp
  case msu => ext1 <;> simp
  case frh =>
    ext1
    case outbox => ext1 <;> simp
    all_goals simp
  case dtu => ext1 <;> simp
  all_goals simp

/-- A firing that no channel takes changes the event unit alone, as it would from a state with the same event unit. -/
theorem offer_queued {f : Firing} {s t : State} (h : takingChannel f t = none) (hc : t.settings = s.settings)
    (he : t.evu = s.evu) : offer f t = { t with evu := (enqueue f s).evu } := by
  rw [offer_untaken f t h]
  ext1
  case evu => exact enqueue_evu_congr f hc he
  all_goals simp

/-- The closing report ends the notice that is due (R28). -/
theorem closeNotice_notice (d : Nat) (s : State) : (closeNotice d s).frh.notice = none := by
  unfold closeNotice withdrawTrip
  split
  · split <;> simp
  · assumption

/-- A pending trip that its notice made is withdrawn with it (R93). -/
theorem closeNotice_pendingTrip (d : Nat) (s : State) :
    (closeNotice d s).dtu.pendingTrip =
      if s.frh.notice ≠ none ∧ s.dtu.pendingTrip = s.frh.notice then none else s.dtu.pendingTrip := by
  cases hn : s.frh.notice with
  | none => simp [closeNotice, hn]
  | some n => by_cases hp : s.dtu.pendingTrip = some n <;> simp [closeNotice, withdrawTrip, hn, hp]

/-- With no notice due there is nothing to close. -/
theorem closeNotice_none {s : State} (d : Nat) (h : s.frh.notice = none) : closeNotice d s = s := by
  simp [closeNotice, h]

/-- The withdrawal of a pending trip is offered (R93). -/
theorem closeNotice_withdraws {n : Nat} {s : State} (d : Nat) (hn : s.frh.notice = some n)
    (hp : s.dtu.pendingTrip = some n) :
    (closeNotice d s).evu = (offer (fire 26 n d) (setPendingTrip none (setNotice none s))).evu := by
  simp [closeNotice, withdrawTrip, hn, hp]

/-- Settles O18: the firing and then the closing report, each with what it leaves as it stands. -/
theorem malformedFrameIsReported : Obligations.MalformedFrameIsReported := by
  intro reason s hw hr firing hunting
  have routed (h : takingChannel firing s = none) :
      offer firing (rxHunt s) = { s with lif := hunting, evu := (enqueue firing s).evu } :=
    offer_queued (s := s) (t := rxHunt s) h rfl rfl
  refine ⟨malformed reason (rxHunt s), ?_, ?_, ?_, fun hn hc => ?_, fun n hn hp hc => ?_⟩
  · simp [exec, execFrameMalformed, hw, hr]
  · have notice := closeNotice_notice 2 (offer firing (rxHunt s))
    ext1
    case lif => ext1 <;> simp <;> rfl
    case msu => ext1 <;> simp
    case frh =>
      ext1
      case outbox => ext1 <;> simp
      case notice => exact notice
      all_goals simp
    case dtu => ext1 <;> simp
    all_goals simp
  · rw [malformed, closeNotice_pendingTrip]
    simp
  · exact (closeNotice_none 2 (by simpa using hn)).trans (routed hc)
  · have free := takingChannel_of_unbound hc
    have unbound : noChannelBound (enqueue firing s) := by simpa [noChannelBound] using hc
    have withdrawn := closeNotice_withdraws (s := offer firing (rxHunt s)) (n := n) 2 (by simpa using hn) (by simpa using hp)
    refine withdrawn.trans ?_
    rw [routed (free firing), offer_untaken]
    · exact enqueue_evu_congr _ (by simp) rfl
    · exact takingChannel_of_unbound unbound _

end Sys2Proof.Machine
end

section
/-! SUPPORT. A station clash (R12, R22, R29, R30): FRAME_COMPLETE of a frame that bears the own number. -/

namespace Sys2Proof.Machine

variable {s : State}

/-! ### Outside JOINING and ACTIVE nothing enters the outbox (R31) -/

/-- The frame handler and the line interface stand. -/
def LineStands (s t : State) : Prop := t.frh = s.frh ∧ t.lif = s.lif

theorem LineStands.of_eq {s t : State} (hf : t.frh = s.frh) (hl : t.lif = s.lif) : LineStands s t := ⟨hf, hl⟩

theorem LineStands.trans {s t u : State} (h : LineStands s t) (k : LineStands t u) : LineStands s u :=
  ⟨k.1.trans h.1, k.2.trans h.2⟩

/-- Where entries are not kept, they are not kept after an operation that leaves the line. -/
theorem LineStands.keepsEntries {s t : State} (h : LineStands s t) (hs : keepsEntries s = false) : keepsEntries t = false := by
  simpa [Machine.keepsEntries, h.1] using hs

theorem enterStateFrame_outside (h : keepsEntries s = false) : enterStateFrame s = s := by
  simp [enterStateFrame, h]

theorem capacityChanged_outside (h : keepsEntries s = false) : LineStands s (capacityChanged s) := by
  have written : keepsEntries (writeQuantity 5 .valid (cOwn s) s) = false := by simpa [keepsEntries] using h
  simp only [capacityChanged, enterStateFrame_outside written, ite_self]
  exact .of_eq (by simp) (by simp)

theorem moveDerate_outside (total quiet : Nat) (h : keepsEntries s = false) : LineStands s (moveDerate total quiet s) := by
  unfold moveDerate
  dsimp only
  split
  · exact .of_eq rfl rfl
  · exact .trans (.of_eq rfl rfl) (capacityChanged_outside h)

theorem channelAction_outside (m : Mode) (h : keepsEntries s = false) : LineStands s (channelAction m s) := by
  cases m with
  | derate => exact moveDerate_outside _ _ h
  | pulse0 | pulse1 | count => exact .of_eq rfl rfl

theorem offer_outside (f : Firing) (h : keepsEntries s = false) : LineStands s (offer f s) := by
  unfold offer
  split
  · rename_i n _
    have acted := channelAction_outside (slotGet s.evu.channels n Channel.unbound).mode h
    refine acted.trans ?_
    unfold channelActs
    dsimp only
    split <;> exact .of_eq (by simp) (by simp)
  · exact .of_eq (by simp) (by simp)

theorem offerAll_outside (fs : List Firing) (h : keepsEntries s = false) : LineStands s (offerAll fs s) := by
  unfold offerAll
  induction fs generalizing s with
  | nil => exact .of_eq rfl rfl
  | cons f fs ih =>
    have offered := offer_outside f h
    exact offered.trans (ih (offered.keepsEntries h))

theorem takeDuty_outside (new : Duty) (cause : List Firing) (h : keepsEntries s = false) :
    LineStands s (takeDuty new cause s) := by
  have entered : LineStands s (enterDuty new s) := .of_eq (by simp) (by simp)
  have offered := entered.trans (offerAll_outside (dutyChange new s.dtu.duty :: cause) (entered.keepsEntries h))
  simp only [takeDuty, enterStateFrame_outside (offered.keepsEntries h)]
  refine offered.trans ?_
  split <;> exact .of_eq (by simp) (by simp)

/-- What a refused ask leaves of the line and the pump. -/
structure AskOver (s t : State) : Prop where
  line : LineStands s t
  setpoint : t.dtu.setpoint = s.dtu.setpoint
  runReq : t.dtu.runReq = s.dtu.runReq

theorem AskOver.refl (s : State) : AskOver s s := ⟨.of_eq rfl rfl, rfl, rfl⟩

theorem AskOver.trans {s t u : State} (h : AskOver s t) (k : AskOver t u) : AskOver s u :=
  ⟨h.line.trans k.line, k.setpoint.trans h.setpoint, k.runReq.trans h.runReq⟩

theorem offer_askOver (f : Firing) (h : keepsEntries s = false) : AskOver s (offer f s) :=
  ⟨offer_outside f h, by simp, by simp⟩

theorem testRecall_askOver (s : State) : AskOver s (testRecall s) := ⟨.of_eq (by simp) (by simp), by simp, by simp⟩

theorem reportRefusal_askOver (h : keepsEntries s = false) : AskOver s (reportRefusal s) := by
  unfold reportRefusal
  split
  · obtain ⟨hsetpoint, hrunReq, -⟩ := takeDuty_runs_on .refused [] s (.inr (.inl rfl))
    exact ⟨takeDuty_outside _ _ h, hsetpoint, hrunReq⟩
  · exact .refl s

theorem dropAsk_askOver (h : keepsEntries s = false) : AskOver s (dropAsk s) := by
  have idle : AskOver s (setAsk .idle s) := ⟨.of_eq rfl rfl, rfl, rfl⟩
  have refused := idle.trans (reportRefusal_askOver (idle.line.keepsEntries h))
  exact refused.trans (offer_askOver _ (refused.line.keepsEntries h))

theorem reportDropped_askOver (q : Option Octet) (h : keepsEntries s = false) : AskOver s (reportDropped q s) := by
  unfold reportDropped
  split
  · split
    · exact dropAsk_askOver h
    · exact .refl s
  · split
    · exact dropAsk_askOver h
    · exact .refl s
  · exact .refl s

theorem reportsDropped_askOver (asks : List (Option Octet)) (h : keepsEntries s = false) :
    AskOver s (asks.foldl (fun s q => reportDropped q s) s) := by
  induction asks generalizing s with
  | nil => exact .refl s
  | cons q asks ih =>
    have dropped := reportDropped_askOver q h
    exact dropped.trans (ih (dropped.line.keepsEntries h))

/-- The entry to LISTEN_ONLY empties the outbox and cuts the attempt, and the asks that go leave line and pump (R12, R30). -/
theorem enterListenOnly_askOver (s : State) : AskOver (emptied .listenOnly .stopped s) (enterListenOnly s) :=
  (reportsDropped_askOver (removedAsks s) (s := emptied .listenOnly .stopped s) rfl).trans (testRecall_askOver _)

/-- The closing report of a notice outside JOINING and ACTIVE. -/
theorem closeNotice_outside (d : Nat) (h : keepsEntries s = false) : AskOver (setNotice none s) (closeNotice d s) := by
  unfold closeNotice withdrawTrip
  split
  · split
    · rename_i n _ _
      have withdrawn : AskOver (setNotice none s) (setPendingTrip none (setNotice none s)) := ⟨.of_eq rfl rfl, rfl, rfl⟩
      exact (withdrawn.trans (offer_askOver (fire 26 n d) h)).trans (testRecall_askOver _)
    · exact .refl _
  · rename_i hn
    refine ⟨.of_eq ?_ rfl, rfl, rfl⟩
    ext1 <;> simp [hn]

/-! ### FRAME_COMPLETE of a frame as it was sent -/

/-- A frame that some station sent reaches FRH's checks of sender and role (R14, R20, R21). -/
theorem exec_frameComplete_sent {station : Nat} {role : Role} {p : Payload} {q : Octet} {own : Bool} (h : station ≤ 31)
    (hdue : frameDue s (frameOctets station role.code p q) own) :
    exec (.frameComplete (frameOctets station role.code p q) own) s =
      .next (wellFormedFrame p.kind role (frameBody station role.code p q) own s.lif.rxStartedSending (rxHunt s)) := by
  obtain ⟨-, -, hrole, hkind, -⟩ := header_reads role p q h
  refine congrArg Host.Outcome.next ((if_pos ((frameDue_iff s _ _).mp hdue)).trans ?_)
  rw [frameCompletes, take_frameOctets, frhFrame, frhReason_frameBody role p q h, hrole, hkind, roleOfCode_code,
    kindOfCode_code]

/-- Settles O20: the clash empties the outbox before anything else, and what follows finds no entry kept. -/
theorem ownNumberIsAClash : Obligations.OwnNumberIsAClash := by
  intro s role p q octets hdue hkeeps hstarted
  have hown : ownNumber s ≤ 31 := by
    have hlt : s.stl.station.toNat < 32 := s.stl.station.isLt
    exact Nat.le_of_lt_succ hlt
  obtain ⟨-, hsender, -⟩ := header_reads role p q hown
  let fired := offer (fire 3 (ownNumber s) p.kind.code) (rxHunt s)
  have clash : wellFormedFrame p.kind role (frameBody (ownNumber s) role.code p q) false s.lif.rxStartedSending (rxHunt s) =
      closeNotice 2 (enterListenOnly fired) := by
    have listens : stationClash p.kind (rxHunt s) = enterListenOnly fired := if_pos hkeeps
    have own_rxHunt : ownNumber (rxHunt s) = ownNumber s := rfl
    simp only [wellFormedFrame, hsender, hstarted, own_rxHunt, listens, Bool.false_eq_true, if_false, if_true]
  have listening := enterListenOnly_askOver fired
  have closed := closeNotice_outside 2 (s := enterListenOnly fired) (listening.line.keepsEntries rfl)
  refine ⟨closeNotice 2 (enterListenOnly fired), (exec_frameComplete_sent hown hdue).trans (congrArg _ clash), ?_, ?_, ?_, ?_, ?_⟩
  · obtain ⟨hfrh, hlif⟩ := closed.line
    obtain ⟨hfrh', hlif'⟩ := listening.line
    have frh : (closeNotice 2 (enterListenOnly fired)).frh =
        { (emptied .listenOnly .stopped fired).frh with notice := none } := by
      rw [hfrh, ← hfrh']
      rfl
    ext1
    case frh =>
      rw [frh]
      ext1 <;> simp [emptied, fired]
    case lif =>
      rw [hlif]
      refine hlif'.trans ?_
      ext1 <;> simp [emptied, fired] <;> rfl
    case msu => ext1 <;> simp [fired]
    case rng => ext1 <;> simp [fired]
    all_goals simp [fired]
  · rw [closed.setpoint]
    exact listening.setpoint.trans (by simp [fired, emptied])
  · rw [closed.runReq]
    exact listening.runReq.trans (by simp [fired, emptied])
  · simp [fired]
  · simp [faultOut, closed.line.1, listening.line.1, emptied]

end Sys2Proof.Machine
end

section
/-! SUPPORT. The completion of an image load (R72, R147 to R149, R154, R174, R182 to R184). -/

namespace Sys2Proof.Machine

/-! ### The channels of a good image (R174, R182) -/

/-- A good image passes check 9 in each of its channel records (R182). -/
theorem channelGood_of_imageFault {img : List Octet} {role n : Nat} (h : imageFault img role = 0) (hn : n < 4) :
    channelGood img (roleOfCode role) n = true := by
  by_contra hbad
  have fails : (!(List.range 4).all (channelGood img (roleOfCode role))) = true := by
    simpa using ⟨n, hn, by simpa using hbad⟩
  simp only [imageFault, fails, if_true] at h
  split_ifs at h

/-- A good image binds no DERATE channel outside the role WELL (R182). -/
theorem imageChannel_mode {img : List Octet} {role : Option Role} {n : Nat} (h : channelGood img role n = true)
    (hr : role ≠ some .well) : (imageChannel img n).mode ≠ .derate := by
  by_cases hsource : imageOctet img (260 + 4 * n) = 0
  · simp [imageChannel, hsource, Channel.unbound]
  · cases hm : modeOfCode (imageOctet img (260 + 4 * n + 2)) <;> simp_all [imageChannel, channelGood]

/-- Where no channel derates, a firing changes the event unit alone (R166, R176). -/
theorem offer_no_derate (f : Firing) {s : State}
    (h : ∀ n, n < 4 → (slotGet s.evu.channels n Channel.unbound).mode ≠ .derate) :
    offer f s = { s with evu := (offer f s).evu } := by
  cases ht : takingChannel f s with
  | none => exact offer_queued ht rfl rfl ▸ rfl
  | some n =>
    have hn : n < 4 := List.mem_range.mp (List.mem_of_find?_eq_some ht)
    rw [offer_taken f s n ht, channelActs, channelAction_pulse _ s (h n hn)]
    dsimp only
    split
    · rw [enqueue_changes]
      rfl
    · rfl

/-! ### The entry to JOINING (R30, R184) -/

/-- A dropped REST-ASK is reported to no ask that is not under way (R35). -/
theorem reportDropped_idle {s : State} (q : Option Octet) (h : s.rng.ask = .idle) : reportDropped q s = s := by
  simp [reportDropped, h]

/-- With no ask under way, the entry to JOINING empties the outbox and stops the recall timer of RESTING (R29, R30, R104). -/
theorem enterJoining_idle {s : State} (h : s.rng.ask = .idle) :
    enterJoining s = setRecallTimer
      (if hasRole s .well = true ∧ s.dtu.duty = .resting then .stopped else s.dtu.recallTimer)
      (emptied .joining (.running (joinPeriod s)) s) := by
  have dropped : (removedAsks s).foldl (fun s q => reportDropped q s) (emptied .joining (.running (joinPeriod s)) s) =
      emptied .joining (.running (joinPeriod s)) s :=
    List.foldl_fixed' (fun q => reportDropped_idle (s := emptied .joining (.running (joinPeriod s)) s) q h) _
  rw [enterJoining, leaveActive, dropped, testRecall_fails rfl]
  rfl

/-! ### The trip of a TURBINE station at its load (R147 to R149) -/

/-- The state of a TURBINE station that has entered TRIPPED with an empty outbox, but for its event unit (R148, R149). -/
def tripAnnounced (c : TripCause) (s : State) : State :=
  { s with
    srg := { s.srg with demand := 0, trip := .tripped c }
    frh := { s.frh with
      outbox := { Outbox.empty with
        trip := some { payload := .trip c, count := 0, seq := none }
        demand := some { payload := .demand 0 c.code, count := 0, seq := none } }
      lastDemand := some 0 } }

/-- In JOINING the entry to TRIPPED enters TRIP and DEMAND in an empty outbox, and offers the own TRIP_IN (R149). -/
theorem enterTripped_joining {s : State} (c : TripCause) (hl : s.frh.lineState = .joining) (ho : s.frh.outbox = Outbox.empty)
    (hf : s.frh.inFlight = none) (hd : ∀ n, n < 4 → (slotGet s.evu.channels n Channel.unbound).mode ≠ .derate) :
    enterTripped c s = { tripAnnounced c s with evu := (enterTripped c s).evu } := by
  have unselected (t : State) (ht : t.frh.lineState = .joining) : select t = t := select_stands t (.inl (by simp [ht]))
  have entered : enterDemandFrame 0 c.code (enterTripFrame c (setSrg { s.srg with demand := 0, trip := .tripped c } s)) =
      tripAnnounced c s := by
    simp [tripAnnounced, enterTripFrame, enterDemandFrame, keepsEntries, placeTrip, unselected, setSrg, hl, ho, hf, doomClear,
      replacing, Outbox.empty]
  rw [enterTripped, announceOwnTrip, entered]
  exact offer_no_derate _ hd

/-- The tenth transfer of a good image completes the load (R181, R182, R184). -/
theorem exec_imageTransferDone_good {octets : List Octet} {s : State} (htry : tryUnderWay s = true) (hbus : s.stl.bus = [])
    (hlen : octets.length = 32) (htransfer : s.stl.transfer = 9)
    (hgood : imageFault (s.stl.image ++ octets) s.stl.roleCode.toNat = 0) :
    exec (.imageTransferDone octets) s = .next (completeLoad (setStl
      { s.stl with image := s.stl.image ++ octets, failedTries := 0, stopSent := true, bus := [], busAt := 0 } s)) := by
  have done : (tryUnderWay s && s.stl.bus.isEmpty && octets.length == 32) = true := by simp [htry, hbus, hlen]
  have tenth : ¬ s.stl.transfer < 9 := by omega
  simp only [exec, execImageTransferDone, done, if_true, transferDone, if_neg tenth, checkImage]
  exact congrArg _ (if_pos hgood)

/-- Settles O6: the load as one state, and the trip of a TURBINE station on top of it. -/
theorem goodImageJoins : Obligations.GoodImageJoins := by
  intro octets s htry hbus hlen htransfer hgood hask image c tripsAtOnce joined
  have loads := exec_imageTransferDone_good htry hbus hlen htransfer hgood
  have joins : enterJoining (startLinks (takeSettings (setStl
      { s.stl with image := image, failedTries := 0, stopSent := true, bus := [], busAt := 0 } s))) = joined := by
    rw [enterJoining_idle]
    · rfl
    · exact hask
  have completes : exec (.imageTransferDone octets) s = .next (if tripsAtOnce then enterTripped .tripIn joined else joined) := by
    rw [loads, completeLoad, joins]
    rfl
  refine ⟨fun hn => ?_, fun htrips => ?_⟩
  · rw [completes, hn]
    rfl
  · refine ⟨enterTripped .tripIn joined, ?_, ?_⟩
    · rw [completes, htrips]
      rfl
    · refine enterTripped_joining .tripIn rfl rfl rfl fun n hn => ?_
      have turbine : hasRole s .turbine = true := (Bool.and_eq_true_iff.mp htrips).1
      have notWell : roleOfCode s.stl.roleCode.toNat ≠ some .well := by simp_all [hasRole, roleOf]
      have bound : slotGet joined.evu.channels n Channel.unbound = imageChannel image n := by simp [joined, slotGet, hn]
      rw [bound]
      exact imageChannel_mode (channelGood_of_imageFault hgood hn) notWell

end Sys2Proof.Machine
end

section
/-! SUPPORT. JOIN_EXPIRY (R29, R34, R104, R184) and ATTEMPT_FAILED (R8, R35, R36). -/

namespace Sys2Proof.Machine

/-! ### The recall test (R104) -/

/-- The trip set is empty when no station is in it (R90). -/
theorem tripSet_empty_iff (s : State) :
    s.dtu.tripSet.toList.any (·.isSome) = false ↔ ∀ n, n < 32 → inTripSet s n = false := by
  rw [List.any_eq_false]
  refine ⟨fun h n hn => ?_, fun h x hx => ?_⟩
  · simpa [inTripSet, slotGet, hn] using h s.dtu.tripSet[n] (by simp)
  · obtain ⟨n, hn, rfl⟩ := List.getElem_of_mem hx
    have hn' : n < 32 := by simpa using hn
    simpa [inTripSet, slotGet, hn'] using h n hn'

/-- The six recall conditions (R104). -/
theorem recallConditions_iff (s : State) :
    recallConditions s = true ↔
      s.frh.lineState = .active ∧ (∀ n, n < 32 → inTripSet s n = false) ∧ s.dtu.pendingTrip = none ∧
        s.settings.fMin ≤ cOwn s ∧ peerCapacity s < fieldDemand s ∧ peerStarting s = false := by
  rw [← tripSet_empty_iff]
  simp [recallConditions, and_assoc]

/-- The recall test moves the recall timer at most, and that in RESTING of a WELL station alone (R104). -/
theorem testRecall_eq (s : State) :
    testRecall s = setRecallTimer
      (if hasRole s .well = true ∧ s.dtu.duty = .resting then
        if recallConditions s then .running (1000 * recallTime s) else .stopped
      else s.dtu.recallTimer) s := by
  by_cases hr : hasRole s .well = true ∧ s.dtu.duty = .resting
  · rw [if_pos hr]
    exact if_pos (by simp [hr])
  · rw [if_neg hr]
    exact if_neg (by simpa using hr)

/-! ### JOIN_EXPIRY -/

/-- What the transmit side holds after a selection in ACTIVE (R34). -/
theorem select_active {s : State} (h : s.frh.lineState = .active) :
    select s = { s with lif := { s.lif with tx := if isSending s then s.lif.tx else selectedTx s s.frh.outbox } } := by
  cases hs : isSending s with
  | true => exact select_stands s (.inr hs)
  | false =>
    have handed := select_hands_over s h hs
    ext1
    case lif => ext1 <;> simp [handed]
    all_goals simp

/-- Settles O12: the entry to ACTIVE, its selection and its recall test. -/
theorem joinExpiryGoesActive : Obligations.JoinExpiryGoesActive := by
  refine ⟨recallConditions_iff, fun s hw hl => ?_⟩
  let joined : State := { s with frh := { s.frh with lineState := .active, joinTimer := .stopped } }
  have selected : select joined =
      { joined with lif := { s.lif with tx := if isSending s then s.lif.tx else selectedTx s s.frh.outbox } } :=
    select_active rfl
  have tested := testRecall_eq (select joined)
  refine ⟨testRecall (select joined), ?_, ?_, ?_⟩
  · simp [exec, execJoinExpiry, hw, hl]
    rfl
  · rw [tested, selected]
    rfl
  · rw [tested, selected]
    rfl

/-! ### ATTEMPT_FAILED -/

/-- An attempt whose echo check failed at a point settles its frame as FAILED (R8). -/
theorem exec_attemptFailed {s : State} {f : InFlight} {p : FailPoint} (hw : works s = true)
    (ht : s.lif.tx = .sending [] false (some p)) (hf : s.frh.inFlight = some f) :
    exec (.attemptFailed p) s = .next (settleFailed f p s) := by
  have due : dueOutcome s = some (f, some p) := (dueOutcome_eq s f (some p)).mpr ⟨ht, hf⟩
  simp only [exec, execAttemptFailed, hw, due, if_true]

/-- No newer entry stands where a failed frame returns, and no waiting reply has reached the attempt limit (R33, R35, R36). -/
def SlotFree (f : InFlight) (o : Outbox) : Prop :=
  if f.entry.payload.kind = .restReply then
    o.replies.length < 4 ∧ (o.replies.all fun e => addresseeOf e != addresseeOf f.entry && decide (e.count < 8)) = true
  else slotEntries f.entry.payload.kind o = []

/-- A failed frame without a newer entry returns to its slot, the oldest there, and no reply is pushed out (R33, R35). -/
theorem settledOutbox_returns {f : InFlight} {o : Outbox} (hd : f.doomed = false) (hfree : SlotFree f o) :
    slotEntries f.entry.payload.kind (settledOutbox f o) =
        failedEntry f.entry :: slotEntries f.entry.payload.kind o ∧ settleFirings f o = [] := by
  unfold SlotFree at hfree
  cases hk : f.entry.payload.kind with
  | restReply =>
    rw [hk, if_pos rfl] at hfree
    obtain ⟨hlen, hall⟩ := hfree
    have unanswered : ¬ (o.replies.any fun e => addresseeOf e == addresseeOf f.entry) = true := by
      simp only [List.all_eq_true, Bool.and_eq_true, bne_iff_ne] at hall
      simpa using fun e he => (hall e he).1
    have returned : settledReplies o.replies f = (failedEntry f.entry :: o.replies, none) := by
      rw [settledReplies, if_neg unanswered, if_pos hlen]
    simp [settledOutbox, settleFirings, hk, slotEntries, returned]
  | trip | clear | restAsk | demand | stateReport =>
    simp only [hk, reduceCtorEq, if_false, slotEntries, Option.toList_eq_nil_iff] at hfree
    simp [settledOutbox, settleFirings, hk, slotEntries, settledSlot, hfree, hd]

/-- The settlement of a failed frame leaves the slots of the other kinds as they stand. -/
theorem slotEntries_settledOutbox_other {f : InFlight} {k : FrameKind} (o : Outbox) (h : k ≠ f.entry.payload.kind) :
    slotEntries k (settledOutbox f o) = slotEntries k o := by
  unfold settledOutbox
  cases hk : f.entry.payload.kind <;> rw [hk] at h <;> cases k <;> simp [slotEntries] at h ⊢

/-- Below the limit a failure counts one more (R36). -/
theorem failedEntry_counts {e : Entry}
    (h : if e.payload.kind = .trip ∨ e.payload.kind = .clear then e.count < 255 else e.count < 8) :
    failedEntry e = { e with count := e.count + 1 } := by
  unfold failedEntry
  cases hk : e.payload.kind <;> simp [hk] at h ⊢ <;> omega

/-- A TRIP, a CLEAR, and a slot whose entries all lie below the limit pass the attempt-limit check (R36). -/
theorem limitCheck_passes {k : FrameKind} (x : FailPoint) {s : State}
    (h : ¬ (k = .trip ∨ k = .clear) → ∀ e ∈ slotEntries k s.frh.outbox, atLimit e = false) : limitCheck k x s = s := by
  unfold limitCheck
  cases k with
  | trip => rfl
  | clear => rfl
  | restReply => exact if_neg (by simpa [slotEntries] using h)
  | restAsk =>
    dsimp only
    split
    · rename_i e he
      exact if_neg (by simpa [slotEntries, he] using h)
    · rfl
  | demand => exact if_neg (by cases he : s.frh.outbox.demand <;> simp_all [slotEntries])
  | stateReport => exact if_neg (by cases he : s.frh.outbox.stateReport <;> simp_all [slotEntries])

/-- A STATE or a DEMAND at the limit leaves the outbox with SEND_DROPPED (R36). -/
theorem limitCheck_drops {k : FrameKind} (x : FailPoint) {s : State} (hk : k = .stateReport ∨ k = .demand)
    (h : (slotEntries k s.frh.outbox).any atLimit = true) :
    limitCheck k x s = offer (fire 2 k.code (failPointCode x)) (setOutbox (withinLimit k s.frh.outbox) s) := by
  obtain rfl | rfl := hk
  · cases he : s.frh.outbox.stateReport <;> simp_all [limitCheck, withinLimit, slotEntries, Option.filter_some]
  · cases he : s.frh.outbox.demand <;> simp_all [limitCheck, withinLimit, slotEntries, Option.filter_some]

/-- A STATE or a DEMAND that returns at the limit to an empty slot leaves the outbox as it was. -/
theorem withinLimit_settledOutbox {f : InFlight} {o : Outbox}
    (hk : f.entry.payload.kind = .stateReport ∨ f.entry.payload.kind = .demand)
    (hfree : slotEntries f.entry.payload.kind o = []) (hlimit : atLimit (failedEntry f.entry) = true) :
    withinLimit f.entry.payload.kind (settledOutbox f o) = o := by
  obtain ⟨_, _, _, _, demand, stateReport⟩ := o
  unfold settledOutbox
  obtain hk | hk := hk
  · cases stateReport <;> cases hd : f.doomed <;>
      simp_all [withinLimit, settledSlot, slotEntries, Option.filter_some]
  · cases demand <;> cases hd : f.doomed <;>
      simp_all [withinLimit, settledSlot, slotEntries, Option.filter_some]

/-- What the selection after a settlement makes of the outbox left (R34). -/
theorem select_settled (o : Outbox) (s : State) :
    select (setOutbox o (endAttempt s)) =
      { s with
        frh := { s.frh with outbox := o, inFlight := none }
        lif := { s.lif with tx := if s.frh.lineState = .active then selectedTx s o else .none } } :=
  select_of_tx_none _ rfl

/-- Settles O15: the frame's return to its slot, and the attempt-limit check on what the slot then holds. -/
theorem failedFrameReturnsOrDrops : Obligations.FailedFrameReturnsOrDrops := by
  intro s f p hw ht hf hd hfree
  have settles := exec_attemptFailed hw ht hf
  obtain ⟨returns, unfired⟩ := settledOutbox_returns hd hfree
  have back : settleSlots f (endAttempt s) = setOutbox (settledOutbox f s.frh.outbox) (endAttempt s) := by
    rw [settleSlots_eq]
    exact congrArg (offerAll · _) unfired
  refine ⟨fun hcount => ?_, fun hk hcount hc => ?_⟩
  · have counted : failedEntry f.entry = { f.entry with count := f.entry.count + 1 } :=
      failedEntry_counts (by split_ifs at hcount ⊢ <;> omega)
    have passes : limitCheck f.entry.payload.kind p (setOutbox (settledOutbox f s.frh.outbox) (endAttempt s)) =
        setOutbox (settledOutbox f s.frh.outbox) (endAttempt s) := by
      refine limitCheck_passes p fun hk e he => ?_
      rw [if_neg hk] at hcount
      have he' : e = failedEntry f.entry ∨ e ∈ slotEntries f.entry.payload.kind s.frh.outbox :=
        List.mem_cons.mp (returns ▸ he)
      obtain rfl | he' := he'
      · simp [counted, atLimit]
        omega
      · by_cases hreply : f.entry.payload.kind = .restReply
        · rw [if_pos hreply] at hfree
          rw [hreply] at he'
          have below := List.all_eq_true.mp hfree.2 e he'
          simp only [Bool.and_eq_true, decide_eq_true_eq] at below
          simpa [atLimit] using below.2
        · rw [if_neg hreply] at hfree
          simp [hfree] at he'
    refine ⟨_, settles, ?_⟩
    rw [settleFailed, back, passes, select_settled]
    exact ⟨returns.trans (by rw [counted]), fun k hne => slotEntries_settledOutbox_other _ hne, rfl⟩
  · have unlimited : ¬ (f.entry.payload.kind = .trip ∨ f.entry.payload.kind = .clear) := by
      obtain hk | hk := hk <;> simp [hk]
    have hempty : slotEntries f.entry.payload.kind s.frh.outbox = [] := by
      obtain hk | hk := hk <;> simpa [hk] using hfree
    have limit : atLimit (failedEntry f.entry) = true := by
      rw [failedEntry_counts (by simp [unlimited, hcount])]
      simp [atLimit, hcount]
    have drops := limitCheck_drops (s := setOutbox (settledOutbox f s.frh.outbox) (endAttempt s)) p hk
      (by simp [returns, limit])
    have gone : withinLimit f.entry.payload.kind (settledOutbox f s.frh.outbox) = s.frh.outbox :=
      withinLimit_settledOutbox hk hempty limit
    have offered : offer (fire 2 f.entry.payload.kind.code (failPointCode p)) (setOutbox s.frh.outbox (endAttempt s)) =
        { setOutbox s.frh.outbox (endAttempt s) with
          evu := (enqueue (fire 2 f.entry.payload.kind.code (failPointCode p)) s).evu } :=
      offer_queued hc rfl rfl
    rw [settles, settleFailed, back, drops, setOutbox_frh_outbox, gone]
    exact congrArg Host.Outcome.next ((congrArg select offered).trans (select_of_tx_none _ rfl))

end Sys2Proof.Machine
end

section
/-! SUPPORT. FRAME_COMPLETE of a peer's frame, part 1: the row it writes, and what its checks discard (R20 to R26, R41 to R45). -/

namespace Sys2Proof.Machine

variable {s : State} {n : Nat} {role : Role} {p : Payload} {q : Octet}

/-! ### The checks of FRH and of the peer view (R21 to R25, R41) -/

/-- The column "Sent by role" (R18, R23). -/
theorem sentBy_iff (kind : FrameKind) (role : Role) : kind.sentBy role = true ↔ roleSends role kind := by
  cases kind <;> cases role <;> simp [FrameKind.sentBy, roleSends]

/-- The role check passes a row without a role and a row of the frame's role (R41). -/
theorem roleAgrees_iff (r : PeerRow) (role : Role) : roleAgrees r role = true ↔ r.role = none ∨ r.role = some role := by
  unfold roleAgrees
  cases r.role <;> simp

/-- An own echo, and a frame with the own number begun while SENDING, go no further (R21, R22). -/
theorem exec_frameComplete_discarded {own : Bool} (hn : n ≤ 31) (hdue : frameDue s (frameOctets n role.code p q) own)
    (h : own = true ∨ (n = ownNumber s ∧ s.lif.rxStartedSending = true)) :
    exec (.frameComplete (frameOctets n role.code p q) own) s = .next (closeNotice 2 (rxHunt s)) := by
  obtain ⟨-, hsender, -⟩ := header_reads role p q hn
  rw [exec_frameComplete_sent hn hdue, wellFormedFrame, hsender]
  cases own with
  | true => rfl
  | false =>
    obtain ⟨rfl, hstarted⟩ := h.resolve_left (by decide)
    have own_rxHunt : ownNumber s = ownNumber (rxHunt s) := rfl
    rw [hstarted, if_neg (by decide), if_pos own_rxHunt, if_pos rfl]

/-- A frame of a kind that its role does not send is discarded with ROLE_MISMATCH (R23). -/
theorem exec_frameComplete_wrongKind (hn : n ≤ 31) (hown : n ≠ ownNumber s)
    (hdue : frameDue s (frameOctets n role.code p q) false) (hk : ¬ roleSends role p.kind) :
    exec (.frameComplete (frameOctets n role.code p q) false) s =
      .next (closeNotice 2 (offer (fire 4 n p.kind.code) (rxHunt s))) := by
  obtain ⟨-, hsender, -⟩ := header_reads role p q hn
  have other : n ≠ ownNumber (rxHunt s) := hown
  rw [exec_frameComplete_sent hn hdue, wellFormedFrame, hsender, if_neg (by decide), if_neg other,
    if_neg (mt (sentBy_iff _ _).mp hk)]

/-- Any other frame of a peer reaches the peer view (R25, R26). -/
theorem exec_frameComplete_valid (hn : n ≤ 31) (hown : n ≠ ownNumber s)
    (hdue : frameDue s (frameOctets n role.code p q) false) (hk : roleSends role p.kind) :
    exec (.frameComplete (frameOctets n role.code p q) false) s =
      .next (validFrame p.kind role n q p.octets (rxHunt s)) := by
  obtain ⟨-, hsender, -, -, -, hseq, hpayload⟩ := header_reads role p q hn
  have other : n ≠ ownNumber (rxHunt s) := hown
  rw [exec_frameComplete_sent hn hdue, wellFormedFrame, hsender, hseq, hpayload, if_neg (by decide), if_neg other,
    if_pos ((sentBy_iff _ _).mpr hk)]

/-- A row of another role stands, and the frame is discarded with ROLE_MISMATCH (R41). -/
theorem validFrame_wrongRole (k : FrameKind) (q : Octet) (o : List Octet) {known : Role}
    (hr : (rowOf s n).role = some known) (hne : known ≠ role) :
    validFrame k role n q o s = closeNotice 2 (offer (fire 4 n role.code) s) := by
  have disagrees : ¬ roleAgrees (rowOf s n) role = true := by simp [roleAgrees_iff, hr, hne]
  exact if_neg disagrees

/-- A view-change notice is the recall test, which a WELL station alone makes (R47, R104). -/
theorem noticeView_eq (s : State) : (if hasRole s .well then viewChanged s else s) = testRecall s := by
  cases hw : hasRole s .well with
  | true => rfl
  | false => exact ((testRecall_eq s).trans (by simp [hw, setRecallTimer])).symm

/-- Outside the role WELL there is nothing to recall (R104). -/
theorem testRecall_outside {s : State} (h : hasRole s .well = false) : testRecall s = s := by
  rw [← noticeView_eq]
  exact if_neg (by simp [h])

/-- The recall test moves the recall timer at most, and in RESTING of a WELL station alone (R104). -/
theorem testRecall_timer (s : State) :
    ∃ timer, (hasRole s .well = false ∨ s.dtu.duty ≠ .resting → timer = s.dtu.recallTimer) ∧
      testRecall s = setRecallTimer timer s := by
  refine ⟨_, fun h => if_neg fun ⟨hw, hd⟩ => ?_, testRecall_eq s⟩
  obtain h | h := h
  · simp [hw] at h
  · exact h hd

/-- A duplicate refreshes its row, tests the recall conditions and closes its notice as DUPLICATE (R25, R28, R42). -/
theorem validFrame_duplicate (k : FrameKind) (o : List Octet) (hr : (rowOf s n).role = none ∨ (rowOf s n).role = some role)
    (hq : (rowOf s n).lastSeq = some q) :
    validFrame k role n q o s = closeNotice 1 (testRecall (refreshRow n role k s)) := by
  have duplicate : isDuplicate (rowOf s n) q = true := by simp [isDuplicate, hq]
  rw [← noticeView_eq]
  exact (if_pos ((roleAgrees_iff _ _).mpr hr)).trans (if_pos duplicate)

/-- The station after the peer view has taken a new frame and its notice is closed, before the frame is handed on (R26, R28). -/
def viewTook (k : FrameKind) (role : Role) (n : Nat) (q : Octet) (o : List Octet) (s : State) : State :=
  closeCompleted k n (acceptPayload k n o (acceptSeq n q (refreshRow n role k s)))

/-- A new frame is taken by the peer view and, in a WELL station, handed on (R26). -/
theorem validFrame_accepted (k : FrameKind) (o : List Octet) (hr : (rowOf s n).role = none ∨ (rowOf s n).role = some role)
    (hq : (rowOf s n).lastSeq ≠ some q) :
    validFrame k role n q o s =
      if hasRole s .well then handOn k role n q o (viewTook k role n q o s) else viewTook k role n q o s := by
  have fresh : ¬ isDuplicate (rowOf s n) q = true := by simp [isDuplicate, hq]
  have role_stands : hasRole (viewTook k role n q o s) .well = hasRole s .well := by simp [viewTook, hasRole, roleOf]
  rw [← role_stands]
  exact (if_pos ((roleAgrees_iff _ _).mpr hr)).trans (if_neg fresh)

/-! ### The row (R42 to R45) -/

/-- The event unit after the refresh of a row: PEER_BACK for one that was LOST (R42). -/
def backEvu (n : Nat) (kind : FrameKind) (s : State) : Evu :=
  if (rowOf s n).condition = .lost then (enqueue (fire 7 n kind.code) s).evu else s.evu

/-- The refresh writes the sender's row, whatever its PEER_BACK brings (R42). -/
theorem refreshRow_pvw (n : Nat) (role : Role) (k : FrameKind) (s : State) :
    (refreshRow n role k s).pvw = (setRow n (refreshed (rowOf s n) role) s).pvw := by
  simp only [refreshRow]
  split <;> simp

/-- With no channel bound to PEER_BACK the refresh moves the row and the event unit alone. -/
theorem refreshRow_eq (role : Role) (k : FrameKind)
    (hc : (rowOf s n).condition = .lost → takingChannel (fire 7 n k.code) s = none) :
    refreshRow n role k s = { setRow n (refreshed (rowOf s n) role) s with evu := backEvu n k s } := by
  by_cases hl : (rowOf s n).condition = .lost
  · simp only [refreshRow, backEvu, if_pos hl]
    exact offer_queued (hc hl) rfl rfl
  · simp only [refreshRow, backEvu, if_neg hl]
    rfl

/-- A row of the frame's role, or without one, is refreshed to that role (R42). -/
theorem refreshed_eq {r : PeerRow} (h : r.role = none ∨ r.role = some role) :
    refreshed r role = { r with condition := .fresh, age := 0, role := some role } := by
  obtain h | h := h <;> simp [refreshed, h]

/-- The row after a new frame, before its payload is written (R42). -/
def freshRow (role : Role) (q : Octet) (r : PeerRow) : PeerRow :=
  { r with condition := .fresh, age := 0, role := some role, lastSeq := some q }

/-- The well part of a row that has heard no STATE (R45). -/
def unheardWell : WellPart := { duty := none, capacity := none, flow := none, silica := none }

/-- What a payload writes into its sender's row (R43 to R45). -/
def carriedRow (p : Payload) (r : PeerRow) : PeerRow :=
  match p with
  | .stateReport d capacity flow silica =>
    { r with well := some { duty := some d, capacity := some capacity, flow := flow.map sentValue, silica := silica } }
  | .demand d cause => { r with demand := some { demand := some d, cause := cause } }
  | .restAsk capacity =>
    { r with well := some { r.well.getD unheardWell with capacity := some capacity } }
  | _ => r

/-- The view of `u` is that of `s` with one row put in. -/
def RowPut (n : Nat) (r : PeerRow) (s u : State) : Prop := u.pvw = (setRow n r s).pvw

section RowPut

variable {r : PeerRow} {u : State}

theorem RowPut.row (h : RowPut n r s u) (hn : n < 32) : rowOf u n = r := by
  rw [rowOf_congr h, rowOf_setRow _ _ _ _ hn, if_pos rfl]

theorem RowPut.other (h : RowPut n r s u) {m : Nat} (hm : m < 32) (hne : m ≠ n) : rowOf u m = rowOf s m := by
  rw [rowOf_congr h, rowOf_setRow _ _ _ _ hm, if_neg hne.symm]

theorem slotSet_slotSet {α : Type} {k : Nat} (v : Vector α k) (n : Nat) (a b : α) :
    slotSet (slotSet v n a) n b = slotSet v n b := by
  ext i hi
  simp only [slotSet, Vector.getElem_setIfInBounds]
  split <;> rfl

/-- A row put in over a row. -/
theorem RowPut.trans {r' : PeerRow} {v : State} (h : RowPut n r s u) (k : RowPut n r' u v) : RowPut n r' s v := by
  have hrows : u.pvw.rows = slotSet s.pvw.rows n r := congrArg Pvw.rows h
  rw [RowPut, k]
  simp only [setRow, hrows, slotSet_slotSet]

end RowPut

/-- A frame of another kind than STATE writes what it carries, and the recall conditions are tested (R44, R45, R47). -/
theorem acceptPayload_eq (hp : p.inRange) (hk : p.kind ≠ .stateReport) (u : State) :
    acceptPayload p.kind n p.octets u = testRecall (setRow n (carriedRow p (rowOf u n)) u) := by
  have reads := payload_readsBack p hp
  have stands : testRecall u = testRecall (setRow n (rowOf u n) u) := by rw [setRow_rowOf]
  cases p with
  | stateReport => exact absurd rfl hk
  | trip | clear | restReply => exact (noticeView_eq u).trans stands
  | demand d cause =>
    obtain ⟨hdemand, hcause⟩ := reads
    simp only [Payload.kind, acceptPayload, acceptDemand, hdemand, hcause, noticeView_eq, carriedRow]
  | restAsk capacity =>
    have hcapacity : field16 _ _ = some capacity := reads
    simp only [Payload.kind, acceptPayload, acceptAsk, hcapacity, noticeView_eq, carriedRow]
    cases (rowOf u n).well <;> rfl

/-- A STATE in its ranges draws no FRAME_MALFORMED (R43). -/
theorem statePayloadFirings_nil {d : Duty} {capacity : Nat} {flow silica : Option Nat}
    (hp : (Payload.stateReport d capacity flow silica).inRange) :
    statePayloadFirings (Payload.stateReport d capacity flow silica).octets = [] := by
  obtain ⟨-, -, hsilica⟩ := hp
  have duty : (dutyOfCode (octetOf d.code).toNat).isNone = false := by simp [dutyOfCode_code]
  have bound : fieldNumber silica ≤ 2000 ∨ fieldNumber silica = 65535 := by
    cases silica with
    | none => exact .inr rfl
    | some x =>
      have hx := hsilica x rfl
      have sent : fieldNumber (some x) = x := if_neg (by omega)
      exact .inl (sent.trans_le hx)
  have measured : silicaMalformed (octetOf (fieldNumber silica)) (octetOf (fieldNumber silica / 256)) = false := by
    rw [silicaMalformed, number16_octets (by omega), decide_eq_false_iff_not]
    omega
  have fired : statePayloadFirings (Payload.stateReport d capacity flow silica).octets =
      (if (dutyOfCode (octetOf d.code).toNat).isNone then [fireDetail 1 11] else []) ++
      (if silicaMalformed (octetOf (fieldNumber silica)) (octetOf (fieldNumber silica / 256)) then [fireDetail 1 12] else []) :=
    rfl
  rw [fired, duty, measured]
  rfl

/-- A STATE writes its four fields; in a WELL station the state notice, the recall test and the risen-to-ON notice follow (R43,
R46, R47). -/
theorem acceptState_eq {d : Duty} {capacity : Nat} {flow silica : Option Nat}
    (hp : (Payload.stateReport d capacity flow silica).inRange) (u : State) :
    acceptPayload .stateReport n (Payload.stateReport d capacity flow silica).octets u =
      let w := setRow n (carriedRow (.stateReport d capacity flow silica) (rowOf u n)) u
      let v := testRecall (stateNotice n (some d) w)
      if hasRole u .well then if risesToOn (rowDuty (rowOf u n)) (some d) then risenToOn v else v else w := by
  have hwell : wellPartOf _ = _ := payload_readsBack _ hp
  simp only [acceptPayload, acceptState, hwell, statePayloadFirings_nil hp, carriedRow]
  rfl

/-- What a payload in its ranges writes is read off its fields (R43 to R45). -/
theorem acceptPayload_rowPut (hp : p.inRange) (u : State) :
    RowPut n (carriedRow p (rowOf u n)) u (acceptPayload p.kind n p.octets u) := by
  cases p with
  | stateReport d capacity flow silica =>
    refine (congrArg State.pvw (acceptState_eq hp u)).trans ?_
    dsimp only
    repeat' split
    all_goals simp
  | trip | clear | restReply | demand | restAsk =>
    rw [acceptPayload_eq hp (by simp [Payload.kind])]
    simp [RowPut]

/-- The sender's row once the peer view has taken a new frame (R42 to R45). -/
def takenRow (role : Role) (q : Octet) (p : Payload) (r : PeerRow) : PeerRow := carriedRow p (freshRow role q r)

theorem numbered_rowPut (k : FrameKind) (hn : n < 32) (hr : (rowOf s n).role = none ∨ (rowOf s n).role = some role) :
    RowPut n (freshRow role q (rowOf s n)) s (acceptSeq n q (refreshRow n role k s)) := by
  have refreshed_put : RowPut n (refreshed (rowOf s n) role) s (refreshRow n role k s) := refreshRow_pvw ..
  refine refreshed_put.trans ?_
  rw [acceptSeq, refreshed_put.row hn, refreshed_eq hr]
  rfl

/-- Whatever its firings bring, a new frame moves its sender's row alone, and as its payload says (R42 to R45). -/
theorem viewTook_rowPut (hp : p.inRange) (hn : n < 32) (hr : (rowOf s n).role = none ∨ (rowOf s n).role = some role) :
    RowPut n (takenRow role q p (rowOf s n)) s (viewTook p.kind role n q p.octets s) := by
  have numbered := numbered_rowPut (q := q) p.kind hn hr
  have carried := acceptPayload_rowPut (n := n) hp (acceptSeq n q (refreshRow n role p.kind s))
  rw [numbered.row hn] at carried
  have closed : (viewTook p.kind role n q p.octets s).pvw =
      (acceptPayload p.kind n p.octets (acceptSeq n q (refreshRow n role p.kind s))).pvw := by simp [viewTook]
  exact closed.trans (numbered.trans carried)

/-- A state with one row put in and another event unit. -/
def withRowEvu (n : Nat) (r : PeerRow) (e : Evu) (s : State) : State := { setRow n r s with evu := e }

theorem setRow_withRowEvu (r r' : PeerRow) (e : Evu) (s : State) :
    setRow n r' (withRowEvu n r e s) = withRowEvu n r' e s := by
  simp only [withRowEvu, setRow, slotSet_slotSet]

theorem rowOf_withRowEvu (r : PeerRow) (e : Evu) (s : State) (hn : n < 32) : rowOf (withRowEvu n r e s) n = r :=
  RowPut.row (s := s) rfl hn

/-- With no channel bound to PEER_BACK, the number of a new frame stands in the row that its refresh left (R42). -/
theorem acceptSeq_refreshed (k : FrameKind) (q : Octet) (hn : n < 32)
    (hr : (rowOf s n).role = none ∨ (rowOf s n).role = some role)
    (hc : (rowOf s n).condition = .lost → takingChannel (fire 7 n k.code) s = none) :
    acceptSeq n q (refreshRow n role k s) = withRowEvu n (freshRow role q (rowOf s n)) (backEvu n k s) s := by
  have refreshes : refreshRow n role k s = withRowEvu n (refreshed (rowOf s n) role) (backEvu n k s) s :=
    refreshRow_eq role k hc
  rw [refreshes, acceptSeq, rowOf_withRowEvu _ _ _ hn, setRow_withRowEvu, refreshed_eq hr]
  rfl

/-- With no channel bound to PEER_BACK, a frame of another kind than STATE, and any frame outside the role WELL, moves its row,
PEER_BACK and the recall timer, before it is handed on (R42 to R47). -/
theorem acceptPayload_accepted (q : Octet) (hp : p.inRange) (hn : n < 32)
    (hr : (rowOf s n).role = none ∨ (rowOf s n).role = some role)
    (hc : (rowOf s n).condition = .lost → takingChannel (fire 7 n p.kind.code) s = none)
    (hk : p.kind ≠ .stateReport ∨ hasRole s .well = false) :
    acceptPayload p.kind n p.octets (acceptSeq n q (refreshRow n role p.kind s)) =
      testRecall (withRowEvu n (takenRow role q p (rowOf s n)) (backEvu n p.kind s) s) := by
  rw [acceptSeq_refreshed p.kind q hn hr hc]
  by_cases hstate : p.kind = .stateReport
  · have outside := hk.resolve_left (absurd hstate)
    rw [testRecall_outside (s := withRowEvu n (takenRow role q p (rowOf s n)) (backEvu n p.kind s) s) outside]
    cases p with
    | stateReport d capacity flow silica =>
      refine (acceptState_eq hp _).trans ((if_neg ?_).trans ?_)
      · simpa [withRowEvu, hasRole, roleOf] using outside
      · rw [setRow_withRowEvu, rowOf_withRowEvu _ _ _ hn]
        rfl
    | trip | clear | restReply | demand | restAsk => exact absurd hstate (by simp [Payload.kind])
  · rw [acceptPayload_eq hp hstate, setRow_withRowEvu, rowOf_withRowEvu _ _ _ hn]
    rfl

/-- PEER_BACK of the frame being taken is that of the state before the receive side has gone to HUNT. -/
theorem backEvu_rxHunt (k : FrameKind) (s : State) : backEvu n k (rxHunt s) = backEvu n k s := by
  have fired : (enqueue (fire 7 n k.code) (rxHunt s)).evu = (enqueue (fire 7 n k.code) s).evu := enqueue_evu_congr _ rfl rfl
  rw [backEvu, fired]
  rfl

/-- The station that has taken a frame into its view, with nothing else of it handed on (R26). -/
def seenState (v : Pvw) (e : Evu) (x : Timer) (s : State) : State :=
  { s with pvw := v, lif := huntingLif s, evu := e, dtu := { s.dtu with recallTimer := x } }

/-- Where `acceptPayload_accepted` holds and no notice is due, the peer view has moved the row, PEER_BACK and the recall timer. -/
theorem viewTook_seen (q : Octet) (hp : p.inRange) (hn : n < 32) (hnotice : s.frh.notice = none)
    (hr : (rowOf s n).role = none ∨ (rowOf s n).role = some role)
    (hc : (rowOf s n).condition = .lost → takingChannel (fire 7 n p.kind.code) s = none)
    (hk : p.kind ≠ .stateReport ∨ hasRole s .well = false) :
    ∃ timer, (hasRole s .well = false ∨ s.dtu.duty ≠ .resting → timer = s.dtu.recallTimer) ∧
      viewTook p.kind role n q p.octets (rxHunt s) =
        seenState (setRow n (takenRow role q p (rowOf s n)) s).pvw (backEvu n p.kind s) timer s := by
  obtain ⟨timer, stands, tested⟩ :=
    testRecall_timer (withRowEvu n (takenRow role q p (rowOf s n)) (backEvu n p.kind s) (rxHunt s))
  have accepted := acceptPayload_accepted (s := rxHunt s) q hp hn hr hc hk
  rw [backEvu_rxHunt] at accepted
  have closed (t : State) (ht : t.frh.notice = none) : closeCompleted p.kind n t = t := by
    rw [closeCompleted, if_neg (by simp [ht]), closeNotice_none 2 ht]
  exact ⟨timer, stands, (congrArg (closeCompleted p.kind n) (accepted.trans tested)).trans (closed _ hnotice)⟩

/-- A firing of the frame being taken, which no channel takes, reaches the queue (R23, R41, R166). -/
theorem offer_rxHunt {f : Firing} (h : takingChannel f s = none) :
    offer f (rxHunt s) = { s with lif := huntingLif s, evu := (enqueue f s).evu } :=
  offer_queued (s := s) (t := rxHunt s) h rfl rfl

/-- Settles O21: each check of FRH and of the peer view that a frame can fail. -/
theorem discardedAndRepeatedFrames : Obligations.DiscardedAndRepeatedFrames := by
  intro s n role p q own hn hp octets hdue hnotice complete hunting r
  have notice_hunt : (rxHunt s).frh.notice = none := hnotice
  refine ⟨fun h => ?_, ?_⟩
  · exact (exec_frameComplete_discarded hn hdue h).trans (by rw [closeNotice_none _ notice_hunt]; rfl)
  rintro rfl hown
  refine ⟨fun hk hc => ?_, fun known hk hr hne hc => ?_, fun hk hr hq hc => ?_⟩
  · refine (exec_frameComplete_wrongKind hn hown hdue hk).trans ?_
    rw [offer_rxHunt hc]
    exact congrArg _ (closeNotice_none 2 hnotice)
  · refine (exec_frameComplete_valid hn hown hdue hk).trans ?_
    rw [validFrame_wrongRole (s := rxHunt s) _ _ _ hr hne, offer_rxHunt hc]
    exact congrArg _ (closeNotice_none 2 hnotice)
  · have refreshes : refreshRow n role p.kind (rxHunt s) =
        withRowEvu n (refreshed r role) (backEvu n p.kind s) (rxHunt s) :=
      backEvu_rxHunt p.kind s ▸ refreshRow_eq role p.kind hc
    let t := testRecall (withRowEvu n (refreshed r role) (backEvu n p.kind s) (rxHunt s))
    have put : RowPut n (refreshed r role) s t := by
      simp only [t, RowPut, testRecall_keeps]
      rfl
    have tested : t = _ := testRecall_eq _
    refine ⟨t, ?_, ?_, ?_, ?_, fun m hm hne => put.other hm hne⟩
    · refine (exec_frameComplete_valid hn hown hdue hk).trans ?_
      rw [validFrame_duplicate (s := rxHunt s) _ _ hr hq, refreshes, closeNotice_none]
      simpa [withRowEvu] using hnotice
    · rw [tested]
      rfl
    · rw [tested]
      rfl
    · rw [put.row (by omega), refreshed_eq hr]

/-! ### A STATE (R43, R46, R135) -/

/-- The risen-to-ON notice leaves the setpoint (R137). -/
theorem risenToOn_setpoint (s : State) : (risenToOn s).dtu.setpoint = s.dtu.setpoint := by
  have ended : (endHoldOff s).dtu.setpoint = s.dtu.setpoint := by
    unfold endHoldOff
    dsimp only
    split
    · rename_i hd
      have refused : s.dtu.duty = .refused := hd
      exact (takeDuty_runs_on .on [] (setHoldOff .stopped s) (.inr (.inr (.inr ⟨rfl, by simp [refused]⟩)))).1
    · rfl
  unfold risenToOn
  split
  · exact ended
  · rfl

/-- A duty other than ASKING ends the sender's grant and no other (R135). -/
theorem stateNotice_grants (n : Nat) (d : Duty) (s : State) :
    (stateNotice n (some d) s).rng.grants =
      if d = .asking then s.rng.grants else s.rng.grants.filter fun g => g.asker != n := by
  by_cases hd : d = .asking <;> simp [stateNotice, hd, removeGrant]

/-- What a STATE leaves of the pump and the grant list of a WELL station, its notice closed (R46, R135, R137). -/
theorem viewTook_state {d : Duty} {capacity : Nat} {flow silica : Option Nat} (role : Role) (q : Octet)
    (hp : (Payload.stateReport d capacity flow silica).inRange) (s : State) :
    let t := viewTook .stateReport role n q (Payload.stateReport d capacity flow silica).octets s
    t.dtu.setpoint = s.dtu.setpoint ∧
      (hasRole s .well = true →
        t.rng.grants = if d = .asking then s.rng.grants else s.rng.grants.filter fun g => g.asker != n) := by
  let u := acceptSeq n q (refreshRow n role .stateReport s)
  have accepts := acceptState_eq (n := n) hp u
  have role_stands : hasRole u .well = hasRole s .well := by simp [u, hasRole, roleOf]
  have setpoint : u.dtu.setpoint = s.dtu.setpoint := by simp [u]
  have rng : u.rng = s.rng := by simp [u]
  intro t
  simp only [t, viewTook, closeCompleted_keeps]
  rw [accepts, role_stands, ← setpoint, ← rng]
  dsimp only
  refine ⟨?_, fun hw => ?_⟩
  · split
    · split <;> simp [risenToOn_setpoint]
    · simp
  · rw [if_pos hw]
    split <;> simp [stateNotice_grants]

/-- Settles O19: the row from what every new frame writes, the rest from what a STATE brings. -/
theorem stateFrameWritesRow : Obligations.StateFrameWritesRow := by
  intro s n d capacity flow silica q octets hdue hn hown hp hr hq
  let p := Payload.stateReport d capacity flow silica
  let t := viewTook p.kind .well n q p.octets (rxHunt s)
  have took : exec (.frameComplete octets false) s = .next t := by
    refine (exec_frameComplete_valid (p := p) (role := .well) hn hown hdue (.inl ⟨rfl, .inl rfl⟩)).trans ?_
    rw [validFrame_accepted (s := rxHunt s) _ _ hr hq]
    exact congrArg _ (ite_self _)
  have put : RowPut n (takenRow .well q p (rowOf s n)) (rxHunt s) t := viewTook_rowPut hp (by omega) hr
  obtain ⟨setpoint, grants⟩ := viewTook_state (n := n) .well q hp (rxHunt s)
  obtain ⟨hsettings, hsrg, hxcp, hline, hseq⟩ : t.settings = s.settings ∧ t.srg = s.srg ∧ t.xcp = s.xcp ∧
      t.frh.lineState = s.frh.lineState ∧ t.frh.nextSeq = s.frh.nextSeq := by simp [t, viewTook]
  refine ⟨t, took, put.row (by omega), fun m hm hne => put.other hm hne, hsettings, hsrg, hxcp, hline, hseq, setpoint,
    fun hw hnotice hl => ?_, grants⟩
  have quiet : backEvu n p.kind s = s.evu := if_neg hl
  obtain ⟨timer, stands, seen⟩ := viewTook_seen (p := p) q hp (by omega) hnotice hr (fun h => absurd h hl) (.inr hw)
  rw [stands (.inl hw), quiet] at seen
  have taken : t = _ := seen
  rw [taken]
  rfl

end Sys2Proof.Machine
end

section
/-! SUPPORT. FRAME_COMPLETE of a peer's frame, part 2: what a WELL station hands on (R26, R90 to R96, R132). -/

namespace Sys2Proof.Machine

variable {s : State} {n : Nat} {role : Role} {p : Payload} {q : Octet}

/-! ### The trip set (R90 to R96) -/

/-- With a station in the trip set nothing is recalled (R104). -/
theorem recallConditions_inTripSet (h : inTripSet s n = true) : recallConditions s = false := by
  rw [← Bool.not_eq_true, recallConditions_iff]
  rintro ⟨-, hempty, -⟩
  simp [hempty n (slotGet_inRange h)] at h

/-- With a station in the trip set, the recall test of a WELL station stops the timer of RESTING (R104). -/
theorem testRecall_inTripSet (hwell : hasRole s .well = true) (h : inTripSet s n = true) :
    testRecall s = setRecallTimer (if s.dtu.duty = .resting then .stopped else s.dtu.recallTimer) s := by
  rw [testRecall_fails (recallConditions_inTripSet h)]
  simp only [hwell, true_and]

/-- An announced trip takes the trip step: it comes into force, and the pump runs (R92). -/
def stepsDown (s : State) : Bool := s.dtu.duty.runs && !tripInForce s

/-- The target after an announced trip (R92). -/
def trippedTarget (s : State) : Nat := if stepsDown s then min s.dtu.target s.settings.tripFlow else s.dtu.target

/-- The setpoint after an announced trip (R88, R92). -/
def trippedSetpoint (s : State) : Nat :=
  if stepsDown s then movedSetpoint s.dtu.setpoint (trippedTarget s) s.settings.rampUp s.settings.tripRamp
  else s.dtu.setpoint

/-- The station after a turbine has announced a trip, with its event unit and its recall timer (R92, R94, R95). -/
def tripTaken (n cause : Nat) (e : Evu) (timer : Timer) (s : State) : State :=
  { s with
    evu := e
    dtu := { s.dtu with
      tripSet := slotSet s.dtu.tripSet n (some cause), target := trippedTarget s, setpoint := trippedSetpoint s
      setpt := if stepsDown s then dueWord s (trippedSetpoint s) s.dtu.duty s.dtu.runReq else s.dtu.setpt
      recallTimer := timer } }

theorem inTripSet_tripTaken (cause : Nat) (e : Evu) (timer : Timer) (s : State) (hn : n < 32) :
    inTripSet (tripTaken n cause e timer s) n = true := by
  simp [tripTaken, inTripSet, slotGet_slotSet, hn]

theorem inTripSet_of_slot {c : Nat} (h : slotGet s.dtu.tripSet n none = some c) : inTripSet s n = true := by
  simp [inTripSet, h]

/-- Without a trip step the pump stays as it is. -/
theorem tripTaken_still {cause : Nat} (e : Evu) (timer : Timer) (h : stepsDown s = false) :
    tripTaken n cause e timer s =
      { s with evu := e, dtu := { s.dtu with tripSet := slotSet s.dtu.tripSet n (some cause), recallTimer := timer } } := by
  simp [tripTaken, trippedTarget, trippedSetpoint, h]

/-- A station that enters the trip set brings the trip step where no trip was in force (R92). -/
theorem tripTaken_step {cause : Nat} (e : Evu) (hwell : hasRole s .well = true) (hl : s.frh.lineState ≠ .offline) (hn : n < 32) :
    let entered : State := { setTripEntry n (some cause) s with evu := e }
    (if !tripInForce s && tripInForce entered then tripStep entered else entered) =
      tripTaken n cause e s.dtu.recallTimer s := by
  intro entered
  have inForce : tripInForce entered = true := tripInForce_of_slot (n := n) (by simp [entered, slotGet_slotSet, hn])
  rw [inForce, Bool.and_true]
  cases hforce : tripInForce s with
  | true => exact (tripTaken_still (s := s) e _ (by simp [stepsDown, hforce])).symm
  | false =>
    rw [Bool.not_false, if_pos rfl]
    cases hruns : s.dtu.duty.runs with
    | true =>
      have steps : stepsDown s = true := by simp [stepsDown, hruns, hforce]
      refine (tripStep_running (s := entered) hwell hl hruns inForce).trans ?_
      simp only [tripTaken, trippedTarget, trippedSetpoint, steps, if_true]
      rfl
    | false =>
      have stands : tripStep entered = entered := if_neg (by simpa [entered] using hruns)
      rw [stands]
      exact (tripTaken_still (s := s) e _ (by simp [stepsDown, hruns])).symm

/-- A new trip in a WELL station, no channel bound to TRIP_IN: the set, TRIP_IN and the trip step (R92, R94, R95). -/
theorem announceTrip_new {cause : Nat} (hwell : hasRole s .well = true) (hl : s.frh.lineState ≠ .offline) (hn : n < 32)
    (hslot : slotGet s.dtu.tripSet n none = none) (hc : takingChannel (fire 25 n cause) s = none) :
    announceTrip n cause s = tripTaken n cause (enqueue (fire 25 n cause) s).evu
      (if s.dtu.duty = .resting then .stopped else s.dtu.recallTimer) s := by
  have offered : offer (fire 25 n cause) (setTripEntry n (some cause) s) =
      { setTripEntry n (some cause) s with evu := (enqueue (fire 25 n cause) s).evu } := offer_queued hc rfl rfl
  simp only [announceTrip, hslot, offered, afterTripChange]
  rw [tripTaken_step _ hwell hl hn]
  exact testRecall_inTripSet (s := tripTaken n cause _ _ s) hwell (inTripSet_tripTaken cause _ _ s hn)

/-- A turbine of the trip set that moves its cause, no channel bound to TRIP_IN (R94, R95). -/
theorem announceTrip_moved {cause old : Nat} (hslot : slotGet s.dtu.tripSet n none = some old) (hne : old ≠ cause)
    (hc : takingChannel (fire 25 n cause) s = none) :
    announceTrip n cause s = tripTaken n cause (enqueue (fire 25 n cause) s).evu s.dtu.recallTimer s := by
  have inForce : tripInForce s = true := tripInForce_of_slot (inTripSet_of_slot hslot)
  have offered : offer (fire 25 n cause) (setTripEntry n (some cause) s) =
      { setTripEntry n (some cause) s with evu := (enqueue (fire 25 n cause) s).evu } := offer_queued hc rfl rfl
  simp only [announceTrip, hslot, if_neg hne, offered]
  exact (tripTaken_still (s := s) _ _ (by simp [stepsDown, inForce])).symm

/-- A turbine of the trip set that repeats its cause changes nothing (R94, R95). -/
theorem announceTrip_repeated {cause : Nat} (hslot : slotGet s.dtu.tripSet n none = some cause) : announceTrip n cause s = s := by
  simp only [announceTrip, hslot, if_true, setTripEntry, slotSet_slotGet hslot]

/-- A station that leaves the trip set, no channel bound to TRIP_OUT (R96). -/
theorem removeTrip_in {detail : Nat} (hin : inTripSet s n = true) (hc : takingChannel (fire 27 n detail) s = none) :
    ∃ timer, (s.dtu.duty ≠ .resting → timer = s.dtu.recallTimer) ∧
      removeTrip n detail s = { s with
        evu := (enqueue (fire 27 n detail) s).evu
        dtu := { s.dtu with tripSet := slotSet s.dtu.tripSet n none, recallTimer := timer } } := by
  have offered : offer (fire 27 n detail) (setTripEntry n none s) =
      { setTripEntry n none s with evu := (enqueue (fire 27 n detail) s).evu } := offer_queued hc rfl rfl
  obtain ⟨timer, stands, tested⟩ := testRecall_timer (offer (fire 27 n detail) (setTripEntry n none s))
  rw [offered] at stands tested
  refine ⟨timer, fun hd => stands (.inr hd), ?_⟩
  rw [removeTrip, if_pos hin, offered, tested]
  rfl

theorem removeTrip_out (detail : Nat) (h : inTripSet s n = false) : removeTrip n detail s = s := if_neg (by simp [h])

/-! ### TRIP (R28, R93, R94) -/

/-- The closing report of an accepted TRIP ends its own notice (R28). -/
theorem closeCompleted_trip (h : s.frh.notice = none ∨ s.frh.notice = some n) :
    closeCompleted .trip n s = setNotice none s := by
  obtain h | h := h
  · rw [closeCompleted, if_neg (by simp [h]), closeNotice_none 2 h, setNotice, ← h]
  · exact if_pos ⟨rfl, h⟩

/-- A TRIP that has entered its sender ends the pending trip of its notice, and no more (R93). -/
theorem completeTrip_entered (hwell : hasRole s .well = true) (hin : inTripSet s n = true)
    (hstopped : s.dtu.duty = .resting → s.dtu.recallTimer = .stopped) :
    completeTrip n s = setPendingTrip (if s.dtu.pendingTrip = some n then none else s.dtu.pendingTrip) s := by
  by_cases hp : s.dtu.pendingTrip = some n
  · have timer : (if s.dtu.duty = .resting then .stopped else s.dtu.recallTimer) = s.dtu.recallTimer := by
      split
      · exact (hstopped ‹_›).symm
      · rfl
    rw [completeTrip, if_pos hp, if_pos hp, testRecall_inTripSet (s := setPendingTrip none s) hwell hin]
    exact congrArg (setRecallTimer · (setPendingTrip none s)) timer
  · rw [completeTrip, if_neg hp, if_neg hp]
    rfl

/-- What the view of a WELL station takes of a TRIP from a row that was not LOST, its notice closed (R28, R42). -/
theorem viewTook_trip (cause : TripCause) (q : Octet) (hn : n < 32) (hnotice : s.frh.notice = none ∨ s.frh.notice = some n)
    (hr : (rowOf s n).role = none ∨ (rowOf s n).role = some .turbine) (hlost : (rowOf s n).condition ≠ .lost) :
    ∃ timer, (s.dtu.duty ≠ .resting → timer = s.dtu.recallTimer) ∧
      viewTook .trip .turbine n q (Payload.trip cause).octets (rxHunt s) =
        setNotice none (seenState (setRow n (freshRow .turbine q (rowOf s n)) s).pvw s.evu timer s) := by
  obtain ⟨timer, stands, tested⟩ := testRecall_timer (withRowEvu n (freshRow .turbine q (rowOf s n)) s.evu (rxHunt s))
  have quiet : backEvu n .trip (rxHunt s) = s.evu := if_neg hlost
  have accepted := acceptPayload_accepted (s := rxHunt s) (p := .trip cause) q trivial hn hr (fun h => absurd h hlost)
    (.inl (by simp [Payload.kind]))
  simp only [Payload.kind, quiet] at accepted
  refine ⟨timer, fun hd => stands (.inr hd), ?_⟩
  rw [viewTook, closeCompleted_trip]
  · exact congrArg (setNotice none) (accepted.trans tested)
  · simpa using hnotice

/-- A new TRIP in a WELL station, as the view hands it on: its sender enters the trip set, and the pending trip of its notice is
over (R92, R93, R94). -/
theorem handOn_trip (cause : TripCause) (q : Octet) (hwell : hasRole s .well = true) (hl : s.frh.lineState ≠ .offline)
    (hn : n < 32) (hout : inTripSet s n = false) (hc : takingChannel (fire 25 n cause.code) s = none) :
    handOn .trip .turbine n q (Payload.trip cause).octets s =
      setPendingTrip (if s.dtu.pendingTrip = some n then none else s.dtu.pendingTrip)
        (tripTaken n cause.code (enqueue (fire 25 n cause.code) s).evu
          (if s.dtu.duty = .resting then .stopped else s.dtu.recallTimer) s) := by
  have named : (octetOf cause.code).toNat = cause.code := by cases cause <;> rfl
  have handed : handOn .trip .turbine n q (Payload.trip cause).octets s =
      completeTrip n (announceTrip n (octetOf cause.code).toNat s) := rfl
  rw [handed, named, announceTrip_new hwell hl hn (by simpa [inTripSet] using hout) hc]
  exact completeTrip_entered (s := tripTaken n _ _ _ s) hwell (inTripSet_tripTaken _ _ _ s hn) fun hd => if_pos hd

/-- Settles O38: the view takes the frame, and the trip it announces enters the set. -/
theorem tripFrameEntersSet : Obligations.TripFrameEntersSet := by
  intro s n cause q octets hdue hwell hn hown hnotice hr hlost hq hout hc steps target setpoint
  have hn' : n < 32 := by omega
  obtain ⟨timer, stands, took⟩ := viewTook_trip cause q hn' hnotice hr hlost
  let u : State := setNotice none (seenState (setRow n (freshRow .turbine q (rowOf s n)) s).pvw s.evu timer s)
  have fired : (enqueue (fire 25 n cause.code) u).evu = (enqueue (fire 25 n cause.code) s).evu := enqueue_evu_congr _ rfl rfl
  have stopped : (if u.dtu.duty = .resting then .stopped else u.dtu.recallTimer) =
      if s.dtu.duty = .resting then .stopped else s.dtu.recallTimer := by
    by_cases hd : s.dtu.duty = .resting
    · exact (if_pos hd).trans (if_pos hd).symm
    · rw [if_neg (show ¬ u.dtu.duty = .resting from hd), if_neg hd]
      exact stands hd
  have handed := handOn_trip (s := u) cause q hwell (online_of_works hdue.1) hn' hout hc
  rw [fired, stopped] at handed
  have put : RowPut n (freshRow .turbine q (rowOf s n)) s (handOn .trip .turbine n q (Payload.trip cause).octets u) := by
    simp only [RowPut, handOn_keeps]
    rfl
  refine ⟨handOn .trip .turbine n q (Payload.trip cause).octets u, ?_, ?_, put.row hn', fun m hm hne => put.other hm hne⟩
  · refine (exec_frameComplete_valid (p := .trip cause) (role := .turbine) hn hown hdue ?_).trans ?_
    · simp [roleSends, Payload.kind]
    · rw [validFrame_accepted (s := rxHunt s) _ _ hr hq]
      exact congrArg Host.Outcome.next ((if_pos hwell).trans (congrArg _ took))
  · rw [handed]
    rfl

/-! ### Every kind -/

/-- What a channel takes hangs on the channels alone (R175). -/
theorem takingChannel_congr (f : Firing) {s t : State} (h : t.evu.channels = s.evu.channels) :
    takingChannel f t = takingChannel f s := by
  simp only [takingChannel, h]

/-- PEER_BACK reaches the queue and leaves the channels (R166). -/
theorem backEvu_channels (n : Nat) (k : FrameKind) (s : State) : (backEvu n k s).channels = s.evu.channels := by
  unfold backEvu
  split <;> simp

/-- A new frame: the row it writes and, with no channel bound to PEER_BACK, what the view took of it and handed on (R26, R42 to
R45). -/
theorem exec_frameComplete_accepted (hn : n ≤ 31) (hown : n ≠ ownNumber s) (hp : p.inRange)
    (hdue : frameDue s (frameOctets n role.code p q) false) (hnotice : s.frh.notice = none) (hk : roleSends role p.kind)
    (hr : (rowOf s n).role = none ∨ (rowOf s n).role = some role) (hq : (rowOf s n).lastSeq ≠ some q) :
    ∃ t, exec (.frameComplete (frameOctets n role.code p q) false) s = .next t ∧
      RowPut n (takenRow role q p (rowOf s n)) s t ∧
      (((rowOf s n).condition = .lost → takingChannel (fire 7 n p.kind.code) s = none) →
        (hasRole s .well = false → t = seenState t.pvw (backEvu n p.kind s) s.dtu.recallTimer s) ∧
        (hasRole s .well = true → p.kind ≠ .stateReport →
          ∃ timer, (s.dtu.duty ≠ .resting → timer = s.dtu.recallTimer) ∧
            t = handOn p.kind role n q p.octets (seenState t.pvw (backEvu n p.kind s) timer s))) := by
  have hn' : n < 32 := by omega
  let took := viewTook p.kind role n q p.octets (rxHunt s)
  let t := if hasRole s .well then handOn p.kind role n q p.octets took else took
  have put : RowPut n (takenRow role q p (rowOf s n)) s t := by
    have viewed : RowPut n (takenRow role q p (rowOf s n)) (rxHunt s) took := viewTook_rowPut hp hn' hr
    have stands : t.pvw = took.pvw := by
      simp only [t]
      split <;> simp only [handOn_keeps]
    exact stands.trans viewed
  refine ⟨t, ?_, put, fun hc => ⟨fun hw => ?_, fun hw hstate => ?_⟩⟩
  · rw [exec_frameComplete_valid hn hown hdue hk, validFrame_accepted (s := rxHunt s) _ _ hr hq]
    rfl
  · obtain ⟨timer, stands, seen⟩ := viewTook_seen (p := p) q hp hn' hnotice hr hc (.inr hw)
    rw [put, ← stands (.inl hw)]
    exact (if_neg (by simp [hw])).trans seen
  · obtain ⟨timer, stands, seen⟩ := viewTook_seen (p := p) q hp hn' hnotice hr hc (.inl hstate)
    refine ⟨timer, fun hd => stands (.inr hd), ?_⟩
    rw [put, ← seen]
    exact if_pos hw

/-- A DEMAND of a TURBINE sender is handed to the duty unit with its cause (R26, R95, R96). -/
theorem handOn_demand {d cause : Nat} (hp : (Payload.demand d cause).inRange) (role : Role) (q : Octet) (s : State) :
    handOn .demand role n q (Payload.demand d cause).octets s =
      if role = .turbine then if cause = 0 then removeTrip n 2 s else announceTrip n cause s else s := by
  obtain ⟨-, hcause⟩ := payload_readsBack _ hp
  rw [handOn, handDemand, hcause]

/-- A REST-REPLY is handed to the negotiator with its three fields (R26, R125). -/
theorem handOn_reply {a : Nat} {k : Octet} {v : Verdict} (hp : (Payload.restReply a k v).inRange) (role : Role) (q : Octet)
    (s : State) : handOn .restReply role n q (Payload.restReply a k v).octets s = takeReply n a k (some v) s := by
  obtain ⟨haddressee, hseq, hverdict⟩ := payload_readsBack _ hp
  rw [handOn, haddressee, hseq, hverdict]

/-- Settles O22: the row by `exec_frameComplete_accepted`, and each kind by what it is handed on to. -/
theorem acceptedFrameIsHandedOn : Obligations.AcceptedFrameIsHandedOn := by
  intro s n role p q hn hown hp octets hdue hnotice hk r hr hq fresh back
  obtain ⟨t, completes, put, took⟩ := exec_frameComplete_accepted hn hown hp hdue hnotice hk hr hq
  have hn' : n < 32 := by omega
  refine ⟨t, completes, (put.row hn').trans (by cases p <;> rfl), fun m hm hne => put.other hm hne, fun hc => ?_⟩
  intro seen after left
  obtain ⟨outside, handed⟩ := took hc
  refine ⟨outside, fun hw => ?_⟩
  have hl : s.frh.lineState ≠ .offline := online_of_works hdue.1
  have unbound {f : Firing} (timer : Timer) (h : takingChannel f s = none) : takingChannel f (seen timer) = none :=
    (takingChannel_congr f (backEvu_channels n p.kind s)).trans h
  have fired (f : Firing) (timer : Timer) : (enqueue f (seen timer)).evu = (enqueue f { s with evu := back }).evu :=
    enqueue_evu_congr f rfl rfl
  have leaves (detail : Nat) (timer : Timer) (hstands : s.dtu.duty ≠ .resting → timer = s.dtu.recallTimer)
      (hin : inTripSet s n = true) (hfree : takingChannel (fire 27 n detail) s = none)
      (e : t = removeTrip n detail (seen timer)) : after (left detail) := by
    obtain ⟨timer', stands', removed⟩ := removeTrip_in (s := seen timer) hin (unbound timer hfree)
    rw [fired] at removed
    exact ⟨timer', fun hd => (stands' hd).trans (hstands hd), e.trans removed⟩
  refine ⟨?_, ?_, ?_, ?_, ?_⟩
  · rintro a k v rfl
    obtain ⟨timer, stands, e⟩ := handed hw (by simp [Payload.kind])
    exact ⟨timer, stands, e.trans (handOn_reply hp role q _)⟩
  · rintro c rfl
    exact handed hw (by simp [Payload.kind])
  · rintro rfl hin hfree
    obtain ⟨timer, stands, e⟩ := handed hw (by simp [Payload.kind])
    exact leaves 1 timer stands hin hfree e
  · rintro rfl hout
    obtain ⟨timer, stands, e⟩ := handed hw (by simp [Payload.kind])
    exact ⟨timer, stands, e.trans (removeTrip_out (s := seen timer) 1 hout)⟩
  · rintro d cause rfl
    obtain ⟨timer, stands, e⟩ := handed hw (by simp [Payload.kind])
    replace e := e.trans (handOn_demand hp role q _)
    refine ⟨fun h h' => ⟨timer, stands, e.trans ?_⟩, ?_, ?_⟩
    · by_cases hturbine : role = .turbine
      · subst hturbine
        by_cases hcause : cause = 0
        · subst hcause
          have hout : inTripSet s n = false := by simpa using h'
          exact (if_pos rfl).trans ((if_pos rfl).trans (removeTrip_out (s := seen timer) 2 hout))
        · have hslot : slotGet s.dtu.tripSet n none = some cause := by simpa [hcause] using h
          exact (if_pos rfl).trans ((if_neg hcause).trans (announceTrip_repeated (s := seen timer) hslot))
      · exact if_neg hturbine
    · rintro rfl rfl hin hfree
      exact leaves 2 timer stands hin hfree e
    · rintro rfl hcause hslot hfree steps target setpoint
      replace e := e.trans ((if_pos rfl).trans (if_neg hcause))
      cases hold : slotGet s.dtu.tripSet n none with
      | none =>
        have entered := announceTrip_new (s := seen timer) hw hl hn' hold (unbound timer hfree)
        rw [fired] at entered
        exact ⟨_, fun hd => (if_neg hd).trans (stands hd), e.trans entered⟩
      | some old =>
        have moved := announceTrip_moved (s := seen timer) hold (by simpa [hold] using hslot) (unbound timer hfree)
        rw [fired] at moved
        exact ⟨timer, stands, e.trans moved⟩

end Sys2Proof.Machine
end

section
/-! SUPPORT. REFRESH_TICK (R38, R39, R48, R49, R167). -/

namespace Sys2Proof.Machine

variable {s t u : State}

/-! ### The pump through a refresh tick -/

/-- The setpoint, RUN_REQ, the duty timers and SETPT stand. -/
structure PumpStands (s t : State) : Prop where
  setpoint : t.dtu.setpoint = s.dtu.setpoint
  runReq : t.dtu.runReq = s.dtu.runReq
  startTimer : t.dtu.startTimer = s.dtu.startTimer
  warmTimer : t.dtu.warmTimer = s.dtu.warmTimer
  stopTimer : t.dtu.stopTimer = s.dtu.stopTimer
  setpt : t.dtu.setpt = s.dtu.setpt

theorem PumpStands.refl (s : State) : PumpStands s s := ⟨rfl, rfl, rfl, rfl, rfl, rfl⟩

theorem PumpStands.trans (h : PumpStands s t) (k : PumpStands t u) : PumpStands s u :=
  ⟨k.setpoint.trans h.setpoint, k.runReq.trans h.runReq, k.startTimer.trans h.startTimer, k.warmTimer.trans h.warmTimer,
    k.stopTimer.trans h.stopTimer, k.setpt.trans h.setpt⟩

theorem PumpStands.ite {c : Prop} [Decidable c] (ht : PumpStands s t) (hu : PumpStands s u) :
    PumpStands s (if c then t else u) := by
  split
  · exact ht
  · exact hu

theorem offer_pump (f : Firing) (s : State) : PumpStands s (offer f s) := by constructor <;> simp

theorem offerAll_pump (fs : List Firing) (s : State) : PumpStands s (offerAll fs s) := by constructor <;> simp

theorem testRecall_pump (s : State) : PumpStands s (testRecall s) := by constructor <;> simp

theorem setAsk_pump (a : AskRecord) (s : State) : PumpStands s (setAsk a s) := by constructor <;> rfl

theorem setRow_pump (n : Nat) (r : PeerRow) (s : State) : PumpStands s (setRow n r s) := by constructor <;> rfl

theorem removeGrant_pump (n : Nat) (s : State) : PumpStands s (removeGrant n s) := by constructor <;> simp

/-- The outcome of an ask leaves the pump as it runs (R110, R111). -/
theorem takeDuty_pump {new : Duty} (cause : List Firing) (s : State) (h : new = .refused ∨ new = .stopping) :
    PumpStands s (takeDuty new cause s) := by
  have ends : new = .asking ∨ new = .refused ∨ new = .stopping ∨ (new = .on ∧ s.dtu.duty ≠ .starting) := by
    obtain h | h := h <;> simp [h]
  obtain ⟨h₁, h₂, h₃, h₄, h₅, h₆⟩ := takeDuty_runs_on new cause s ends
  exact ⟨h₁, h₂, h₃, h₄, h₅, h₆⟩

theorem reportRefusal_pump (s : State) : PumpStands s (reportRefusal s) := .ite (takeDuty_pump _ s (.inl rfl)) (.refl s)

theorem reportAgreement_pump (s : State) : PumpStands s (reportAgreement s) := .ite (takeDuty_pump _ s (.inr rfl)) (.refl s)

theorem refuseAsk_pump (n : Option Nat) (d : Nat) (s : State) : PumpStands s (refuseAsk n d s) :=
  ((setAsk_pump .idle s).trans (offer_pump _ _)).trans (reportRefusal_pump _)

theorem agreeAsk_pump (n : Nat) (s : State) : PumpStands s (agreeAsk n s) :=
  ((setAsk_pump .idle s).trans (offer_pump _ _)).trans (reportAgreement_pump _)

theorem testRoll_pump (s : State) : PumpStands s (testRoll s) := by
  unfold testRoll
  split
  · split
    · exact refuseAsk_pump _ _ s
    · exact .ite (agreeAsk_pump _ s) (.refl s)
  · exact .refl s

theorem decideRoll_pump (s : State) : PumpStands s (decideRoll s) := by
  unfold decideRoll
  split
  · exact .ite (.ite (agreeAsk_pump 0 s) (refuseAsk_pump none 5 s)) (testRoll_pump s)
  · exact .refl s

theorem strikeOff_pump (n : Nat) (s : State) : PumpStands s (strikeOff n s) := by
  unfold strikeOff
  split
  · exact .ite ((setAsk_pump _ s).trans (decideRoll_pump _)) (.refl s)
  · exact .refl s

theorem conditionMoved_pump (n : Nat) (c : Condition) (s : State) : PumpStands s (conditionMoved n c s) := by
  have granted : PumpStands s (if c = .lost then removeGrant n s else s) := .ite (removeGrant_pump n s) (.refl s)
  exact .ite ((granted.trans (strikeOff_pump n _)).trans (testRecall_pump _)) (.refl s)

theorem ageRow_pump (n : Nat) (s : State) : PumpStands s (ageRow s n) := by
  have put (r : PeerRow) : PumpStands s (setRow n r s) := setRow_pump n r s
  unfold ageRow
  dsimp only
  split
  · exact .ite (((put _).trans (offer_pump _ _)).trans (conditionMoved_pump n _ _)) (put _)
  · exact .ite (((put _).trans (offerAll_pump _ _)).trans (conditionMoved_pump n _ _)) (put _)
  · exact .refl s

theorem ageView_pump (s : State) : PumpStands s (ageView s) := by
  unfold ageView
  generalize List.range 32 = rows
  induction rows generalizing s with
  | nil => exact .refl s
  | cons n rows ih => exact (ageRow_pump n s).trans (ih _)

/-! ### The rows (R48, R49) -/

/-- A row is aged, and no other moves. -/
theorem rowOf_ageRow (n : Nat) (s : State) {m : Nat} (hm : m < 32) :
    rowOf (ageRow s n) m = if n = m then agedRow s.settings (rowOf s m) else rowOf s m := by
  obtain ⟨v, aged, hrows, -⟩ := ageRow_outcome n s
  rw [rowOf_congr hrows, aged.rows m hm]

theorem rowOf_ageRows (s : State) (k : Nat) {m : Nat} (hm : m < 32) :
    rowOf ((List.range k).foldl ageRow s) m = if m < k then agedRow s.settings (rowOf s m) else rowOf s m := by
  have settings (k : Nat) : ((List.range k).foldl ageRow s).settings = s.settings := by
    induction k with
    | zero => rfl
    | succ k ih => simp [List.range_succ, ih]
  induction k with
  | zero => simp
  | succ k ih =>
    rw [List.range_succ, List.foldl_append, List.foldl_cons, List.foldl_nil, rowOf_ageRow _ _ hm, ih, settings]
    rcases lt_trichotomy m k with hlt | rfl | hgt
    · simp [hlt, hlt.ne', Nat.lt_succ_of_lt hlt]
    · simp
    · simp [hgt.ne, hgt.le, show ¬ m < k + 1 by omega]

/-! ### The periodic entry (R38, R39) -/

/-- The demand and the cause that a TURBINE station publishes (R39, R151). -/
theorem presentDemand_turbine (h : hasRole s .turbine = true) :
    presentDemand s = if s.srg.trip = .normal then (s.srg.demand, 0) else (0, tripCauseCode s) := by
  have role : roleOf s = some .turbine := by simpa [hasRole] using h
  cases htrip : s.srg.trip <;> simp [presentDemand, role, htrip, tripCauseCode]

/-- The demand that an EXCHANGE station publishes (R39, R163). -/
theorem presentDemand_exchange (h : hasRole s .exchange = true) :
    presentDemand s = (if s.xcp.isolated then 0 else s.xcp.demand, 0) := by
  have role : roleOf s = some .exchange := by simpa [hasRole] using h
  simp [presentDemand, role]

/-- Settles O23: the aged view, the count, and the entry of the role. -/
theorem refreshTickAgesRows : Obligations.RefreshTickAgesRows := by
  intro s hw
  let aged := advanceRefreshCount (ageView s)
  have pump := ageView_pump s
  have role : roleOf aged = roleOf s := by simp [aged, roleOf]
  have keeps : keepsEntries aged = keepsEntries s := by simp [aged, keepsEntries]
  refine ⟨periodicEntry aged, ?_, fun n hn => ?_, ?_, ?_, fun hk hwell => ?_, fun hk hr => ?_, presentDemand_turbine,
    fun _ htrip => ?_, presentDemand_exchange⟩
  · simp only [exec, execRefreshTick, hw, if_true, aged]
  · rw [rowOf_congr (t := ageView s) (by simp [aged])]
    exact (rowOf_ageRows s 32 hn).trans (if_pos hn)
  · simp [aged, advanceRefreshCount]
  · ext1
    case lif => ext1 <;> simp [aged]
    case msu => ext1 <;> simp [aged]
    case frh =>
      ext1
      case outbox => ext1 <;> simp [aged]
      all_goals simp [aged]
    case dtu =>
      ext1 <;> simp [aged, pump.setpoint, pump.runReq, pump.startTimer, pump.warmTimer, pump.stopTimer, pump.setpt]
    all_goals simp [aged]
  · have entry : periodicEntry aged = enterStateFrame aged := by
      have role' : roleOf aged = some .well := role.trans (by simpa [hasRole] using hwell)
      simp [periodicEntry, role']
    obtain ⟨entered, -⟩ := enterStateFrame_keeps_entry aged (keeps.trans hk)
    rw [entry]
    refine ⟨_, entered, ?_, rfl⟩
    simp [replacing, statePayload, cOwn, usableValue, quantityOf]
  · have entry : periodicEntry aged = publishDemand aged := by
      obtain hr | hr := hr <;> simp [periodicEntry, role.trans hr]
    have present : presentDemand aged = presentDemand s := by
      obtain hr | hr := hr <;> simp [presentDemand, role.trans hr, hr, tripCauseCode, aged]
    obtain ⟨entered, -⟩ :=
      enterDemandFrame_keeps_entry (presentDemand aged).1 (presentDemand aged).2 aged (keeps.trans hk)
    rw [entry, publishDemand, entered, present]
    exact ⟨_, rfl, rfl, rfl⟩
  · cases h : s.srg.trip with
    | normal => exact absurd h htrip
    | tripped c => cases c <;> simp [tripCauseCode, h, TripCause.code]

end Sys2Proof.Machine
end

section
/-! SUPPORT. SHARE_TICK of a TURBINE station (R39, R141 to R147, R150). -/

namespace Sys2Proof.Machine

variable {s u : State} {pressure : Quantity}

/-! ### Quantities and the DEMAND (R39, R66) -/

/-- A read of the quantity table after a computed write (R66). -/
theorem quantityOf_writeQuantity (q : Nat) (v : Validity) (x : Int) (s : State) {k : Nat} (hk : k < 11) :
    quantityOf (writeQuantity q v x s) k =
      if q = k then { validity := v, value := x, heldCount := 0 } else quantityOf s k :=
  quantityOf_setQuantity _ _ _ _ hk

/-- A read of the quantity table after an output is held (R66). -/
theorem quantityOf_holdQuantity (q : Nat) (s : State) {k : Nat} (hk : k < 11) :
    quantityOf (holdQuantity q s) k =
      if q = k then { validity := .held, value := (quantityOf s q).value, heldCount := 0 } else quantityOf s k :=
  quantityOf_setQuantity _ _ _ _ hk

/-- A DEMAND entry moves its slot, the last published demand and what the transmit side waits for (R31, R34, R39). -/
theorem publishDemand_frame (s : State) :
    publishDemand s = { s with
      lif := { s.lif with tx := (publishDemand s).lif.tx }
      frh := { s.frh with
        outbox := { s.frh.outbox with demand := (publishDemand s).frh.outbox.demand }
        lastDemand := (publishDemand s).frh.lastDemand } } := by
  ext1
  case lif => ext1 <;> simp
  case frh =>
    ext1
    case outbox => ext1 <;> simp
    all_goals simp
  all_goals simp

/-- The step test passes where no demand was published, and where the demand has moved by the step (R39). -/
theorem publishDue_iff (now : Nat) (last : Option Nat) (step : Nat) :
    publishDue now last step = true ↔ ∀ d, last = some d → step ≤ distance now d := by
  cases last <;> simp [publishDue]

/-! ### The regulator (R141 to R146) -/

/-- SHARE_TICK of a working TURBINE station. -/
theorem exec_shareTick_turbine (hw : works s = true) (hr : hasRole s .turbine = true) :
    exec .shareTick s = .next (turbineShare s) := by
  have role : roleOf s = some .turbine := by simpa [hasRole] using hr
  simp only [exec, execShareTick, hw, if_true, shareTick, role]

/-- The regulator's state after the law has run on a pressure, in NORMAL (R142 to R144). -/
def lawSrg (s : State) (p : Int) : Srg :=
  let r := regulatorLaw s.settings s.srg.integrator p
  { s.srg with
    integrator := r.integrator, demand := clampDemand s.settings r.output, error := (s.settings.pSet : Int) - p
    trip := .normal }

theorem regulatorLaw_error (c : Settings) (i : Nat) (p : Int) : (regulatorLaw c i p).error = (c.pSet : Int) - p := by
  simp only [regulatorLaw]
  split <;> rfl

/-- Stage 3 in NORMAL with P_h not INVALID (R142, R144). -/
theorem setDemand_regulates (htrip : s.srg.trip = .normal) (hv : pressure.validity ≠ .invalid) :
    setDemand pressure s =
      offerAll (clampFirings s.settings (regulatorLaw s.settings s.srg.integrator pressure.value).output)
        (setSrg (lawSrg s pressure.value) s) := by
  have law : lawSrg s pressure.value = { s.srg with
      integrator := (regulatorLaw s.settings s.srg.integrator pressure.value).integrator
      demand := clampDemand s.settings (regulatorLaw s.settings s.srg.integrator pressure.value).output
      error := (regulatorLaw s.settings s.srg.integrator pressure.value).error } := by
    rw [regulatorLaw_error]
    simp [lawSrg, htrip]
  rw [law]
  simp only [setDemand, htrip, regulate]

/-- D_t within and beyond its limits (R144). -/
theorem clampDemand_eq (c : Settings) (x : Int) :
    clampDemand c x = if x < 0 then 0 else if (c.turbineLimit : Int) < x then c.turbineLimit else x.toNat := by
  unfold clampDemand
  split_ifs <;> omega

/-- The event unit after DEMAND_CLAMPED of an output u, if any (R144, R166). -/
def clampedEvu (x : Int) (s : State) : Evu :=
  (if x < 0 then enqueue (fireDetail 32 1) s
    else if (s.settings.turbineLimit : Int) < x then enqueue (fireDetail 32 2) s else s).evu

/-- With no channel bound, DEMAND_CLAMPED goes to the queue (R144, R166). -/
theorem offerAll_clampFirings (x : Int) {s u : State} (hu : noChannelBound u) (hc : u.settings = s.settings)
    (he : u.evu = s.evu) : offerAll (clampFirings s.settings x) u = { u with evu := clampedEvu x s } := by
  unfold clampFirings clampedEvu
  split_ifs
  · exact offer_queued (takingChannel_of_unbound hu _) hc he
  · exact offer_queued (takingChannel_of_unbound hu _) hc he
  · rw [← he]
    rfl

theorem clampedEvu_congr (x : Int) {s u : State} (hc : u.settings = s.settings) (he : u.evu = s.evu) :
    clampedEvu x u = clampedEvu x s := by
  unfold clampedEvu
  rw [hc]
  split_ifs
  · exact enqueue_evu_congr _ hc he
  · exact enqueue_evu_congr _ hc he
  · exact he

/-- Stage 5 in NORMAL with P_h not INVALID (R146). -/
theorem writeTurbineQuantities_regulated (htrip : s.srg.trip = .normal) (hv : pressure.validity ≠ .invalid) :
    writeTurbineQuantities pressure s =
      writeQuantity 3 .valid s.srg.error
        (writeQuantity 2 .valid (s.srg.integrator / 256 : Nat) (writeQuantity 1 .valid s.srg.demand s)) := by
  simp only [writeTurbineQuantities, htrip]

/-- Stages 4 and 5 (R141, R146): the DEMAND and the quantities. -/
def turbineTickEnds (before : TripState) (pressure : Quantity) (s : State) : State :=
  writeTurbineQuantities pressure (if demandDue before pressure s then publishDemand s else s)

theorem turbineShare_eq (s : State) :
    turbineShare s =
      turbineTickEnds s.srg.trip (quantityOf s 0) (setDemand (quantityOf s 0) (tripTests (quantityOf s 0) s)) := rfl

/-- A tick that the regulator's state `s` ends: the quantities, and the DEMAND where it is due (R39, R141, R146). -/
structure RegulatedTick (due : Bool) (s t : State) : Prop where
  frame : t = { s with
    msu := { s.msu with quantities := t.msu.quantities }, lif := { s.lif with tx := t.lif.tx }
    frh := { s.frh with
      outbox := { s.frh.outbox with demand := t.frh.outbox.demand }, lastDemand := t.frh.lastDemand } }
  demand : quantityOf t 1 = { validity := .valid, value := s.srg.demand, heldCount := 0 }
  integrator : quantityOf t 2 = { validity := .valid, value := (s.srg.integrator / 256 : Nat), heldCount := 0 }
  error : quantityOf t 3 = { validity := .valid, value := s.srg.error, heldCount := 0 }
  others : ∀ q, q < 11 → q = 0 ∨ 3 < q → quantityOf t q = quantityOf s q
  stands : due = false → t.frh = s.frh ∧ t.lif = s.lif
  publishes : due = true → keepsEntries s = true →
    t.frh.outbox.demand = some (replacing s.frh.outbox.demand (.demand s.srg.demand 0)) ∧ t.frh.lastDemand = some s.srg.demand

/-- What a TURBINE station in NORMAL publishes (R39, R151). -/
theorem publishDemand_normal (hr : hasRole s .turbine = true) (htrip : s.srg.trip = .normal) :
    publishDemand s = enterDemandFrame s.srg.demand 0 s := by
  rw [publishDemand, presentDemand_turbine hr, if_pos htrip]

theorem turbineTickEnds_regulated (before : TripState) (hr : hasRole s .turbine = true) (htrip : s.srg.trip = .normal)
    (hv : pressure.validity ≠ .invalid) :
    RegulatedTick (demandDue before pressure s) s (turbineTickEnds before pressure s) := by
  unfold turbineTickEnds
  generalize demandDue before pressure s = due
  let entered := if due then publishDemand s else s
  obtain ⟨hsrg, hmsu⟩ : entered.srg = s.srg ∧ entered.msu = s.msu := by cases due <;> simp [entered]
  have stood (q : Nat) : quantityOf entered q = quantityOf s q := by simp [quantityOf, hmsu]
  have frame : entered = { s with
      lif := { s.lif with tx := entered.lif.tx }
      frh := { s.frh with
        outbox := { s.frh.outbox with demand := entered.frh.outbox.demand }, lastDemand := entered.frh.lastDemand } } := by
    cases due with
    | true => exact publishDemand_frame s
    | false => rfl
  rw [show (if due then publishDemand s else s) = entered from rfl,
    writeTurbineQuantities_regulated (s := entered) (by rw [hsrg, htrip]) hv, hsrg]
  constructor
  case frame =>
    rw [frame]
    rfl
  case demand => simp [quantityOf_writeQuantity]
  case integrator => simp [quantityOf_writeQuantity]
  case error => simp [quantityOf_writeQuantity]
  case others =>
    intro q hq hne
    rw [quantityOf_writeQuantity _ _ _ _ hq, if_neg (by omega), quantityOf_writeQuantity _ _ _ _ hq, if_neg (by omega),
      quantityOf_writeQuantity _ _ _ _ hq, if_neg (by omega), stood]
  case stands =>
    rintro rfl
    exact ⟨rfl, rfl⟩
  case publishes =>
    rintro rfl hk
    have published : entered = enterDemandFrame s.srg.demand 0 s := publishDemand_normal hr htrip
    have kept := enterDemandFrame_keeps_entry s.srg.demand 0 s hk
    rw [← published] at kept
    simpa using kept

/-! ### The ticks -/

/-- At or below the trip pressure, and on a P_h that is not VALID, a station in NORMAL stays there (R147). -/
theorem tripTests_stays (htrip : s.srg.trip = .normal)
    (hp : pressure.validity = .valid → pressure.value ≤ s.settings.pTrip) : tripTests pressure s = s := by
  have low : ¬ (pressure.validity = .valid ∧ (s.settings.pTrip : Int) < pressure.value) := fun ⟨hv, h⟩ => by
    have := hp hv
    omega
  simp only [tripTests, htrip]
  exact if_neg low

/-- The DEMAND of a tick spent in NORMAL is that of the step test (R39, R141). -/
theorem demandDue_normal (htrip : s.srg.trip = .normal) (hv : pressure.validity ≠ .invalid) :
    demandDue .normal pressure s = publishDue s.srg.demand s.frh.lastDemand s.settings.demandStep := by
  simp [demandDue, htrip, hv]

/-- The tick in NORMAL with u in its range. -/
theorem turbineShare_inRange (hr : hasRole s .turbine = true) (htrip : s.srg.trip = .normal)
    (hv : (quantityOf s 0).validity = .valid) (hp : (quantityOf s 0).value ≤ s.settings.pTrip)
    (h0 : 0 ≤ (regulatorLaw s.settings s.srg.integrator (quantityOf s 0).value).output)
    (h1 : (regulatorLaw s.settings s.srg.integrator (quantityOf s 0).value).output ≤ s.settings.turbineLimit) :
    let w := setSrg (lawSrg s (quantityOf s 0).value) s
    RegulatedTick (publishDue w.srg.demand s.frh.lastDemand s.settings.demandStep) w (turbineShare s) := by
  intro w
  have hv' : (quantityOf s 0).validity ≠ .invalid := by simp [hv]
  have quiet : clampFirings s.settings (regulatorLaw s.settings s.srg.integrator (quantityOf s 0).value).output = [] := by
    rw [clampFirings, if_neg (by omega), if_neg (by omega)]
  have set : setDemand (quantityOf s 0) (tripTests (quantityOf s 0) s) = w := by
    rw [tripTests_stays htrip fun _ => hp, setDemand_regulates htrip hv', quiet]
    rfl
  have ends := turbineTickEnds_regulated (s := w) (pressure := quantityOf s 0) .normal hr rfl hv'
  rw [turbineShare_eq, htrip, set]
  rwa [demandDue_normal (s := w) rfl hv'] at ends

/-- The tick that the law ends in NORMAL, with no channel bound, from the state `u` after the trip tests (R144). -/
theorem turbineTick_regulated (before : TripState) (hr : hasRole u .turbine = true) (hu : noChannelBound u)
    (htrip : u.srg.trip = .normal) (hv : pressure.validity ≠ .invalid) :
    ∃ due, (before ≠ .normal → due = true) ∧
      RegulatedTick due
        { setSrg (lawSrg u pressure.value) u with
          evu := clampedEvu (regulatorLaw u.settings u.srg.integrator pressure.value).output u }
        (turbineTickEnds before pressure (setDemand pressure u)) := by
  rw [setDemand_regulates htrip hv, offerAll_clampFirings (s := u) (u := setSrg (lawSrg u pressure.value) u) _ hu rfl rfl]
  refine ⟨_, fun hb => ?_, turbineTickEnds_regulated before hr rfl hv⟩
  cases before with
  | normal => exact absurd rfl hb
  | tripped _ => rfl

/-- The tick in NORMAL that holds everything (R145). -/
theorem turbineShare_held (hc : noChannelBound s) (htrip : s.srg.trip = .normal) (hv : (quantityOf s 0).validity = .invalid) :
    turbineShare s = holdQuantity 3 (holdQuantity 2 (holdQuantity 1
      { s with evu := (enqueue (fireDetail 30 s.srg.demand) s).evu })) := by
  have offered : offer (fireDetail 30 s.srg.demand) s = { s with evu := (enqueue (fireDetail 30 s.srg.demand) s).evu } :=
    offer_queued (takingChannel_of_unbound hc _) rfl rfl
  have set : setDemand (quantityOf s 0) (tripTests (quantityOf s 0) s) =
      { s with evu := (enqueue (fireDetail 30 s.srg.demand) s).evu } := by
    rw [tripTests_stays htrip (by simp [hv]), ← offered]
    simp only [setDemand, htrip, regulate, hv]
  have undue :
      ¬ demandDue s.srg.trip (quantityOf s 0) { s with evu := (enqueue (fireDetail 30 s.srg.demand) s).evu } = true := by
    simp [demandDue, htrip, hv]
  rw [turbineShare_eq, set, turbineTickEnds, if_neg undue]
  simp only [writeTurbineQuantities, htrip, hv]

/-- The move from TRIPPED to NORMAL, with no channel bound to TRIP_OUT (R150). -/
theorem leaveTripped_eq (hc : noChannelBound s) :
    leaveTripped s = { enterClearFrame (setSrg { s.srg with trip := .normal } s) with
      evu := (enqueue (fire 27 (ownNumber s) 4) s).evu } := by
  have own : ownNumber (enterClearFrame (setSrg { s.srg with trip := .normal } s)) = ownNumber s := by simp [ownNumber]
  have unbound : noChannelBound (enterClearFrame (setSrg { s.srg with trip := .normal } s)) := by
    simpa [noChannelBound] using hc
  rw [leaveTripped, own]
  exact offer_queued (takingChannel_of_unbound unbound _) (by simp) (by simp)

/-- A CLEAR entry moves its slot and what the transmit side waits for (R31, R32, R34). -/
theorem enterClearFrame_frame (s : State) :
    enterClearFrame s = { s with
      lif := { s.lif with tx := (enterClearFrame s).lif.tx }
      frh := { s.frh with outbox := { s.frh.outbox with clear := (enterClearFrame s).frh.outbox.clear } } } := by
  ext1
  case lif => ext1 <;> simp
  case frh =>
    ext1
    case outbox => ext1 <;> simp
    all_goals simp
  all_goals simp

/-- The station that has left TRIPPED, before the law runs (R150). -/
theorem leaveTripped_frame (hc : noChannelBound s) :
    leaveTripped s = { s with
      srg := { s.srg with trip := .normal }, evu := (enqueue (fire 27 (ownNumber s) 4) s).evu
      lif := { s.lif with tx := (leaveTripped s).lif.tx }
      frh := { s.frh with outbox := { s.frh.outbox with clear := (leaveTripped s).frh.outbox.clear } } } := by
  rw [leaveTripped_eq hc, enterClearFrame_frame]
  rfl

theorem leaveTripped_clear (hk : keepsEntries s = true) :
    (leaveTripped s).frh.outbox.clear = some (replacing s.frh.outbox.clear .clear) := by
  have kept : keepsEntries (setSrg { s.srg with trip := .normal } s) = true := hk
  simp [leaveTripped, enterClearFrame, kept]

/-- TRIPPED is left at a share tick with TRIP_IN inactive and P_h VALID and low enough (R150). -/
theorem tripTests_leaves (htrip : s.srg.trip ≠ .normal) (hin : s.srg.tripIn = false) (hv : pressure.validity = .valid)
    (hp : pressure.value ≤ (s.settings.pTrip : Int) - s.settings.pTripHys) : tripTests pressure s = leaveTripped s := by
  cases h : s.srg.trip with
  | normal => exact absurd h htrip
  | tripped c =>
    simp only [tripTests, h]
    exact if_pos (by simp [hin, hv, lowEnough, hp])

/-- Settles O46: the trip tests, the law and the tick's end, for each trip state and each P_h. -/
theorem turbineTickRegulates : Obligations.TurbineTickRegulates := by
  constructor
  · intro s p hw hr htrip hv hp hlow r h0 h1
    subst hp
    have tick := turbineShare_inRange hr htrip hv hlow h0 h1
    have demand : clampDemand s.settings r.output = r.output.toNat := by
      rw [clampDemand_eq, if_neg (by omega), if_neg (by omega)]
    have law : lawSrg s (quantityOf s 0).value = { s.srg with
        integrator := r.integrator, demand := r.output.toNat, error := (s.settings.pSet : Int) - (quantityOf s 0).value } := by
      simp only [lawSrg, ← htrip]
      exact congrArg (fun d => { s.srg with
        integrator := r.integrator, demand := d, error := (s.settings.pSet : Int) - (quantityOf s 0).value }) demand
    rw [law] at tick
    refine ⟨_, exec_shareTick_turbine hw hr, tick.frame, ?_, tick.integrator, tick.error, tick.others, fun d hd hstep => ?_,
      fun hk hstep => ?_⟩
    · rw [tick.demand]
      exact congrArg (Quantity.mk .valid · 0) (Int.toNat_of_nonneg h0)
    · exact tick.stands (by simp only [publishDue, hd, decide_eq_false_iff_not]; exact Nat.not_le.mpr hstep)
    · exact tick.publishes ((publishDue_iff _ _ _).mpr hstep) hk
  intro s hw hr hc p r above demand law clamped regulated
  have law_eq : lawSrg s p = law := by
    simp only [lawSrg, clampDemand_eq]
    rfl
  have clamped_eq (x : State) (hx : x.settings = s.settings) : clampedEvu r.output x = (clamped x).evu := by
    simp only [clampedEvu, hx]
    rfl
  have regulates {u t : State} {due : Bool} (hu : u.srg = law) (tick : RegulatedTick due u t) : regulated t := by
    refine ⟨(congrArg State.srg tick.frame).trans hu, ?_, ?_, ?_⟩
    · rw [tick.demand, hu]
    · rw [tick.integrator, hu]
    · rw [tick.error, hu]
  refine ⟨fun htrip hv => ?_, fun htrip hv => ?_, fun htrip hin hv hp => ?_⟩
  · have usable : (quantityOf s 0).validity ≠ .invalid := by
      obtain h | ⟨h, -⟩ := hv <;> simp [h]
    have stays : tripTests (quantityOf s 0) s = s :=
      tripTests_stays htrip fun h => (hv.resolve_left (by simp [h])).2
    obtain ⟨due, -, tick⟩ := turbineTick_regulated (pressure := quantityOf s 0) s.srg.trip hr hc htrip usable
    refine ⟨_, exec_shareTick_turbine hw hr, ?_⟩
    rw [turbineShare_eq, stays]
    exact ⟨regulates law_eq tick, (congrArg State.evu tick.frame).trans (clamped_eq s rfl)⟩
  · refine ⟨_, exec_shareTick_turbine hw hr, ?_⟩
    rw [turbineShare_held hc htrip hv]
    refine ⟨rfl, fun q hq => ?_⟩
    have unmoved (e : Evu) (k : Nat) : quantityOf { s with evu := e } k = quantityOf s k := rfl
    simp only [quantityOf_holdQuantity _ _ hq, quantityOf_holdQuantity, Nat.reduceLT, unmoved]
    grind
  · obtain ⟨due, hdue, tick⟩ := turbineTick_regulated (u := leaveTripped s) (pressure := quantityOf s 0) s.srg.trip
      (by simpa [hasRole, roleOf] using hr) (by rw [leaveTripped_frame hc]; simpa [noChannelBound] using hc)
      (by rw [leaveTripped_frame hc]) (by simp [hv])
    have frame := leaveTripped_frame hc
    have clears := leaveTripped_clear (s := s)
    have leaves := tripTests_leaves htrip hin hv hp
    refine ⟨_, exec_shareTick_turbine hw hr, ?_⟩
    rw [turbineShare_eq, leaves]
    generalize turbineTickEnds s.srg.trip (quantityOf s 0) (setDemand (quantityOf s 0) (leaveTripped s)) = t at tick ⊢
    have law_left : lawSrg (leaveTripped s) p = law := by
      rw [← law_eq, frame]
      rfl
    have output_left : (regulatorLaw (leaveTripped s).settings (leaveTripped s).srg.integrator p).output = r.output := by
      rw [frame]
    have kept : keepsEntries (leaveTripped s) = keepsEntries s := by simp [keepsEntries]
    have evu_left : clampedEvu r.output (leaveTripped s) = (clamped (enqueue (fire 27 (ownNumber s) 4) s)).evu := by
      rw [← clamped_eq _ (by simp)]
      exact clampedEvu_congr _ (by simp) (by rw [frame])
    generalize leaveTripped s = u at frame clears tick law_left output_left kept evu_left
    rw [law_left, output_left, evu_left] at tick
    have clear : t.frh.outbox.clear = u.frh.outbox.clear := congrArg (·.frh.outbox.clear) tick.frame
    refine ⟨regulates rfl tick, ?_, fun hk => ?_⟩
    · rw [clear]
      refine tick.frame.trans ?_
      rw [frame]
      rfl
    · obtain ⟨hdemand, hlast⟩ := tick.publishes (hdue htrip) (kept.trans hk)
      refine ⟨clear.trans (clears hk), hdemand.trans ?_, hlast⟩
      rw [frame]
      rfl

end Sys2Proof.Machine
end

section
/-! SUPPORT. SHARE_TICK of an EXCHANGE station (R39, R155 to R164). -/

namespace Sys2Proof.Machine

variable {s : State}

/-! ### Firings and quantities -/

/-- A firing, with whatever derate step it brings, writes no quantity but Q5 (R66, R81, R166). -/
theorem quantityOf_offer (f : Firing) (s : State) {q : Nat} (hq : q ≠ 5) : quantityOf (offer f s) q = quantityOf s q := by
  have written (u : State) : quantityOf (capacityChanged u) q = quantityOf u q := by
    have msu : (capacityChanged u).msu = (writeQuantity 5 .valid (cOwn u) u).msu := by
      simp only [capacityChanged]
      split <;> simp
    simp [quantityOf, msu, writeQuantity, slotGet_slotSet, hq.symm]
  have acted (m : Mode) : quantityOf (channelAction m s) q = quantityOf s q := by
    cases m with
    | derate =>
      simp only [channelAction, derateStep, moveDerate]
      split
      · rfl
      · exact written _
    | pulse0 | pulse1 | count => rfl
  unfold offer
  split
  · rename_i n _
    refine Eq.trans ?_ (acted (slotGet s.evu.channels n Channel.unbound).mode)
    unfold channelActs
    dsimp only
    split <;> simp [quantityOf]
  · simp [quantityOf]

theorem quantityOf_offerAll (fs : List Firing) (s : State) {q : Nat} (hq : q ≠ 5) :
    quantityOf (offerAll fs s) q = quantityOf s q := by
  unfold offerAll
  induction fs generalizing s with
  | nil => rfl
  | cons f fs ih => exact (ih (offer f s)).trans (quantityOf_offer f s hq)

/-- Firings put into the queue one after the other (R166). -/
def enqueueAll (fs : List Firing) (s : State) : State := fs.foldl (fun s f => enqueue f s) s

/-- With no channel bound, firings go to the queue in their order (R166). -/
theorem offerAll_unbound (fs : List Firing) {s u : State} (hu : noChannelBound u) (hc : u.settings = s.settings)
    (he : u.evu = s.evu) : offerAll fs u = { u with evu := (enqueueAll fs s).evu } := by
  unfold offerAll enqueueAll
  induction fs generalizing s u with
  | nil => rw [List.foldl_nil, List.foldl_nil, ← he]
  | cons f fs ih =>
    have queued : offer f u = { u with evu := (enqueue f s).evu } := offer_queued (takingChannel_of_unbound hu f) hc he
    have unbound : noChannelBound { u with evu := (enqueue f s).evu } := by
      intro n hn
      simpa [he] using hu n hn
    rw [List.foldl_cons, List.foldl_cons, queued, ih (s := enqueue f s) unbound (by simpa using hc) rfl]

/-- A quantity is usable while it is not INVALID (R63). -/
theorem usableValue_eq (s : State) (q : Nat) :
    usableValue s q = if (quantityOf s q).validity ≠ .invalid then some (quantityOf s q).value else none := by
  unfold usableValue
  cases (quantityOf s q).validity <;> simp

/-! ### What one tick computes (R156 to R162) -/

/-- S_mix (R156). -/
def mixNow (s : State) : Nat := if 0 < flowSum s then silicaFlowSum s / flowSum s else s.xcp.sMix

/-- T_bo_min (R157). -/
def outletNow (s : State) : Nat :=
  min 4000 (max (lookup s.settings.table (mixNow s) + s.settings.silicaMargin) s.settings.outletFloor)

/-- ΔT_b, while T_bi is usable (R158). -/
def dropNow (s : State) : Option Int := (usableValue s 3).map fun t => t - outletNow s

/-- The isolation state (R158). -/
def isolatedNow (s : State) : Bool := isolationAfter s.settings s.xcp.isolated (dropNow s)

/-- The heat (R160). -/
def heatNow (s : State) : Nat := heatAfter s.settings s.xcp.heat (usableValue s 1) (usableValue s 2)

/-- The brine flow u, while every input is usable (R161). -/
def flowNow (s : State) : Option Nat :=
  if heatComputed (exchangeInputs s) then (dropNow s).map (brineFlow s.settings (heatNow s)) else none

/-- D_x in an isolation state, from the brine flow where it is computed (R159, R161, R162). -/
def clampedFlow (c : Settings) (isolated : Bool) (flow : Option Nat) (old : Nat) : Nat :=
  if isolated then 0 else (flow.map (min · c.exchangeLimit)).getD old

/-- EXCHANGE_NO_MARGIN, or DEMAND_CLAMPED (R159, R161). -/
def flowFirings (c : Settings) (isolated : Bool) (drop : Option Int) (flow : Option Nat) : List Firing :=
  if isolated then [fireDetail 31 (noMarginDetail drop)]
  else if flow.any (c.exchangeLimit < ·) then [fireDetail 32 2] else []

/-- The exchange computer after a tick. -/
def xcpNow (s : State) : Xcp where
  sMix := mixNow s
  tSat := lookup s.settings.table (mixNow s)
  tBoMin := outletNow s
  isolated := isolatedNow s
  heat := heatNow s
  demand := clampedFlow s.settings (isolatedNow s) (flowNow s) s.xcp.demand

/-- TABLE_RANGE (R71). -/
def rangeFirings (s : State) : List Firing :=
  if outsideTable s.settings.table (mixNow s) then [fireDetail 19 (mixNow s)] else []

/-- The firing of stage 6 (R159, R161). -/
def demandFirings (s : State) : List Firing := flowFirings s.settings (isolatedNow s) (dropNow s) (flowNow s)

/-- The station after stages 1 and 2. -/
def outletTick (s : State) : State :=
  offerAll (rangeFirings s)
    (setXcp { s.xcp with sMix := mixNow s, tSat := lookup s.settings.table (mixNow s), tBoMin := outletNow s } s)

/-- The station after stages 1 to 6. -/
def demandTick (s : State) : State := offerAll (demandFirings s) (setXcp (xcpNow s) (outletTick s))

/-- Stages 7 and 8. -/
def exchangeTickEnds (mixed : Bool) (i : ExchangeInputs) (before : Bool) (s : State) : State :=
  writeExchangeQuantities mixed i (if exchangeDemandDue before i s then publishDemand s else s)

theorem mixSilica_eq (s : State) : mixSilica s = setXcp { s.xcp with sMix := mixNow s } s := by
  unfold mixSilica mixNow
  split <;> rfl

theorem outletLimit_mixSilica (s : State) : outletLimit (mixSilica s) = outletTick s := by
  rw [mixSilica_eq, outletTick, rangeFirings]
  unfold outletLimit
  by_cases h : outsideTable s.settings.table (mixNow s) = true
  · exact (if_pos h).trans (by rw [if_pos h]; rfl)
  · exact (if_neg h).trans (by rw [if_neg h]; rfl)

theorem exchangeInputs_outletTick (s : State) : exchangeInputs (outletTick s) = exchangeInputs s := by
  have stands {q : Nat} (hq : q ≠ 5) : usableValue (outletTick s) q = usableValue s q := by
    rw [usableValue, outletTick, quantityOf_offerAll _ _ hq]
    rfl
  simp [exchangeInputs, stands]

/-- Stage 6: D_x and its firing (R159, R161, R162). -/
theorem exchangeDemand_eq (i : ExchangeInputs) (s : State) :
    let flow := if heatComputed i then (brineDrop s i.inlet).map (brineFlow s.settings s.xcp.heat) else none
    exchangeDemand i s = offerAll (flowFirings s.settings s.xcp.isolated (brineDrop s i.inlet) flow)
      (setXcp { s.xcp with demand := clampedFlow s.settings s.xcp.isolated flow s.xcp.demand } s) := by
  intro flow
  cases hi : s.xcp.isolated with
  | true =>
    simp only [exchangeDemand, hi, if_true, flowFirings, clampedFlow]
    rfl
  | false =>
    have unmoved : s = setXcp { s.xcp with isolated := false } s := by rw [← hi]; rfl
    cases hh : heatComputed i <;> cases hd : brineDrop s i.inlet <;>
      simp only [exchangeDemand, hi, hh, hd, flow, flowFirings, clampedFlow, Bool.false_eq_true, if_false, if_true]
    case true.some d =>
      by_cases hu : s.settings.exchangeLimit < brineFlow s.settings s.xcp.heat d
      · simp [hu, offerAll]
      · simp [hu, offerAll]
    all_goals exact unmoved

theorem outletTick_xcp (s : State) : (outletTick s).xcp =
    { s.xcp with sMix := mixNow s, tSat := lookup s.settings.table (mixNow s), tBoMin := outletNow s } := by
  simp [outletTick]

/-- A tick is what it computes with its firings, then the DEMAND and the quantities (R155). -/
theorem exchangeShare_eq (s : State) :
    exchangeShare s =
      exchangeTickEnds (decide (0 < flowSum s)) (exchangeInputs s) s.xcp.isolated (demandTick s) := by
  have settings : (outletTick s).settings = s.settings := by simp [outletTick]
  have before : (outletTick s).xcp.isolated = s.xcp.isolated := by rw [outletTick_xcp]
  have isolated : isolationAfter (outletTick s).settings (outletTick s).xcp.isolated
      (brineDrop (outletTick s) (exchangeInputs s).inlet) = isolatedNow s := by
    rw [brineDrop, settings, outletTick_xcp]
    rfl
  have heat : heatAfter (outletTick s).settings (outletTick s).xcp.heat (exchangeInputs s).supplyReturn
      (exchangeInputs s).flow = heatNow s := by
    rw [settings, outletTick_xcp]
    rfl
  have demand : exchangeDemand (exchangeInputs s)
      (setXcp { (outletTick s).xcp with isolated := isolatedNow s, heat := heatNow s } (outletTick s)) = demandTick s := by
    rw [exchangeDemand_eq, demandTick, outletTick_xcp]
    simp only [setXcp, settings]
    rfl
  have computed : exchangeShare s =
      exchangeTickEnds (decide (0 < flowSum s)) (exchangeInputs (outletLimit (mixSilica s)))
        (outletLimit (mixSilica s)).xcp.isolated
        (exchangeDemand (exchangeInputs (outletLimit (mixSilica s))) (setXcp
          { (outletLimit (mixSilica s)).xcp with
            isolated := isolationAfter (outletLimit (mixSilica s)).settings (outletLimit (mixSilica s)).xcp.isolated
              (brineDrop (outletLimit (mixSilica s)) (exchangeInputs (outletLimit (mixSilica s))).inlet)
            heat := heatAfter (outletLimit (mixSilica s)).settings (outletLimit (mixSilica s)).xcp.heat
              (exchangeInputs (outletLimit (mixSilica s))).supplyReturn
              (exchangeInputs (outletLimit (mixSilica s))).flow } (outletLimit (mixSilica s)))) := rfl
  rw [computed, outletLimit_mixSilica, exchangeInputs_outletTick, isolated, heat, before, demand]

/-! ### The end of the tick (R163, R164) -/

/-- D_x is set at this tick (R163). -/
def demandSetNow (s : State) : Bool := demandComputed (isolatedNow s) (exchangeInputs s)

/-- A DEMAND is due at this tick (R163). -/
def publishesNow (s : State) : Bool :=
  isolatedNow s != s.xcp.isolated ||
    (demandSetNow s && publishDue (xcpNow s).demand s.frh.lastDemand s.settings.demandStep)

/-- Where the exchange computer stands at the end of a tick, whatever its firings brought. -/
theorem demandTick_keeps (s : State) :
    (demandTick s).xcp = xcpNow s ∧ (demandTick s).settings = s.settings ∧ (demandTick s).stl = s.stl ∧
      (demandTick s).frh.lineState = s.frh.lineState ∧ (demandTick s).frh.lastDemand = s.frh.lastDemand ∧
      (demandTick s).frh.outbox.demand = s.frh.outbox.demand := by
  simp [demandTick, outletTick]

/-- What an EXCHANGE station publishes after a tick is D_x, 0 in ISOLATED (R159, R163). -/
theorem publishDemand_demandTick (hr : hasRole s .exchange = true) :
    publishDemand (demandTick s) = enterDemandFrame (xcpNow s).demand 0 (demandTick s) := by
  obtain ⟨xcp, -, straps, -⟩ := demandTick_keeps s
  have role : hasRole (demandTick s) .exchange = true := by rwa [hasRole, roleOf, straps]
  have present : (if (xcpNow s).isolated then 0 else (xcpNow s).demand) = (xcpNow s).demand := by
    cases hi : isolatedNow s <;> simp [xcpNow, hi, clampedFlow]
  rw [publishDemand, presentDemand_exchange role, xcp, present]

theorem exchangeDemandDue_demandTick (s : State) :
    exchangeDemandDue s.xcp.isolated (exchangeInputs s) (demandTick s) = publishesNow s := by
  obtain ⟨xcp, settings, -, -, last, -⟩ := demandTick_keeps s
  rw [exchangeDemandDue, xcp, settings, last]
  rfl

/-- A tick ends in the DEMAND that is due and the quantities, whatever its firings brought (R163, R164). -/
structure ExchangeTick (s t : State) : Prop where
  frame : t = { demandTick s with
    msu := { (demandTick s).msu with quantities := t.msu.quantities }, lif := { (demandTick s).lif with tx := t.lif.tx }
    frh := { (demandTick s).frh with
      outbox := { (demandTick s).frh.outbox with demand := t.frh.outbox.demand }, lastDemand := t.frh.lastDemand } }
  stands : publishesNow s = false ∨ keepsEntries s = false → t.frh = (demandTick s).frh ∧ t.lif = (demandTick s).lif
  publishes : publishesNow s = true → keepsEntries s = true →
    t.frh.outbox.demand = some (replacing s.frh.outbox.demand (.demand (xcpNow s).demand 0)) ∧
      t.frh.lastDemand = some (xcpNow s).demand
  mix : quantityOf t 5 =
    { validity := if 0 < flowSum s then .valid else .held, value := (xcpNow s).sMix, heldCount := 0 }
  saturation : quantityOf t 6 =
    { validity := if 0 < flowSum s then .valid else .held, value := (xcpNow s).tSat, heldCount := 0 }
  outlet : quantityOf t 7 =
    { validity := if 0 < flowSum s then .valid else .held, value := (xcpNow s).tBoMin, heldCount := 0 }
  heat : quantityOf t 9 =
    if heatComputed (exchangeInputs s) then
      { validity := .valid, value := (min 65535 ((xcpNow s).heat / 10) : Nat), heldCount := 0 }
    else { validity := .held, value := (quantityOf s 9).value, heldCount := 0 }
  demand : quantityOf t 10 =
    if demandSetNow s then { validity := .valid, value := (xcpNow s).demand, heldCount := 0 }
    else { validity := .held, value := (quantityOf s 10).value, heldCount := 0 }
  others : ∀ q, q < 11 → q < 5 ∨ q = 8 → quantityOf t q = quantityOf s q

/-- Stage 8 moves the quantity table alone (R164). -/
theorem writeExchangeQuantities_frame (mixed : Bool) (i : ExchangeInputs) (s : State) :
    ∃ table, writeExchangeQuantities mixed i s = { s with msu := { s.msu with quantities := table } } := by
  refine ⟨(writeExchangeQuantities mixed i s).msu.quantities, ?_⟩
  ext1
  case msu => ext1 <;> simp
  all_goals simp

/-- The quantity table after stage 8 (R164). -/
theorem quantityOf_writeExchangeQuantities (mixed : Bool) (i : ExchangeInputs) (s : State) {k : Nat} (hk : k < 11) :
    quantityOf (writeExchangeQuantities mixed i s) k =
      if k = 10 then
        if demandComputed s.xcp.isolated i then { validity := .valid, value := s.xcp.demand, heldCount := 0 }
        else { validity := .held, value := (quantityOf s 10).value, heldCount := 0 }
      else if k = 9 then
        if heatComputed i then { validity := .valid, value := (min 65535 (s.xcp.heat / 10) : Nat), heldCount := 0 }
        else { validity := .held, value := (quantityOf s 9).value, heldCount := 0 }
      else if k = 7 then { validity := if mixed then .valid else .held, value := s.xcp.tBoMin, heldCount := 0 }
      else if k = 6 then { validity := if mixed then .valid else .held, value := s.xcp.tSat, heldCount := 0 }
      else if k = 5 then { validity := if mixed then .valid else .held, value := s.xcp.sMix, heldCount := 0 }
      else quantityOf s k := by
  have written {q : Nat} {v : Validity} {x : Int} {s : State} {k : Nat} (hk : k < 11) := quantityOf_writeQuantity q v x s hk
  have held {q : Nat} {s : State} {k : Nat} (hk : k < 11) := quantityOf_holdQuantity q s hk
  unfold writeExchangeQuantities
  cases heatComputed i <;> cases h : demandComputed s.xcp.isolated i <;>
    simp only [writeQuantity_keeps, holdQuantity_keeps, h, Bool.false_eq_true, if_false, if_true, written, held, hk,
      Nat.reduceLT] <;>
    grind

theorem exchangeShare_ends (hr : hasRole s .exchange = true) : ExchangeTick s (exchangeShare s) := by
  obtain ⟨xcp, -, -, line, -, slot⟩ := demandTick_keeps s
  rw [exchangeShare_eq, exchangeTickEnds, exchangeDemandDue_demandTick]
  let entered := if publishesNow s then publishDemand (demandTick s) else demandTick s
  obtain ⟨hxcp, hmsu⟩ : entered.xcp = xcpNow s ∧ entered.msu = (demandTick s).msu := by
    rw [← xcp]
    cases hp : publishesNow s <;> simp [entered, hp]
  have stood {q : Nat} (hq : q ≠ 5) : quantityOf entered q = quantityOf s q := by
    rw [show quantityOf entered q = quantityOf (demandTick s) q by rw [quantityOf, hmsu]; rfl, demandTick,
      quantityOf_offerAll _ _ hq]
    exact quantityOf_offerAll _ _ hq
  have kept : keepsEntries (demandTick s) = keepsEntries s := by rw [keepsEntries, line]; rfl
  have published : publishesNow s = true → entered = enterDemandFrame (xcpNow s).demand 0 (demandTick s) := fun hp => by
    rw [← publishDemand_demandTick hr]
    exact if_pos hp
  have frame : entered = { demandTick s with
      lif := { (demandTick s).lif with tx := entered.lif.tx }
      frh := { (demandTick s).frh with
        outbox := { (demandTick s).frh.outbox with demand := entered.frh.outbox.demand }
        lastDemand := entered.frh.lastDemand } } := by
    cases hp : publishesNow s with
    | true => simpa only [entered, hp, if_true] using publishDemand_frame (demandTick s)
    | false => simp [entered, hp]
  have quantities {q : Nat} (hq : q < 11) :=
    quantityOf_writeExchangeQuantities (decide (0 < flowSum s)) (exchangeInputs s) entered hq
  simp only [hxcp, decide_eq_true_eq] at quantities
  rw [show (if publishesNow s then publishDemand (demandTick s) else demandTick s) = entered from rfl]
  constructor
  case frame =>
    obtain ⟨table, written⟩ := writeExchangeQuantities_frame (decide (0 < flowSum s)) (exchangeInputs s) entered
    rw [written, frame]
  case stands =>
    rintro (hp | hk)
    · simp [entered, hp]
    · have unmoved : entered = demandTick s := by
        cases hp : publishesNow s with
        | true => simp [published hp, enterDemandFrame, kept, hk]
        | false => simp [entered, hp]
      simp [unmoved]
  case publishes =>
    intro hp hk
    have entry := enterDemandFrame_keeps_entry (xcpNow s).demand 0 (demandTick s) (kept.trans hk)
    rw [← published hp, slot] at entry
    simpa using entry
  case mix | saturation | outlet => exact quantities (by decide)
  case heat =>
    rw [quantities (by decide), stood (q := 9) (by decide)]
    rfl
  case demand =>
    rw [quantities (by decide), stood (q := 10) (by decide)]
    rfl
  case others =>
    intro q hq hne
    rw [quantities hq, if_neg (by omega), if_neg (by omega), if_neg (by omega), if_neg (by omega), if_neg (by omega),
      stood (by omega)]

/-! ### The ticks -/

/-- SHARE_TICK of a working EXCHANGE station. -/
theorem exec_shareTick_exchange (hw : works s = true) (hr : hasRole s .exchange = true) :
    exec .shareTick s = .next (exchangeShare s) := by
  have role : roleOf s = some .exchange := by simpa [hasRole] using hr
  simp only [exec, execShareTick, hw, if_true, shareTick, role]

/-- The brine flow is a ceiling (R161). -/
theorem brineFlow_least (c : Settings) (heat : Nat) {drop : Int} (hd : 0 < drop) (hc : 0 < c.specificHeat) :
    (heat : Int) * 10000 ≤ brineFlow c heat drop * ((c.specificHeat : Int) * drop) ∧
      ∀ u : Nat, (heat : Int) * 10000 ≤ u * ((c.specificHeat : Int) * drop) → brineFlow c heat drop ≤ u := by
  have positive : 0 < (c.specificHeat : Int) * drop := Int.mul_pos (by omega) hd
  unfold brineFlow
  dsimp only
  generalize (c.specificHeat : Int) * drop = d at positive ⊢
  have whole : 0 ≤ ((heat : Int) * 10000 + d - 1) / d := Int.ediv_nonneg (by omega) positive.le
  refine ⟨?_, fun u hu => ?_⟩
  · have above := Int.lt_ediv_add_one_mul_self ((heat : Int) * 10000 + d - 1) positive
    rw [Int.toNat_of_nonneg whole]
    rw [Int.add_mul, Int.one_mul] at above
    omega
  · have below : ((heat : Int) * 10000 + d - 1) / d < (u : Int) + 1 := by
      refine Int.ediv_lt_of_lt_mul positive ?_
      rw [Int.add_mul, Int.one_mul]
      omega
    omega

/-- A tick without a firing (R155). -/
theorem demandTick_quiet (hrange : rangeFirings s = []) (hdemand : demandFirings s = []) :
    demandTick s = setXcp (xcpNow s) s := by
  rw [demandTick, hdemand, outletTick, hrange]
  rfl

/-- With no channel bound, the firings of a tick go to the queue (R166). -/
theorem demandTick_unbound (hc : noChannelBound s) :
    demandTick s = { s with
      xcp := xcpNow s, evu := (enqueueAll (demandFirings s) (enqueueAll (rangeFirings s) s)).evu } := by
  have ranged : outletTick s = { s with
      xcp := { s.xcp with sMix := mixNow s, tSat := lookup s.settings.table (mixNow s), tBoMin := outletNow s }
      evu := (enqueueAll (rangeFirings s) s).evu } := offerAll_unbound _ hc rfl rfl
  have channels (fs : List Firing) (s : State) : (enqueueAll fs s).evu.channels = s.evu.channels ∧
      (enqueueAll fs s).settings = s.settings := by
    unfold enqueueAll
    induction fs generalizing s with
    | nil => exact ⟨rfl, rfl⟩
    | cons f fs ih => simpa using ih (enqueue f s)
  obtain ⟨bound, settings⟩ := channels (rangeFirings s) s
  rw [demandTick, ranged]
  refine offerAll_unbound _ (s := enqueueAll (rangeFirings s) s) (fun n hn => ?_) settings.symm rfl
  rw [← hc n hn]
  exact congrArg (fun cs => (slotGet cs n Channel.unbound).source) bound

/-! ### What a tick computes, by the validity of its inputs (R158 to R162) -/

theorem dropNow_eq (s : State) :
    dropNow s =
      if (quantityOf s 3).validity ≠ .invalid then some ((quantityOf s 3).value - outletNow s) else none := by
  rw [dropNow, usableValue_eq]
  split <;> rfl

theorem heatComputed_iff (s : State) :
    heatComputed (exchangeInputs s) = true ↔
      (quantityOf s 1).validity ≠ .invalid ∧ (quantityOf s 2).validity ≠ .invalid := by
  simp only [heatComputed, exchangeInputs, usableValue_eq, Bool.and_eq_true]
  split_ifs <;> simp [*]

theorem isolatedNow_eq (s : State) :
    isolatedNow s =
      if (quantityOf s 3).validity ≠ .invalid then
        decide ((quantityOf s 3).value - outletNow s <
          (s.settings.minimumDrop : Int) + (if s.xcp.isolated then s.settings.dropHysteresis else 0))
      else s.xcp.isolated := by
  rw [isolatedNow, dropNow_eq]
  by_cases hv : (quantityOf s 3).validity ≠ .invalid
  · rw [if_pos hv, if_pos hv]
    cases s.xcp.isolated <;> simp [isolationAfter]
  · rw [if_neg hv, if_neg hv, isolationAfter]

theorem heatNow_eq (s : State) :
    heatNow s =
      if (quantityOf s 1).validity ≠ .invalid ∧ (quantityOf s 2).validity ≠ .invalid then
        heatOf s.settings (quantityOf s 1).value (quantityOf s 2).value
      else s.xcp.heat := by
  rw [heatNow, usableValue_eq, usableValue_eq]
  by_cases h1 : (quantityOf s 1).validity ≠ .invalid <;> by_cases h2 : (quantityOf s 2).validity ≠ .invalid <;>
    simp [h1, h2, heatAfter]

theorem flowNow_eq (s : State) :
    flowNow s =
      if (quantityOf s 3).validity ≠ .invalid ∧ heatComputed (exchangeInputs s) = true then
        some (brineFlow s.settings (heatNow s) ((quantityOf s 3).value - outletNow s))
      else none := by
  rw [flowNow, dropNow_eq]
  by_cases hv : (quantityOf s 3).validity ≠ .invalid <;> cases heatComputed (exchangeInputs s) <;> simp [hv]

theorem noMarginDetail_dropNow (s : State) :
    noMarginDetail (dropNow s) =
      if (quantityOf s 3).validity ≠ .invalid then ((quantityOf s 3).value - outletNow s).toNat else 65535 := by
  rw [dropNow_eq]
  split <;> rfl

/-- D_x, by the isolation state and where every input is usable (R159, R161, R162). -/
theorem clampedFlow_eq (c : Settings) (isolated : Bool) (computes : Prop) [Decidable computes] (u old : Nat) :
    clampedFlow c isolated (if computes then some u else none) old =
      if isolated then 0 else if isolated = false ∧ computes then min u c.exchangeLimit else old := by
  cases isolated <;> by_cases hc : computes <;> simp [clampedFlow, hc]

/-- The firing of stage 6 in the queue (R159, R161). -/
theorem enqueueAll_flowFirings (c : Settings) (isolated : Bool) (drop : Option Int) (computes : Prop) [Decidable computes]
    (u : Nat) (s : State) :
    enqueueAll (flowFirings c isolated drop (if computes then some u else none)) s =
      if isolated then enqueue (fireDetail 31 (noMarginDetail drop)) s
      else if (isolated = false ∧ computes) ∧ c.exchangeLimit < u then enqueue (fireDetail 32 2) s else s := by
  cases isolated with
  | true => rfl
  | false => by_cases hc : computes <;> by_cases hu : c.exchangeLimit < u <;> simp [flowFirings, enqueueAll, hc, hu]

theorem enqueueAll_rangeFirings (s : State) :
    enqueueAll (rangeFirings s) s =
      if outsideTable s.settings.table (mixNow s) then enqueue (fireDetail 19 (mixNow s)) s else s := by
  unfold rangeFirings
  split <;> rfl

theorem demandSetNow_iff (s : State) :
    demandSetNow s = true ↔
      isolatedNow s = true ∨ isolatedNow s = false ∧ (quantityOf s 3).validity ≠ .invalid ∧
        (quantityOf s 1).validity ≠ .invalid ∧ (quantityOf s 2).validity ≠ .invalid := by
  have inlet : (exchangeInputs s).inlet.isSome = true ↔ (quantityOf s 3).validity ≠ .invalid := by
    simp [exchangeInputs, usableValue_eq]
  rw [demandSetNow, demandComputed, Bool.or_eq_true, Bool.and_eq_true, inlet, heatComputed_iff]
  cases isolatedNow s <;> simp [and_comm]

theorem publishesNow_iff (s : State) :
    publishesNow s = true ↔ isolatedNow s ≠ s.xcp.isolated ∨
      (demandSetNow s = true ∧ ∀ d, s.frh.lastDemand = some d → s.settings.demandStep ≤ distance (xcpNow s).demand d) := by
  rw [publishesNow, Bool.or_eq_true, bne_iff_ne, Bool.and_eq_true, publishDue_iff]

/-! ### The obligation -/

/-- A SERVING station with its inputs usable, S_mix inside the table and D_x inside its limit ends its tick with no firing,
and publishes by the step test (R159 to R163). -/
theorem exchangeTick_serving {supplyReturn flow inlet : Int} (hi : s.xcp.isolated = false)
    (h1 : usableValue s 1 = some supplyReturn) (h2 : usableValue s 2 = some flow) (h3 : usableValue s 3 = some inlet)
    (hs : outsideTable s.settings.table (mixNow s) = false) (hd : (s.settings.minimumDrop : Int) ≤ inlet - outletNow s) :
    let u := brineFlow s.settings (heatOf s.settings supplyReturn flow) (inlet - outletNow s)
    u ≤ s.settings.exchangeLimit →
      demandTick s = setXcp
        { sMix := mixNow s, tSat := lookup s.settings.table (mixNow s), tBoMin := outletNow s, isolated := false
          heat := heatOf s.settings supplyReturn flow, demand := u } s ∧
      heatComputed (exchangeInputs s) = true ∧ demandSetNow s = true ∧
      publishesNow s = publishDue u s.frh.lastDemand s.settings.demandStep := by
  intro u hu
  have drop : dropNow s = some (inlet - outletNow s) := by simp [dropNow, h3]
  have isolated : isolatedNow s = false := by simp [isolatedNow, drop, isolationAfter, hi, hd]
  have heat : heatNow s = heatOf s.settings supplyReturn flow := by simp [heatNow, heatAfter, h1, h2]
  have computed : heatComputed (exchangeInputs s) = true := by simp [heatComputed, exchangeInputs, h1, h2]
  have brine : flowNow s = some u := by simp [flowNow, computed, drop, heat, u]
  have demand : (xcpNow s).demand = u := by simp [xcpNow, clampedFlow, isolated, brine, hu]
  have set : demandSetNow s = true := by
    simp [demandSetNow, demandComputed, computed, show (exchangeInputs s).inlet = some inlet from h3]
  refine ⟨?_, computed, set, by simp [publishesNow, isolated, hi, set, demand]⟩
  rw [demandTick_quiet (by simp [rangeFirings, hs]) (by simp [demandFirings, flowFirings, isolated, brine, hu])]
  rw [← demand, ← heat, ← isolated]
  rfl

/-- Settles O47: what a tick computes, its firings, then the DEMAND and the quantities. -/
theorem exchangeTickComputesDemand : Obligations.ExchangeTickComputesDemand := by
  refine ⟨fun c heat drop hd hc => brineFlow_least c heat hd hc, ?_, ?_, ?_⟩
  · intro s supplyReturn flow inlet hw hr hi hflow h1 h2 h3 sMix tSat tBoMin drop heat u hs hd hu
    have mix : mixNow s = sMix := if_pos hflow
    have outlet : outletNow s = tBoMin := by rw [outletNow, mix]
    have tick := exchangeShare_ends hr
    obtain ⟨computes, heats, sets, publishes⟩ := exchangeTick_serving hi h1 h2 h3 (by rwa [mix]) (by rwa [outlet])
      (by rw [outlet]; exact hu)
    have xcp : xcpNow s =
        { sMix := sMix, tSat := tSat, tBoMin := tBoMin, isolated := false, heat := heat, demand := u } := by
      rw [← (demandTick_keeps s).1, computes, mix, outlet]
      rfl
    rw [outlet] at publishes
    refine ⟨_, exec_shareTick_exchange hw hr, ?_, ?_, ?_, ?_, ?_, ?_, tick.others, fun d hl hstep => ?_, fun hk hstep => ?_⟩
    · refine tick.frame.trans ?_
      rw [computes, mix, outlet]
      rfl
    · rw [tick.mix, xcp, if_pos hflow]
    · rw [tick.saturation, xcp, if_pos hflow]
    · rw [tick.outlet, xcp, if_pos hflow]
    · rw [tick.heat, xcp, if_pos heats]
    · rw [tick.demand, xcp, if_pos sets]
    · have due : publishesNow s = false := by
        rw [publishes, hl]
        exact decide_eq_false (Nat.not_le.mpr hstep)
      have same := tick.stands (.inl due)
      rwa [computes] at same
    · have published := tick.publishes (publishes.trans ((publishDue_iff _ _ _).mpr hstep)) hk
      rwa [xcp] at published
  · intro s inlet hw hr hi h3 sMix tBoMin hd
    have tick := exchangeShare_ends hr
    have drop : dropNow s = some (inlet - tBoMin) := by
      rw [dropNow, h3]
      rfl
    have isolated : isolatedNow s = true := by simp [isolatedNow, drop, isolationAfter, hi, hd]
    have demand : (xcpNow s).demand = 0 := by simp [xcpNow, clampedFlow, isolated]
    have xcp : (exchangeShare s).xcp = xcpNow s := (congrArg State.xcp tick.frame).trans (demandTick_keeps s).1
    refine ⟨_, exec_shareTick_exchange hw hr, ?_, fun hk => ?_⟩
    · rw [xcp, ← isolated, ← demand]
      rfl
    · have published := tick.publishes (by simp [publishesNow, isolated, hi]) hk
      rwa [demand] at published
  · intro s hw hr hc sMix tSat tBoMin heatInputs inlet drop least isolated lift heat u computes demand ranged fired publishes
      mixed held
    have tick := exchangeShare_ends hr
    have isolated_eq : isolatedNow s = isolated := isolatedNow_eq s
    have heat_eq : heatNow s = heat := heatNow_eq s
    have flow_eq : flowNow s = if inlet ∧ heatInputs then some u else none := by
      simp only [flowNow_eq, heatComputed_iff, heat_eq]
      rfl
    have demand_eq : (xcpNow s).demand = demand := by
      rw [xcpNow, isolated_eq, flow_eq]
      exact clampedFlow_eq s.settings isolated (inlet ∧ heatInputs) u s.xcp.demand
    have fired_eq : enqueueAll (demandFirings s) (enqueueAll (rangeFirings s) s) = fired := by
      rw [enqueueAll_rangeFirings, demandFirings, isolated_eq, flow_eq, enqueueAll_flowFirings, noMarginDetail_dropNow]
      rfl
    have sets : demandSetNow s = true ↔ isolated = true ∨ computes := by
      rw [demandSetNow_iff, isolated_eq]
    have xcp : xcpNow s =
        { sMix := sMix, tSat := tSat, tBoMin := tBoMin, isolated := isolated, heat := heat, demand := demand } := by
      rw [← demand_eq, ← isolated_eq, ← heat_eq]
      rfl
    have publishes_iff : publishesNow s = true ↔ publishes := by
      rw [publishesNow_iff, sets, demand_eq, isolated_eq]
    have computes_eq := demandTick_unbound hc
    rw [xcp, fired_eq] at computes_eq
    refine ⟨_, exec_shareTick_exchange hw hr, ?_, fun h => ?_, fun hp hk => ?_, ?_, ?_, ?_, ?_, ?_, tick.others⟩
    · refine tick.frame.trans ?_
      rw [computes_eq]
    · have same := tick.stands (h.imp_left fun hp => Bool.eq_false_iff.mpr (hp ∘ publishes_iff.mp))
      rwa [computes_eq] at same
    · rw [← demand_eq]
      exact tick.publishes (publishes_iff.mpr hp) hk
    · rw [tick.mix, xcp]
    · rw [tick.saturation, xcp]
    · rw [tick.outlet, xcp]
    · rw [tick.heat, xcp]
      exact if_congr (heatComputed_iff s) rfl rfl
    · rw [tick.demand, xcp]
      exact if_congr sets rfl rfl

end Sys2Proof.Machine
end

section
/-! SUPPORT. The sums of the peer view (R51 to R56), and law 10 (R1, R49). -/

namespace Sys2Proof.Machine

variable {s s' : State} {r : PeerRow}

/-! ### The rows of the view (R51 to R56) -/

theorem Condition.heard_iff (c : Condition) : c.heard = true ↔ c = .fresh ∨ c = .stale := by
  cases c <;> simp [Condition.heard]

theorem Condition.heard_eq (c : Condition) : c.heard = (c == .fresh || c == .stale) := by
  cases c <;> rfl

/-- Settles O24: a row that contributes is heard, is of the right role, and holds a demand. -/
theorem rowContributes : Obligations.RowContributes := by
  intro r d
  unfold contribution
  split
  · rename_i h
    obtain ⟨hheard, hrole⟩ : r.condition.heard = true ∧ (r.role = some .turbine ∨ r.role = some .exchange) := by
      simpa using h
    rw [Option.bind_eq_some_iff, ← r.condition.heard_iff]
    simp only [hheard, hrole, true_and]
  · rename_i h
    have silent : ¬ ((r.role = some .turbine ∨ r.role = some .exchange) ∧ r.condition.heard = true) := by
      simpa [and_comm] using h
    rw [← r.condition.heard_iff]
    exact iff_of_false (by simp) fun ⟨hrole, hheard, _⟩ => silent ⟨hrole, hheard⟩

/-- The rows of the view, station 0 first. -/
theorem rows_toList (s : State) : s.pvw.rows.toList = (List.range 32).map (rowOf s) := by
  refine List.ext_getElem (by simp) fun n hn _ => ?_
  have hn : n < 32 := by simpa using hn
  simp [rowOf, slotGet, hn]

/-- The well part of a row, with nothing valid in an absent one. -/
def wellOf (r : PeerRow) : WellPart := r.well.getD { duty := none, capacity := none, flow := none, silica := none }

/-- A row is counted when it is a WELL row, heard, in ON, ASKING or REFUSED (R51). -/
theorem counted_eq (r : PeerRow) :
    counted r = (r.role == some .well && (r.condition == .fresh || r.condition == .stale) &&
      ((wellOf r).duty == some .on || (wellOf r).duty == some .asking || (wellOf r).duty == some .refused)) := by
  rw [counted, Condition.heard_eq]
  congr 1
  unfold wellOf
  cases r.well with
  | none => rfl
  | some w =>
    obtain ⟨duty, _, _, _⟩ := w
    cases duty with
    | none => rfl
    | some d => cases d <;> rfl

/-- The capacity a row adds is that of its well part (R54). -/
theorem rowCapacity_eq (r : PeerRow) : rowCapacity r = (wellOf r).capacity.getD 0 := by
  unfold rowCapacity wellOf
  cases r.well <;> rfl

/-- The silica pair of a row: the F and S of a counted row that holds both (R55). -/
theorem silicaPair_eq (r : PeerRow) :
    silicaPair r = if (counted r && (wellOf r).flow.isSome && (wellOf r).silica.isSome) = true
      then some ((wellOf r).flow.getD 0, (wellOf r).silica.getD 0) else none := by
  unfold silicaPair wellOf
  cases hc : counted r with
  | false => simp
  | true =>
    cases r.well with
    | none => simp
    | some w => obtain ⟨_, _, flow, silica⟩ := w; cases flow <;> cases silica <;> simp

/-- A row sets the peer-starting flag when it is a WELL row, heard, in STARTING (R56). -/
theorem startingRow_iff (r : PeerRow) :
    startingRow r = true ↔
      r.role = some .well ∧ (r.condition == .fresh || r.condition == .stale) = true ∧ (wellOf r).duty = some .starting := by
  have duty : r.well.bind (·.duty) = (wellOf r).duty := by
    unfold wellOf
    cases r.well <;> rfl
  rw [← Condition.heard_eq]
  simp [startingRow, duty, and_assoc]

/-! A row that is not heard is nothing to any sum of the view (R1, R49). -/

theorem contribution_unheard (h : r.condition.heard = false) : contribution r = none := by simp [contribution, h]

theorem counted_unheard (h : r.condition.heard = false) : counted r = false := by simp [counted, h]

theorem silicaPair_unheard (h : r.condition.heard = false) : silicaPair r = none := by
  simp [silicaPair, counted_unheard h]

theorem startingRow_unheard (h : r.condition.heard = false) : startingRow r = false := by simp [startingRow, h]

/-- The views differ in rows alone that are heard in neither. -/
def HeardAlike (s s' : State) : Prop :=
  ∀ n, n < 32 → rowOf s n = rowOf s' n ∨ ((rowOf s n).condition.heard = false ∧ (rowOf s' n).condition.heard = false)

/-- What is the same for every row that is not heard reads the same off both views. -/
theorem HeardAlike.map_eq {α : Type} (h : HeardAlike s s') {f : PeerRow → α} {a : α}
    (hf : ∀ r : PeerRow, r.condition.heard = false → f r = a) :
    s.pvw.rows.toList.map f = s'.pvw.rows.toList.map f := by
  simp only [rows_toList, List.map_map]
  refine List.map_congr_left fun n hn => ?_
  obtain same | ⟨hs, hs'⟩ := h n (List.mem_range.mp hn)
  · exact congrArg f same
  · exact (hf _ hs).trans (hf _ hs').symm

/-- Law 10 (R1, R49): what is heard alike sums alike. -/
theorem HeardAlike.sums_eq (h : HeardAlike s s') :
    fieldDemand s = fieldDemand s' ∧ peerCapacity s = peerCapacity s' ∧ silicaFlowSum s = silicaFlowSum s' ∧
      flowSum s = flowSum s' ∧ peerStarting s = peerStarting s' := by
  refine ⟨congrArg List.sum (h.map_eq (a := 0) fun r hr => ?_), congrArg List.sum (h.map_eq (a := 0) fun r hr => ?_),
    congrArg List.sum (h.map_eq (a := 0) fun r hr => ?_), congrArg List.sum (h.map_eq (a := 0) fun r hr => ?_), ?_⟩
  · simp [contribution_unheard hr]
  · simp [counted_unheard hr]
  · simp [silicaPair_unheard hr]
  · simp [silicaPair_unheard hr]
  · have flags := h.map_eq fun r hr => startingRow_unheard hr
    simpa [peerStarting, List.any_map] using congrArg (·.any id) flags

/-- A sum over the rows is a sum over the station numbers. -/
theorem rows_sum (f : PeerRow → Nat) (s : State) :
    (s.pvw.rows.toList.map f).sum = ((List.range 32).map fun n => f (rowOf s n)).sum := by
  rw [rows_toList, List.map_map]
  rfl

/-- Settles O25: each sum row by row, and law 10 from the rows that are not heard. -/
theorem sumsFollowTheRows : Obligations.SumsFollowTheRows := by
  refine ⟨?_, fun s s' h => ?_⟩
  · intro s sum heard well running both
    have counts (r : PeerRow) : counted r = running r := counted_eq r
    have pairs (r : PeerRow) : silicaPair r = if both r then some ((well r).flow.getD 0, (well r).silica.getD 0) else none := by
      rw [silicaPair_eq, counts]
      rfl
    have sums {f g : PeerRow → Nat} (h : ∀ r, f r = g r) : (s.pvw.rows.toList.map f).sum = sum g := by
      rw [funext h]
      exact rows_sum g s
    rw [fieldDemand, peerCapacity, silicaFlowSum, flowSum]
    clear_value sum
    refine ⟨sums fun _ => rfl, sums fun r => ?_, sums fun r => ?_, sums fun r => ?_, ?_⟩
    · rw [counts, rowCapacity_eq]
      rfl
    · rw [pairs]
      cases both r <;> rfl
    · rw [pairs]
      cases both r <;> rfl
    · rw [peerStarting, rows_toList, List.any_map, List.any_eq_true]
      simp only [List.mem_range, Function.comp_apply, startingRow_iff]
      rfl
  · refine HeardAlike.sums_eq fun n hn => (h n hn).imp_right fun ⟨hf, hs, hf', hs'⟩ => ?_
    simp only [← Bool.not_eq_true, Condition.heard_iff, not_or]
    exact ⟨⟨hf, hs⟩, hf', hs'⟩

end Sys2Proof.Machine
end

section
/-! SUPPORT. READ_ROW, READ_QUANTITY and READ_CHANNEL (R57, R75, R76, R187, R195). -/

namespace Sys2Proof.Machine

variable {s : State} {a : Octet}

/-! ### Responses (R186, R187, R195) -/

/-- An answer whose content fills its response. -/
theorem answer_full {n : Nat} {content : List Octet} (r : Result) (h : content.length + 1 = n) (s : State) :
    answer n r content s = respond (octetOf r.code :: content) .nothing s := by
  rw [answer, responseOctets, List.take_left' (by simpa using h)]

/-- An answer without content carries zeros after its result. -/
theorem answer_zeros (n : Nat) (r : Result) (s : State) :
    answer (n + 1) r [] s = respond (octetOf r.code :: List.replicate n 0) .nothing s := by
  simp [answer, responseOctets]

/-- Outside OFFLINE every command but REST is served (R187). -/
theorem ifServed_online {code : Octet} (n : Nat) (owner : State → State) (hl : s.frh.lineState ≠ .offline)
    (hc : code ≠ 0x10) : ifServed code n s owner = owner s := by
  refine if_pos ?_
  cases h : s.frh.lineState <;> simp_all [served]

/-- READ ROW and READ CHANNEL are refused in OFFLINE, and go to their rules elsewhere (R187). -/
theorem ifServed_read {code : Octet} (n : Nat) (owner : State → State) (s : State) (hc : code = 0x03 ∨ code = 0x05) :
    ifServed code n s owner = if s.frh.lineState = .offline then answer n .refusedState [] s else owner s := by
  split
  · rename_i hl
    refine if_neg ?_
    rw [hl]
    obtain rfl | rfl := hc <;> decide
  · rename_i hl
    exact ifServed_online n owner hl (by obtain rfl | rfl := hc <;> decide)

/-- READ QUANTITY is served in every line state (R187). -/
theorem ifServed_readQuantity (n : Nat) (owner : State → State) : ifServed 0x04 n s owner = owner s := by
  refine if_pos ?_
  cases s.frh.lineState <;> rfl

/-! ### Contents (R195) -/

theorem length_wellOctets (w : Option WellPart) : (wellOctets w).length = 7 := by
  cases w <;> rfl

theorem length_demandOctets (d : Option DemandPart) : (demandOctets d).length = 3 := by
  cases d <;> rfl

theorem length_rowContent (r : PeerRow) : (rowContent r).length = 15 := by
  simp [rowContent, length_wellOctets, length_demandOctets]

theorem length_quantityContent (kind : QuantityKind) (q : Quantity) : (quantityContent kind q).length = 7 := rfl

theorem length_channelContent (s : State) (channel : Nat) : (channelContent s channel).length = 9 := rfl

/-! ### The reads (R57, R75, R76) -/

/-- READ ROW answers the row of another station, and has no row outside 0 to 31 nor for the own number (R57). -/
theorem takeReadRow_eq (a : Octet) (s : State) :
    takeReadRow a s =
      if s.frh.lineState = .offline then respond (1 :: List.replicate 15 0) .nothing s
      else if 31 < a.toNat ∨ a.toNat = ownNumber s then respond (3 :: List.replicate 15 0) .nothing s
      else respond (0 :: rowContent (rowOf s a.toNat)) .nothing s := by
  rw [takeReadRow, ifServed_read _ _ s (.inl rfl), answer_zeros, answer_zeros, answer_full _ (by rw [length_rowContent])]
  rfl

/-- READ QUANTITY answers a quantity of the role's table (R75). -/
theorem takeReadQuantity_eq (a : Octet) (s : State) :
    takeReadQuantity a s =
      if a.toNat < quantityCount (roleOf s) then
        respond (0 :: quantityContent (quantityKind (roleOf s) a.toNat) (quantityOf s a.toNat)) .nothing s
      else respond (3 :: List.replicate 7 0) .nothing s := by
  rw [takeReadQuantity, ifServed_readQuantity, answer_zeros, answer_full _ (by rw [length_quantityContent])]
  rfl

/-- READ CHANNEL answers the latch of a channel from 0 to 7 (R76). -/
theorem takeReadChannel_eq (a : Octet) (s : State) :
    takeReadChannel a s =
      if s.frh.lineState = .offline then respond (1 :: List.replicate 9 0) .nothing s
      else if 7 < a.toNat then respond (3 :: List.replicate 9 0) .nothing s
      else respond (0 :: channelContent s a.toNat) .nothing s := by
  rw [takeReadChannel, ifServed_read _ _ s (.inr rfl), answer_zeros, answer_zeros,
    answer_full _ (by rw [length_channelContent])]
  rfl

/-- Settles O56: the three reads, each with its response alone. -/
theorem readsChangeNothing : Obligations.ReadsChangeNothing := by
  intro s a offline answered two
  refine ⟨fun ht => ?_, fun ht => ?_, fun ht => ?_⟩
  · refine (congrArg Host.Outcome.next ((if_pos ht).trans (takeReadRow_eq a s))).trans ?_
    split_ifs <;> rfl
  · refine (congrArg Host.Outcome.next ((if_pos ht).trans (takeReadQuantity_eq a s))).trans ?_
    split <;> rfl
  · refine (congrArg Host.Outcome.next ((if_pos ht).trans (takeReadChannel_eq a s))).trans ?_
    split_ifs <;> rfl

end Sys2Proof.Machine
end

section
/-! SUPPORT. RESTART (R30, R50, R111, R131, R181, R189). -/

namespace Sys2Proof.Machine

variable {s t : State}

/-! ### Outside ACTIVE nothing is handed to the transmit side (R34) -/

theorem enterStateFrame_lif (hl : s.frh.lineState ≠ .active) : (enterStateFrame s).lif = s.lif := by
  unfold enterStateFrame
  dsimp only
  split
  · rw [select_stands]
    exact .inl hl
  · rfl

theorem capacityChanged_lif (hl : s.frh.lineState ≠ .active) : (capacityChanged s).lif = s.lif := by
  have written : (writeQuantity 5 .valid (cOwn s) s).frh.lineState ≠ .active := by simpa using hl
  unfold capacityChanged
  dsimp only
  split <;> simp [enterStateFrame_lif written]

theorem moveDerate_lif (total quiet : Nat) (hl : s.frh.lineState ≠ .active) : (moveDerate total quiet s).lif = s.lif := by
  unfold moveDerate
  dsimp only
  split
  · rfl
  · exact capacityChanged_lif hl

theorem channelAction_lif (m : Mode) (hl : s.frh.lineState ≠ .active) : (channelAction m s).lif = s.lif := by
  cases m with
  | derate => exact moveDerate_lif _ _ hl
  | pulse0 | pulse1 | count => rfl

theorem offer_lif (f : Firing) (hl : s.frh.lineState ≠ .active) : (offer f s).lif = s.lif := by
  unfold offer
  split
  · rename_i n _
    unfold channelActs
    dsimp only
    split <;> simp [channelAction_lif _ hl]
  · simp

/-! ### A change of duty: its STATE, and the return from ASKING to ON (R31, R38, R102, R111) -/

/-- Where entries are kept, a change of duty leaves a STATE of the new duty in its slot (R31, R102). -/
theorem takeDuty_statePublished (new : Duty) (cause : List Firing) (hk : keepsEntries s = true) :
    statePublished new (takeDuty new cause s) := by
  let u := offerAll (dutyChange new s.dtu.duty :: cause) (enterDuty new s)
  have kept : keepsEntries u = true := by simpa [u, keepsEntries] using hk
  have duty : u.dtu.duty = new := by simp [u, enterDuty_duty]
  have frh : (takeDuty new cause s).frh = (enterStateFrame u).frh := by
    unfold takeDuty
    dsimp only
    split <;> simp [u]
  obtain ⟨slot, -⟩ := enterStateFrame_keeps_entry u kept
  exact ⟨_, _, _, _, by rw [frh, slot], by rw [← duty]; rfl, rfl⟩

/-- The station back in ON, with what the change of duty does to the drive (R111). -/
def backOn (s : State) : State := { s with dtu := { s.dtu with duty := .on, recallTimer := .stopped } }

/-- The return from ASKING to ON: DUTY_CHANGE, the STATE, no setpoint word, and the ask ends (R102, R111, R131). -/
theorem takeDuty_backOn (h : s.dtu.duty = .asking) :
    takeDuty .on [] s = setAsk .idle (enterStateFrame (offer (dutyChange .on .asking) (backOn s))) := by
  let u := enterStateFrame (offer (dutyChange .on .asking) (backOn s))
  have entered : enterDuty .on s = backOn s := by simp [enterDuty, backOn, h]
  have duty : u.dtu.duty = .on := by simp [u, backOn]
  calc takeDuty .on [] s
      = testRecall (setAsk .idle u) := by simp [takeDuty, entered, h, tellNegotiator, offerAll, backOn, u]
    _ = setAsk .idle u := if_neg (by simp [duty])

/-- What the return to ON may change where the line is not ACTIVE (R81, R102, R111). -/
theorem takeDuty_backOn_frame (h : s.dtu.duty = .asking) (hl : s.frh.lineState ≠ .active) :
    takeDuty .on [] s = { s with
      evu := (takeDuty .on [] s).evu, msu := { s.msu with quantities := (takeDuty .on [] s).msu.quantities }
      rng := { s.rng with ask := .idle }
      frh := { s.frh with
        outbox := { s.frh.outbox with stateReport := (takeDuty .on [] s).frh.outbox.stateReport }
        lastC := (takeDuty .on [] s).frh.lastC }
      dtu := { s.dtu with
        duty := .on, target := (takeDuty .on [] s).dtu.target, derateTotal := (takeDuty .on [] s).dtu.derateTotal
        quietCount := (takeDuty .on [] s).dtu.quietCount, recallTimer := (takeDuty .on [] s).dtu.recallTimer } } := by
  have offered : (offer (dutyChange .on .asking) (backOn s)).lif = s.lif := offer_lif _ hl
  have lif : (takeDuty .on [] s).lif = s.lif := by
    rw [takeDuty_backOn h, setAsk_lif, enterStateFrame_lif (by simpa [backOn] using hl), offered]
  have rng : (takeDuty .on [] s).rng = { s.rng with ask := .idle } := by
    rw [takeDuty_backOn h]
    ext1 <;> simp [backOn]
  have dtu : (takeDuty .on [] s).dtu.normalTarget = s.dtu.normalTarget := by
    rw [takeDuty_backOn h]
    simp [backOn]
  obtain ⟨setpoint, runReq, startTimer, warmTimer, stopTimer, setpt⟩ :=
    takeDuty_runs_on .on [] s (.inr (.inr (.inr ⟨rfl, by simp [h]⟩)))
  ext1
  case lif => exact lif
  case rng => exact rng
  case msu => ext1 <;> simp
  case frh =>
    ext1
    case outbox => ext1 <;> simp
    all_goals simp
  case dtu => ext1 <;> simp [*]
  all_goals simp

/-- The target of the station back in ON stands, or comes down to what derate steps left (R81, R111). -/
theorem takeDuty_backOn_target (h : s.dtu.duty = .asking) : targetLowered s (takeDuty .on [] s) := by
  rw [takeDuty_backOn h]
  have calm := (offer_calm (dutyChange .on .asking) (backOn s)).target
  have ceiling : capacityCeiling (setAsk .idle (enterStateFrame (offer (dutyChange .on .asking) (backOn s)))) =
      capacityCeiling (offer (dutyChange .on .asking) (backOn s)) := by simp [capacityCeiling, cOwn]
  rw [targetLowered, ceiling]
  exact calm.imp (fun ⟨same, _⟩ => by simpa [backOn] using same) fun ⟨_, lowered⟩ => by simpa [backOn] using lowered

/-! ### RESTART outside OFFLINE (R30, R50, R131, R189) -/

/-- The view clear is a view of empty rows, but for the role of the trip set in a WELL station, and the recall test (R50). -/
theorem rowOf_clearView (s : State) {n : Nat} (hn : n < 32) :
    rowOf (clearView s) n =
      { PeerRow.empty with role := if hasRole s .well = true ∧ inTripSet s n = true then some .turbine else none } := by
  unfold clearView
  dsimp only
  rw [rowOf_congr (noticeView_pvw _)]
  simp only [rowOf, slotGet_slotMap (d := PeerRow.empty) (h := hn), Bool.and_eq_true]
  split <;> rfl

/-- The station of a RESTART that has entered JOINING, before it leaves ASKING. -/
def rejoined (s : State) : State := enterJoining (clearView (setGrants [] (setAsk .idle s)))

theorem rejoined_eq (s : State) :
    rejoined s = { s with
      pvw := (rejoined s).pvw, rng := { s.rng with ask := .idle, grants := [] }
      lif := { s.lif with tx := cutTx s.lif.tx }
      frh := { s.frh with
        lineState := .joining, joinTimer := .running (3 * s.settings.refreshPeriod), inFlight := none
        outbox := Outbox.empty, lastC := none, lastDemand := none }
      dtu := { s.dtu with recallTimer := (rejoined s).dtu.recallTimer } } := by
  have joins : rejoined s = _ := enterJoining_idle (s := clearView (setGrants [] (setAsk .idle s))) (by simp)
  rw [joins]
  ext1
  case dtu => ext1 <;> simp
  case rng => ext1 <;> simp
  all_goals simp [emptied, joinPeriod]

/-- The view of a station that RESTART brings to JOINING is clear (R50). -/
theorem rowOf_rejoined (s : State) {n : Nat} (hn : n < 32) :
    rowOf (rejoined s) n =
      { PeerRow.empty with role := if hasRole s .well = true ∧ inTripSet s n = true then some .turbine else none } := by
  rw [rowOf_congr (t := clearView (setGrants [] (setAsk .idle s))) (by simp [rejoined]), rowOf_clearView _ hn]
  rfl

/-- The recall timer of RESTING stops, since JOINING recalls no station (R104). -/
theorem rejoined_resting (hw : hasRole s .well = true) (hd : s.dtu.duty = .resting) :
    (rejoined s).dtu.recallTimer = .stopped := by
  have resting : hasRole (clearView (setGrants [] (setAsk .idle s))) .well = true ∧
      (clearView (setGrants [] (setAsk .idle s))).dtu.duty = .resting := by simpa [hasRole, roleOf, hd] using hw
  rw [rejoined, enterJoining_idle (by simp), if_pos resting]
  rfl

/-- A taken RESTART is answered DONE, behind the load or the start on the line that it begins (R189). -/
theorem exec_restart (sn : BitVec 5) (role : BitVec 2) (stop : Bool) (ht : takeable 0x1F s = true) :
    exec (.restart sn role stop) s = .next (respond [0] .nothing
      (if s.frh.lineState = .offline then restartOffline sn role stop s else restartOnline s)) :=
  congrArg Host.Outcome.next (if_pos ht)

/-- What RESTART leaves outside OFFLINE, but for its answer (R30, R50, R111, R131, R189). -/
structure Rejoins (s t : State) : Prop where
  frame : t = { s with
    pvw := t.pvw, evu := t.evu, msu := { s.msu with quantities := t.msu.quantities }
    rng := { s.rng with ask := .idle, grants := [] }
    lif := { s.lif with tx := cutTx s.lif.tx }
    frh := { s.frh with
      lineState := .joining, joinTimer := .running (3 * s.settings.refreshPeriod), inFlight := none
      outbox := { Outbox.empty with stateReport := t.frh.outbox.stateReport }, lastC := t.frh.lastC
      lastDemand := none }
    dtu := { s.dtu with
      duty := if s.dtu.duty = .asking then .on else s.dtu.duty, target := t.dtu.target
      derateTotal := t.dtu.derateTotal, quietCount := t.dtu.quietCount, recallTimer := t.dtu.recallTimer } }
  rows : t.pvw = (rejoined s).pvw
  resting : hasRole s .well = true → s.dtu.duty = .resting → t.dtu.recallTimer = .stopped
  asking : s.dtu.duty = .asking → statePublished .on t ∧ targetLowered s t
  calm : s.dtu.duty ≠ .asking →
    t.evu = s.evu ∧ t.msu = s.msu ∧ t.dtu.target = s.dtu.target ∧ t.dtu.derateTotal = s.dtu.derateTotal ∧
      t.frh.outbox.stateReport = none ∧ t.frh.lastC = none

/-- A station that does not ask has rejoined, and that is all. -/
theorem rejoined_rejoins (h : s.dtu.duty ≠ .asking) : Rejoins s (rejoined s) := by
  have joined := rejoined_eq s
  generalize ht : rejoined s = t at joined
  refine ⟨?_, by rw [ht], fun hw hd => ?_, fun ha => absurd ha h, fun _ => ?_⟩
  · rw [if_neg h, joined]
  · rw [← ht, rejoined_resting hw hd]
  · rw [joined]
    exact ⟨rfl, rfl, rfl, rfl, rfl, rfl⟩

/-- A station that asks returns to ON behind its entry to JOINING (R111, R131). -/
theorem backOn_rejoins (h : s.dtu.duty = .asking) : Rejoins s (takeDuty .on [] (rejoined s)) := by
  have joined := rejoined_eq s
  generalize ht : rejoined s = j at joined
  have duty : j.dtu.duty = .asking := by rw [joined]; exact h
  have line : j.frh.lineState = .joining := by rw [joined]
  have back := takeDuty_backOn_frame duty (by simp [line])
  have published := takeDuty_statePublished .on [] (s := j) (by simp [keepsEntries, line])
  have lowered := takeDuty_backOn_target duty
  generalize takeDuty .on [] j = t at back published lowered
  refine ⟨?_, by rw [ht, back], fun _ hd => by simp [h] at hd, fun _ => ⟨published, ?_⟩, fun hn => absurd h hn⟩
  · have pvw : t.pvw = j.pvw := by rw [back]
    rw [if_pos h, pvw]
    exact back.trans (by rw [joined])
  · have target : j.dtu.target = s.dtu.target := by rw [joined]
    rwa [targetLowered, target] at lowered

theorem restartOnline_rejoins (s : State) : Rejoins s (restartOnline s) := by
  have duty : (rejoined s).dtu.duty = s.dtu.duty := by rw [rejoined_eq]
  by_cases h : s.dtu.duty = .asking
  · have back : restartOnline s = takeDuty .on [] (rejoined s) := if_pos (duty.trans h)
    exact back ▸ backOn_rejoins h
  · have stays : restartOnline s = rejoined s := if_neg (duty ▸ h)
    exact stays ▸ rejoined_rejoins h

/-! ### RESTART in OFFLINE (R181, R189) -/

/-- What the bus still finishes of an old transfer, and the phase it stands in: nothing of a start not yet made, a stop being made,
or the symbol being clocked and then a stop where CSDA allows it (R189). -/
def busEnding (stop : Bool) (bus : List BusSymbol) (phase : Nat) : List BusSymbol × Nat :=
  match bus, phase with
  | [], _ => ([], 0)
  | .start :: _, 0 => ([], 0)
  | .stop :: _, k => ([.stop], k)
  | b :: _, k => (if stop then [b, .stop] else [b], k)

theorem endTransfer_eq (stop : Bool) (l : Loader) :
    endTransfer stop l = { l with bus := (busEnding stop l.bus l.busAt).1, busAt := (busEnding stop l.bus l.busAt).2 } := by
  obtain ⟨_, _, _, _, _, _, _, _, _, _, _, bus, phase⟩ := l
  unfold endTransfer busEnding
  cases bus with
  | nil => rfl
  | cons b rest => cases b <;> cases phase <;> cases stop <;> rfl

theorem restartOffline_eq (sn : BitVec 5) (role : BitVec 2) (stop : Bool) (s : State) :
    restartOffline sn role stop s =
      { s with
        pins := { s.pins with sn := sn, roleStrap := role, stopPossible := stop }
        stl := {
          bus := (busEnding stop s.stl.bus s.stl.busAt).1 ++ (if role = 3 then [] else transferSymbols 0)
          busAt := (busEnding stop s.stl.bus s.stl.busAt).2
          loadState := if role = 3 then .faulted else .reading, faultCode := if role = 3 then 1 else 0, station := sn
          roleCode := role, clamped := 0, transfer := 0, failedTries := 0, waitDue := false, retryWait := .stopped, image := []
          stopSent := if tryUnderWay s then stop else s.stl.stopSent } } := by
  have try_stands : tryUnderWay { s with pins := { s.pins with stopPossible := stop } } = tryUnderWay s := rfl
  unfold restartOffline
  simp only [try_stands, endTransfer_eq]
  by_cases hr : role = 3
  · simp only [beginLoad, if_pos hr]
    cases tryUnderWay s <;> rfl
  · simp only [beginLoad, if_neg hr]
    cases tryUnderWay s <;> rfl

/-- Settles O60: the load begun again, and the new start on the line. -/
theorem restartKeepsThePlant : Obligations.RestartKeepsThePlant := by
  intro sn role stop s ht done ending
  refine ⟨fun hl => ?_, fun hl => ?_⟩
  · rw [exec_restart sn role stop ht, if_pos hl, restartOffline_eq]
    rfl
  · have restarts := exec_restart sn role stop ht
    rw [if_neg hl] at restarts
    have rejoins := restartOnline_rejoins s
    generalize restartOnline s = t at restarts rejoins
    obtain ⟨frame, rows, resting, asking, calm⟩ := rejoins
    refine ⟨respond [0] .nothing t, restarts, congrArg (respond [0] .nothing) frame, fun n hn => ?_, resting, asking, calm⟩
    exact (rowOf_congr rows).trans (rowOf_rejoined s hn)

end Sys2Proof.Machine
end

section
/-! SUPPORT. The sample link: words gathered, latched and rejected (R58 to R61). -/

namespace Sys2Proof.Machine

variable {s : State}

/-! ### The commands of the link -/

/-- SAMPLE_OCTET gathers its octet unless the receiver waits for a high level (R58, R59). -/
theorem exec_sampleOctet (octet : Octet) (hw : works s = true) (ha : s.msu.awaitHigh = false) :
    exec (.sampleOctet octet) s = .next (gatherOctet octet s) := by
  simp [exec, execSampleOctet, hw, ha]

/-- An octet joins a word that it does not complete (R59). -/
theorem gatherOctet_joins (octet : Octet) (h : s.msu.gathered.length < 3) :
    gatherOctet octet s =
      { s with msu := { s.msu with idleReached := false, gathered := s.msu.gathered ++ [octet] } } := by
  unfold gatherOctet
  dsimp only
  split
  case h_1 full => simp [full] at h
  case h_2 => rfl

/-- The link between two words. -/
def wordTaken (s : State) : State := { s with msu := { s.msu with idleReached := false, gathered := [] } }

/-- The fourth octet completes the word (R59). -/
theorem gatherOctet_completes (octet : Octet) {c lo hi : Octet} (h : s.msu.gathered = [c, lo, hi]) :
    gatherOctet octet s = sampleWord c lo hi octet (wordTaken s) := by
  simp only [gatherOctet, h]
  rfl

theorem exec_fourthOctet {check c lo hi : Octet} (hw : works s = true) (ha : s.msu.awaitHigh = false)
    (h : s.msu.gathered = [c, lo, hi]) :
    exec (.sampleOctet check) s = .next (sampleWord c lo hi check (wordTaken s)) := by
  rw [exec_sampleOctet _ hw ha, gatherOctet_completes _ h]

/-! ### A completed word (R60, R61) -/

theorem sampleWord_wrongCheck {check c lo hi : Octet} (h : check ≠ c ^^^ lo ^^^ hi ^^^ 0x5A) :
    sampleWord c lo hi check s = reject .checkOctet s := if_pos h

theorem sampleWord_wrongChannel {check c lo hi : Octet} (h : check = c ^^^ lo ^^^ hi ^^^ 0x5A) (hc : 8 ≤ c.toNat) :
    sampleWord c lo hi check s = reject .channelBits s := (if_neg (not_not.mpr h)).trans (if_pos hc)

theorem sampleWord_latched {check c lo hi : Octet} (h : check = c ^^^ lo ^^^ hi ^^^ 0x5A) (hc : c.toNat < 8) :
    sampleWord c lo hi check s = setLatch c.toNat (latchTakes s c.toNat (number16 lo hi) (latchOf s c.toNat)) s :=
  (if_neg (not_not.mpr h)).trans (if_neg hc.not_ge)

/-- A read of a latch after a latch is put. -/
theorem latchOf_setLatch (c : Nat) (l : Latch) (s : State) {n : Nat} (hn : n < 8) :
    latchOf (setLatch c l s) n = if c = n then l else latchOf s n := by
  simp [latchOf, slotGet_slotSet, hn]

/-- Settles O26: three octets gathered, and the latch that a good word reaches. -/
theorem sampleWordReachesLatch : Obligations.SampleWordReachesLatch := by
  intro octet s hw ha
  refine ⟨fun h => ?_, fun c lo hi h hcheck hc => ?_⟩
  · rw [exec_sampleOctet _ hw ha, gatherOctet_joins _ h]
  · let l := latchTakes s c.toNat (number16 lo hi) (latchOf s c.toNat)
    have latched : exec (.sampleOctet octet) s = .next (setLatch c.toNat l (wordTaken s)) := by
      rw [exec_fourthOctet hw ha h, sampleWord_latched hcheck hc]
      rfl
    refine ⟨_, l, latched, rfl, ?_, fun n hn hne => ?_, ?_⟩
    · rw [latchOf_setLatch _ _ _ hc, if_pos rfl]
    · rw [latchOf_setLatch _ _ _ hn, if_neg hne.symm]
      rfl
    · dsimp only [l, latchTakes, number16]
      split_ifs <;> rfl

/-! ### Rejections (R58, R59, R60) -/

theorem framingReason_whole {g : List Octet} (h : g = []) : framingReason g = .framing := by simp [framingReason, h]

/-- With a partial word in hand the reason is 1 or 2 (log 10). -/
theorem framingReason_cases (g : List Octet) : framingReason g = .framing ∨ framingReason g = .partialWord := by
  unfold framingReason
  split
  · exact .inr rfl
  · exact .inl rfl

theorem idleEnds_partial (h : s.msu.gathered ≠ []) :
    idleEnds s = { s with msu :=
      { s.msu with
        idleReached := true, gathered := [], rejected := min 255 (s.msu.rejected + 1)
        lastRejection := some .partialWord } } := by
  simp [idleEnds, h, reject, setGathered]

theorem idleEnds_whole (h : s.msu.gathered = []) :
    idleEnds s = { s with msu := { s.msu with idleReached := true } } := by
  simp [idleEnds, h]

theorem exec_partialWordDiscard (hw : works s = true) (hi : s.msu.idleReached = false) :
    exec .partialWordDiscard s = .next (idleEnds s) := by
  simp [exec, execPartialWordDiscard, hw, hi]

/-- Settles O27: each rejection with its reason. -/
theorem linkRejections : Obligations.LinkRejections := by
  intro s hw more
  refine ⟨fun c lo hi check ha h => ⟨fun hcheck => ?_, fun hcheck hc => ?_⟩, fun ha => ?_, fun hi h => ?_, fun hi h => ?_,
    ?_⟩
  · rw [exec_fourthOctet hw ha h, sampleWord_wrongCheck hcheck]
    rfl
  · rw [exec_fourthOctet hw ha h, sampleWord_wrongChannel hcheck hc]
    rfl
  · have faulted : exec .framingFault s = .next (framingFaults s) := by simp [exec, execFramingFault, hw, ha]
    exact ⟨framingReason s.msu.gathered, faulted, framingReason_whole, framingReason_cases _⟩
  · rw [exec_partialWordDiscard hw hi, idleEnds_partial h]
  · rw [exec_partialWordDiscard hw hi, idleEnds_whole h]
  · simp [exec, execSmpInReleased, hw]

end Sys2Proof.Machine
end

section
/-! SUPPORT. SCAN_TICK (R61, R65, R67, R68, R72, R73, R74). -/

namespace Sys2Proof.Machine

variable {s u : State}

/-! ### A stage of a scan: each channel or window in its turn -/

/-- In a pass over numbers without repetition, what a number alone moves becomes what the state before the pass has for it. -/
theorem foldl_entry {σ α : Type} {P : σ → Prop} {f : σ → Nat → σ} {entry new : σ → α} {m : Nat}
    (keeps : ∀ t n, P t → P (f t n)) (here : ∀ t, P t → entry (f t m) = new t)
    (elsewhere : ∀ t n, P t → n ≠ m → entry (f t n) = entry t ∧ new (f t n) = new t)
    {l : List Nat} (hl : l.Nodup) {s : σ} (hs : P s) :
    entry (l.foldl f s) = if m ∈ l then new s else entry s := by
  induction l generalizing s with
  | nil => rfl
  | cons n l ih =>
    obtain ⟨hn, hl⟩ := List.nodup_cons.mp hl
    rw [List.foldl_cons, ih hl (keeps s n hs)]
    by_cases hm : n = m
    · subst hm
      rw [if_neg hn, if_pos List.mem_cons_self, here s hs]
    · obtain ⟨stood, same⟩ := elsewhere s n hs hm
      simp [stood, same, Ne.symm hm]

theorem enqueueAll_append (fs gs : List Firing) (s : State) :
    enqueueAll (fs ++ gs) s = enqueueAll gs (enqueueAll fs s) := List.foldl_append

@[simp] theorem enqueueAll_settings (fs : List Firing) (s : State) : (enqueueAll fs s).settings = s.settings := by
  unfold enqueueAll
  induction fs generalizing s with
  | nil => rfl
  | cons f fs ih => simp [ih]

@[simp] theorem enqueueAll_channels (fs : List Firing) (s : State) :
    (enqueueAll fs s).evu.channels = s.evu.channels := by
  unfold enqueueAll
  induction fs generalizing s with
  | nil => rfl
  | cons f fs ih => simp [ih]

/-- What firings do to the event unit does not hang on the rest of the state (R166 to R169). -/
theorem enqueueAll_evu_congr (fs : List Firing) (hc : u.settings = s.settings) (he : u.evu = s.evu) :
    (enqueueAll fs u).evu = (enqueueAll fs s).evu := by
  unfold enqueueAll
  induction fs generalizing s u with
  | nil => exact he
  | cons f fs ih => exact ih (by simp [hc]) (enqueue_evu_congr f hc he)

/-- In a pass over numbers without repetition, each queues the firings that the state before the pass has for it. -/
theorem foldl_firings {P : State → Prop} {f : State → Nat → State} {firings : State → Nat → List Firing}
    (keeps : ∀ t n, P t → P (f t n)) (settings : ∀ t n, (f t n).settings = t.settings)
    (here : ∀ t n, P t → (f t n).evu = (enqueueAll (firings t n) t).evu)
    (elsewhere : ∀ t n m, P t → n ≠ m → firings (f t n) m = firings t m)
    {l : List Nat} (hl : l.Nodup) (hs : P s) :
    (l.foldl f s).evu = (enqueueAll (l.flatMap (firings s)) s).evu := by
  induction l generalizing s with
  | nil => rfl
  | cons n l ih =>
    obtain ⟨hn, hl⟩ := List.nodup_cons.mp hl
    have stood : l.flatMap (firings (f s n)) = l.flatMap (firings s) :=
      List.flatMap_congr fun m hm => elsewhere s n m hs fun h => hn (h ▸ hm)
    rw [List.foldl_cons, ih hl (keeps s n hs), stood, List.flatMap_cons, enqueueAll_append]
    exact enqueueAll_evu_congr _ (by simp [settings]) (here s n hs)

/-- With no channel bound, firings leave everything but the event unit, and bind no channel (R166, R175). -/
theorem offerAll_queued (fs : List Firing) (hu : noChannelBound u) :
    offerAll fs u = { u with evu := (enqueueAll fs u).evu } := offerAll_unbound fs hu rfl rfl

theorem noChannelBound_congr (hs : noChannelBound s) (h : u.evu.channels = s.evu.channels) : noChannelBound u := by
  simpa [noChannelBound, h] using hs

theorem noChannelBound_offerAll (fs : List Firing) (hu : noChannelBound u) : noChannelBound (offerAll fs u) := by
  rw [offerAll_queued fs hu]
  exact noChannelBound_congr hu (by simp)

/-! ### Stage 1: the channels (R61, R62, R65) -/

/-- What a scan makes of a measured quantity (R65). -/
def scanned (s : State) (channel : Nat) : Quantity :=
  scannedQuantity s.settings.invalidLimit (latchOf s channel).pending (quantityOf s channel)

/-- The firings of a channel's scan (R65). -/
def channelFirings (s : State) (channel : Nat) : List Firing :=
  if channel < mappedChannels (roleOf s) then scanFirings channel (quantityOf s channel) (scanned s channel) else []

/-- A channel's scan before its firings (R61, R65). -/
def sampled (s : State) (channel : Nat) : State :=
  let t := setLatch channel { latchOf s channel with pending := none } s
  if channel < mappedChannels (roleOf s) then setQuantity channel (scanned s channel) t else t

@[simp] theorem sampled_evu (s : State) (n : Nat) : (sampled s n).evu = s.evu := by
  unfold sampled
  dsimp only
  split <;> rfl

@[simp] theorem sampled_settings (s : State) (n : Nat) : (sampled s n).settings = s.settings := by
  unfold sampled
  dsimp only
  split <;> rfl

theorem scanChannel_eq (s : State) (n : Nat) : scanChannel s n = offerAll (channelFirings s n) (sampled s n) := by
  unfold scanChannel channelFirings sampled
  dsimp only
  split <;> rfl

/-- A read of a latch after a channel's scan. -/
theorem latchOf_scanChannel (s : State) (n : Nat) {c : Nat} (hc : c < 8) :
    latchOf (scanChannel s n) c = if n = c then { latchOf s c with pending := none } else latchOf s c := by
  have put : latchOf (scanChannel s n) c = latchOf (setLatch n { latchOf s n with pending := none } s) c := by
    simp only [scanChannel_eq, sampled]
    split <;> simp [latchOf]
  rw [put, latchOf_setLatch _ _ _ hc]
  split
  case isTrue h => rw [h]
  case isFalse => rfl

/-- A read of a quantity after a channel's scan (R62, R65). -/
theorem quantityOf_scanChannel (s : State) (n : Nat) {q : Nat} (hq : q < 11) (h5 : q ≠ 5) :
    quantityOf (scanChannel s n) q =
      if n = q ∧ n < mappedChannels (roleOf s) then scanned s q else quantityOf s q := by
  rw [scanChannel_eq, quantityOf_offerAll _ _ h5]
  by_cases hm : n < mappedChannels (roleOf s)
  · simp only [sampled, hm, if_true, and_true]
    rw [quantityOf_setQuantity _ _ _ _ hq]
    split
    case isTrue h => rw [h]
    case isFalse => rfl
  · simp only [sampled, hm, if_false, and_false]
    rfl

theorem mappedChannels_le (r : Option Role) : mappedChannels r ≤ 5 := by
  rcases r with _ | _ | _ | _ <;> decide

/-- A channel's scan leaves another channel's for later. -/
theorem scanned_scanChannel (s : State) {n c : Nat} (hc : c < 8) (h5 : c ≠ 5) (hne : n ≠ c) :
    scanned (scanChannel s n) c = scanned s c := by
  simp only [scanned, latchOf_scanChannel s n hc, quantityOf_scanChannel s n (hc.trans (by decide)) h5, hne]
  simp

/-- Stage 1 of a scan (R64, R65). -/
def channelsScanned (s : State) : State := (List.range 8).foldl scanChannel s

theorem latchOf_channelsScanned (s : State) {c : Nat} (hc : c < 8) :
    latchOf (channelsScanned s) c = { latchOf s c with pending := none } := by
  have emptied := foldl_entry (P := fun _ => True) (f := scanChannel) (entry := (latchOf · c)) (m := c)
    (new := fun t => { latchOf t c with pending := none }) (fun _ _ _ => trivial)
    (fun t _ => by rw [latchOf_scanChannel t c hc, if_pos rfl])
    (fun t n _ hne => by simp [latchOf_scanChannel t n hc, hne])
    (List.nodup_range (n := 8)) (s := s) trivial
  exact emptied.trans (if_pos (List.mem_range.mpr hc))

theorem quantityOf_channelsScanned (s : State) {q : Nat} (hq : q < 11) (h5 : q ≠ 5) :
    quantityOf (channelsScanned s) q = if q < mappedChannels (roleOf s) then scanned s q else quantityOf s q := by
  have mapped := mappedChannels_le (roleOf s)
  have scans := foldl_entry (P := fun t => roleOf t = roleOf s) (f := scanChannel) (entry := (quantityOf · q)) (m := q)
    (new := fun t => if q < mappedChannels (roleOf s) then scanned t q else quantityOf t q)
    (fun t n h => by simpa [roleOf] using h)
    (fun t h => by rw [quantityOf_scanChannel t q hq h5, h]; simp)
    (fun t n h hne => by
      have stood : quantityOf (scanChannel t n) q = quantityOf t q := by simp [quantityOf_scanChannel t n hq h5, hne]
      refine ⟨stood, ?_⟩
      split
      case isTrue hm => exact scanned_scanChannel t (by omega) h5 hne
      case isFalse => exact stood)
    (List.nodup_range (n := 8)) (s := s) rfl
  by_cases hm : q < mappedChannels (roleOf s)
  · exact scans.trans (if_pos (List.mem_range.mpr (by omega)))
  · rw [if_neg hm] at scans ⊢
    exact scans.trans (ite_self _)

theorem noChannelBound_scanChannel (n : Nat) (h : noChannelBound s) : noChannelBound (scanChannel s n) := by
  rw [scanChannel_eq]
  exact noChannelBound_offerAll _ (noChannelBound_congr h (by simp))

/-- With no channel bound, the firings of stage 1 are queued by channel (R65). -/
theorem channelsScanned_evu (h : noChannelBound s) :
    (channelsScanned s).evu = (enqueueAll ((List.range 8).flatMap (channelFirings s)) s).evu := by
  refine foldl_firings (P := noChannelBound) (firings := channelFirings) (fun _ n => noChannelBound_scanChannel n)
    (fun t n => by simp) (fun t n ht => ?_) (fun t n m ht hne => ?_) List.nodup_range h
  · have unbound : noChannelBound (sampled t n) := noChannelBound_congr ht (by simp)
    rw [scanChannel_eq, offerAll_unbound _ unbound (sampled_settings t n) (sampled_evu t n)]
  · have role : roleOf (scanChannel t n) = roleOf t := by simp [roleOf]
    unfold channelFirings
    rw [role]
    split
    case isTrue hm =>
      have mapped := mappedChannels_le (roleOf t)
      have h5 : m ≠ 5 := by omega
      rw [scanned_scanChannel t (by omega) h5 hne, quantityOf_scanChannel t n (by omega) h5, if_neg (by simp [hne])]
    case isFalse => rfl

/-! ### Stage 2: the margins (R67, R68) -/

/-- Stage 2 writes no quantity but a margin (R66). -/
theorem quantityOf_scanMargins (s : State) {q : Nat} (h : quantityKind (roleOf s) q ≠ .margin) :
    quantityOf (scanMargins s) q = quantityOf s q := by
  unfold scanMargins
  split
  case h_1 role =>
    have hq : 4 ≠ q := by
      rintro rfl
      exact h (by rw [role]; rfl)
    unfold calciteMargin
    dsimp only
    split <;> simp [quantityOf, writeQuantity, slotGet_slotSet, hq]
  case h_2 role =>
    have hq : 8 ≠ q := by
      rintro rfl
      exact h (by rw [role]; rfl)
    unfold silicaMargin
    dsimp only
    split <;> simp [quantityOf, writeQuantity, slotGet_slotSet, hq]
  case h_3 => rfl

theorem scanMargins_calcite (h : hasRole s .well = true) :
    quantityOf (scanMargins s) 4 =
      if (quantityOf s 0).validity = .invalid then heldMargin (quantityOf s 4)
      else {
        validity := (quantityOf s 0).validity, value := (quantityOf s 0).value - s.settings.bubblePoint
        heldCount := 0 } := by
  have role : roleOf s = some .well := by simpa [hasRole] using h
  cases hv : (quantityOf s 0).validity <;>
    simp [scanMargins, role, calciteMargin, hv, quantityOf_setQuantity, quantityOf_writeQuantity]

theorem scanMargins_silica (h : hasRole s .exchange = true) :
    quantityOf (scanMargins s) 8 =
      if (quantityOf s 4).validity = .invalid ∨ (quantityOf s 6).validity = .invalid then heldMargin (quantityOf s 8)
      else {
        validity := if (quantityOf s 4).validity = .valid ∧ (quantityOf s 6).validity = .valid then .valid else .held
        value := (quantityOf s 4).value - (quantityOf s 6).value, heldCount := 0 } := by
  have role : roleOf s = some .exchange := by simpa [hasRole] using h
  simp only [scanMargins, role, silicaMargin]
  split
  · simp [quantityOf_setQuantity]
  · simp [quantityOf_writeQuantity]

/-! ### Stage 3: the windows (R72, R73, R74) -/

/-- What a scan makes of a window (R72, R73). -/
def watched (s : State) (n : Nat) : WindowState :=
  let c := windowConfig s n
  let before := slotGet s.msu.windows n .unknown
  if c.enabled then evaluated c (quantityOf s c.quantity) before else before

/-- The firings of a window's scan (R74). -/
def windowFirings (c : WindowConfig) (n : Nat) (w : WindowState) : List Firing :=
  match c.enabled, w with
  | true, .alarm side => [fire (11 + n) n side.code]
  | _, _ => []

/-- A window's scan before its firings (R73). -/
def windowPut (s : State) (n : Nat) : State :=
  if (windowConfig s n).enabled then setWindow n (watched s n) s else s

theorem scanWindow_eq (s : State) (n : Nat) :
    scanWindow s n = offerAll (windowFirings (windowConfig s n) n (watched s n)) (windowPut s n) := by
  cases he : (windowConfig s n).enabled with
  | true =>
    simp only [scanWindow, windowPut, watched, windowFirings, he, if_true]
    generalize evaluated _ _ _ = w
    cases w <;> rfl
  | false => simp [scanWindow, windowPut, windowFirings, he, offerAll]

@[simp] theorem windowPut_evu (s : State) (n : Nat) : (windowPut s n).evu = s.evu := by
  unfold windowPut
  split <;> rfl

@[simp] theorem windowPut_settings (s : State) (n : Nat) : (windowPut s n).settings = s.settings := by
  unfold windowPut
  split <;> rfl

@[simp] theorem windowPut_quantities (s : State) (n : Nat) : (windowPut s n).msu.quantities = s.msu.quantities := by
  unfold windowPut
  split <;> rfl

theorem scanWindow_windows (s : State) (n : Nat) : (scanWindow s n).msu.windows =
    if (windowConfig s n).enabled then slotSet s.msu.windows n (watched s n) else s.msu.windows := by
  simp only [scanWindow_eq, offerAll_keeps, windowPut]
  split <;> rfl

/-- A window's scan leaves its own entry as it makes it (R73). -/
theorem window_scanWindow (s : State) {n : Nat} (hn : n < 8) :
    slotGet (scanWindow s n).msu.windows n .unknown = watched s n := by
  rw [scanWindow_windows]
  cases he : (windowConfig s n).enabled with
  | true => simp [slotGet_slotSet, hn]
  | false => simp [watched, he]

theorem window_scanWindow_ne (s : State) {n m : Nat} (h : n ≠ m) :
    slotGet (scanWindow s n).msu.windows m .unknown = slotGet s.msu.windows m .unknown := by
  rw [scanWindow_windows]
  split
  · simp [slotGet_slotSet, h]
  · rfl

/-- Stage 3 of a scan (R64, R73). -/
def windowsScanned (s : State) : State := (List.range 8).foldl scanWindow s

theorem windowConfig_congr (h : u.settings = s.settings) (n : Nat) : windowConfig u n = windowConfig s n := by
  simp [windowConfig, h]

theorem quantityOf_congr (h : u.msu.quantities = s.msu.quantities) (q : Nat) : quantityOf u q = quantityOf s q := by
  simp [quantityOf, h]

theorem noChannelBound_scanWindow (n : Nat) (h : noChannelBound s) : noChannelBound (scanWindow s n) := by
  rw [scanWindow_eq]
  exact noChannelBound_offerAll _ (noChannelBound_congr h (by simp))

theorem quantityOf_scanWindow (s : State) (n : Nat) {q : Nat} (h5 : q ≠ 5) :
    quantityOf (scanWindow s n) q = quantityOf s q := by
  rw [scanWindow_eq, quantityOf_offerAll _ _ h5, quantityOf_congr (windowPut_quantities s n)]

theorem quantityOf_scanWindow_unbound (n : Nat) (h : noChannelBound s) (q : Nat) :
    quantityOf (scanWindow s n) q = quantityOf s q := by
  have unbound : noChannelBound (windowPut s n) := noChannelBound_congr h (by simp)
  rw [scanWindow_eq, offerAll_queued _ unbound, ← quantityOf_congr (windowPut_quantities s n)]
  rfl

/-- What a window stands on stays as it is through stage 3: the window is disabled, its quantity is not Q5, or no channel can
bring a derate step that moves Q5 (R81, R176). -/
def WindowSteady (m : Nat) (s : State) : Prop :=
  (windowConfig s m).enabled = false ∨ (windowConfig s m).quantity ≠ 5 ∨ noChannelBound s

theorem WindowSteady.scanWindow {m : Nat} (h : WindowSteady m s) (n : Nat) : WindowSteady m (scanWindow s n) := by
  rw [WindowSteady, windowConfig_congr (s := s) (by simp)]
  exact h.imp id (Or.imp id (noChannelBound_scanWindow n))

/-- A window's scan leaves another window's for later. -/
theorem WindowSteady.watched {m n : Nat} (h : WindowSteady m s) (hne : n ≠ m) :
    watched (Machine.scanWindow s n) m = Machine.watched s m := by
  simp only [Machine.watched, windowConfig_congr (u := Machine.scanWindow s n) (s := s) (by simp),
    window_scanWindow_ne s hne]
  rcases h with disabled | h5 | hu
  · simp [disabled]
  · rw [quantityOf_scanWindow s n h5]
  · rw [quantityOf_scanWindow_unbound n hu]

theorem window_windowsScanned {m : Nat} (h : WindowSteady m s) (hm : m < 8) :
    slotGet (windowsScanned s).msu.windows m .unknown = watched s m := by
  have watches := foldl_entry (P := WindowSteady m) (f := scanWindow) (entry := (slotGet ·.msu.windows m .unknown))
    (new := (watched · m)) (m := m) (fun t n ht => ht.scanWindow n)
    (fun t _ => window_scanWindow t hm)
    (fun t n ht hne => ⟨window_scanWindow_ne t hne, ht.watched hne⟩)
    (List.nodup_range (n := 8)) (s := s) h
  rw [windowsScanned, ← if_pos (List.mem_range.mpr hm) (t := watched s m) (e := slotGet s.msu.windows m .unknown)]
  exact watches

/-- With no channel bound, the firings of stage 3 are queued by window (R74). -/
theorem windowsScanned_evu (h : noChannelBound s) :
    (windowsScanned s).evu =
      (enqueueAll ((List.range 8).flatMap fun n => windowFirings (windowConfig s n) n (watched s n)) s).evu := by
  refine foldl_firings (P := noChannelBound) (firings := fun t n => windowFirings (windowConfig t n) n (watched t n))
    (fun _ n => noChannelBound_scanWindow n) (fun t n => by simp) (fun t n ht => ?_) (fun t n m ht hne => ?_)
    List.nodup_range h
  · have unbound : noChannelBound (windowPut t n) := noChannelBound_congr ht (by simp)
    rw [scanWindow_eq, offerAll_unbound _ unbound (windowPut_settings t n) (windowPut_evu t n)]
  · have steady : WindowSteady m t := .inr (.inr ht)
    rw [windowConfig_congr (u := scanWindow t n) (s := t) (by simp), steady.watched hne]

/-- Stage 3 writes no quantity but, by a derate step, Q5 (R81). -/
theorem quantityOf_windowsScanned (s : State) {q : Nat} (h5 : q ≠ 5) :
    quantityOf (windowsScanned s) q = quantityOf s q :=
  List.foldlRecOn (motive := fun t => quantityOf t q = quantityOf s q) _ _ rfl
    fun t h n _ => (quantityOf_scanWindow t n h5).trans h

/-! ### Stage 4 (R80, R81) -/

/-- A move of the derate total writes no quantity but Q5 (R81). -/
theorem quantityOf_moveDerate (total quiet : Nat) (s : State) {q : Nat} (h5 : q ≠ 5) :
    quantityOf (moveDerate total quiet s) q = quantityOf s q := by
  unfold moveDerate capacityChanged
  dsimp only
  split_ifs <;> simp [quantityOf, writeQuantity, slotGet_slotSet, h5.symm]

theorem quantityOf_scanNotice (s : State) {q : Nat} (h5 : q ≠ 5) : quantityOf (scanNotice s) q = quantityOf s q := by
  unfold scanNotice
  dsimp only
  split
  · exact quantityOf_moveDerate _ _ s h5
  · rfl

/-! ### The scan (R64) -/

/-- A scan's measurements, before its windows. -/
def measured (s : State) : State := scanMargins (channelsScanned s)

theorem scan_eq (s : State) :
    scan s = if hasRole s .well then scanNotice (windowsScanned (measured s)) else windowsScanned (measured s) := by
  have role : hasRole (windowsScanned (measured s)) .well = hasRole s .well := by
    simp [hasRole, roleOf, windowsScanned, measured, channelsScanned]
  rw [← role]
  rfl

theorem exec_scanTick (hw : works s = true) : exec .scanTick s = .next (scan s) :=
  congrArg Host.Outcome.next (if_pos hw)

theorem quantityOf_scan (s : State) {q : Nat} (h5 : q ≠ 5) : quantityOf (scan s) q = quantityOf (measured s) q := by
  rw [scan_eq]
  split
  · rw [quantityOf_scanNotice _ h5, quantityOf_windowsScanned _ h5]
  · rw [quantityOf_windowsScanned _ h5]

/-- Behind stage 1 a scan writes the margins and Q5 alone (R65, R66). -/
theorem quantityOf_scan_of_not_margin (s : State) {q : Nat} (h5 : q ≠ 5) (h : quantityKind (roleOf s) q ≠ .margin) :
    quantityOf (scan s) q = quantityOf (channelsScanned s) q := by
  have role : roleOf (channelsScanned s) = roleOf s := by simp [roleOf, channelsScanned]
  rw [quantityOf_scan _ h5, measured, quantityOf_scanMargins _ (by rwa [role])]

theorem quantityOf_scan_mapped (s : State) {c : Nat} (h : c < mappedChannels (roleOf s)) :
    quantityOf (scan s) c = scanned s c := by
  have mapped := mappedChannels_le (roleOf s)
  rw [quantityOf_scan_of_not_margin s (by omega) (by simp [quantityKind, h]),
    quantityOf_channelsScanned s (by omega) (by omega), if_pos h]

/-- The calcite margin follows Q0 (R67). -/
theorem scan_calcite (h : hasRole s .well = true) :
    quantityOf (scan s) 4 =
      if (quantityOf (scan s) 0).validity = .invalid then heldMargin (quantityOf s 4)
      else {
        validity := (quantityOf (scan s) 0).validity, value := (quantityOf (scan s) 0).value - s.settings.bubblePoint
        heldCount := 0 } := by
  have role : roleOf s = some .well := by simpa [hasRole] using h
  have well : hasRole (channelsScanned s) .well = true := by simpa [hasRole, roleOf, channelsScanned] using role
  have input : quantityOf (scan s) 0 = quantityOf (channelsScanned s) 0 :=
    quantityOf_scan_of_not_margin s (by decide) (by rw [role]; decide)
  have old : quantityOf (channelsScanned s) 4 = quantityOf s 4 := by
    rw [quantityOf_channelsScanned s (by decide) (by decide), role]
    rfl
  have settings : (channelsScanned s).settings = s.settings := by simp [channelsScanned]
  rw [quantityOf_scan s (by decide), measured, scanMargins_calcite well, input, old, settings]

/-- The silica margin follows Q4 and Q6 (R68). -/
theorem scan_silica (h : hasRole s .exchange = true) :
    quantityOf (scan s) 8 =
      if (quantityOf (scan s) 4).validity = .invalid ∨ (quantityOf (scan s) 6).validity = .invalid then
        heldMargin (quantityOf s 8)
      else {
        validity :=
          if (quantityOf (scan s) 4).validity = .valid ∧ (quantityOf (scan s) 6).validity = .valid then .valid else .held
        value := (quantityOf (scan s) 4).value - (quantityOf (scan s) 6).value, heldCount := 0 } := by
  have role : roleOf s = some .exchange := by simpa [hasRole] using h
  have exchange : hasRole (channelsScanned s) .exchange = true := by
    simpa [hasRole, roleOf, channelsScanned] using role
  have outlet : quantityOf (scan s) 4 = quantityOf (channelsScanned s) 4 :=
    quantityOf_scan_of_not_margin s (by decide) (by rw [role]; decide)
  have limit : quantityOf (scan s) 6 = quantityOf (channelsScanned s) 6 :=
    quantityOf_scan_of_not_margin s (by decide) (by rw [role]; decide)
  have old : quantityOf (channelsScanned s) 8 = quantityOf s 8 := by
    rw [quantityOf_channelsScanned s (by decide) (by decide), role]
    rfl
  rw [quantityOf_scan s (by decide), measured, scanMargins_silica exchange, outlet, limit, old]

theorem latchOf_scan (s : State) {c : Nat} (hc : c < 8) : latchOf (scan s) c = { latchOf s c with pending := none } := by
  have latches : (scan s).msu.latches = (channelsScanned s).msu.latches := by
    rw [scan_eq]
    split <;> simp [windowsScanned, measured]
  rw [← latchOf_channelsScanned s hc, latchOf, latches]
  rfl

theorem noChannelBound_measured (h : noChannelBound s) : noChannelBound (measured s) := by
  have scanned : noChannelBound (channelsScanned s) :=
    List.foldlRecOn (motive := noChannelBound) _ _ h fun _ ht n _ => noChannelBound_scanChannel n ht
  exact noChannelBound_congr scanned (by simp [measured])

theorem windowConfig_measured (s : State) (n : Nat) : windowConfig (measured s) n = windowConfig s n :=
  windowConfig_congr (by simp [measured, channelsScanned]) n

/-- A scan leaves a window as its table makes it of what stages 1 and 2 measured (R73). -/
theorem window_scan {n : Nat} (h : WindowSteady n s) (hn : n < 8) :
    slotGet (scan s).msu.windows n .unknown = watched (measured s) n := by
  have windows : (scan s).msu.windows = (windowsScanned (measured s)).msu.windows := by
    rw [scan_eq]
    split <;> simp
  have steady : WindowSteady n (measured s) := by
    rw [WindowSteady, windowConfig_measured]
    exact h.imp id (Or.imp id noChannelBound_measured)
  rw [windows, window_windowsScanned steady hn]

theorem watched_measured (s : State) (n : Nat) :
    watched (measured s) n =
      if (windowConfig s n).enabled then
        evaluated (windowConfig s n) (quantityOf (measured s) (windowConfig s n).quantity)
          (slotGet s.msu.windows n .unknown)
      else slotGet s.msu.windows n .unknown := by
  have windows : (measured s).msu.windows = s.msu.windows := by simp [measured, channelsScanned]
  rw [watched, windowConfig_measured, windows]

/-- With no channel bound, the firings of a scan are queued by channel, then by window (R65, R74). -/
theorem scan_evu (h : noChannelBound s) :
    (scan s).evu = (enqueueAll ((List.range 8).flatMap (channelFirings s) ++
      (List.range 8).flatMap fun n => windowFirings (windowConfig s n) n (watched (measured s) n)) s).evu := by
  have evu : (scan s).evu = (windowsScanned (measured s)).evu := by
    rw [scan_eq]
    split <;> simp
  have before : (measured s).evu = (enqueueAll ((List.range 8).flatMap (channelFirings s)) s).evu := by
    rw [← channelsScanned_evu h]
    simp [measured]
  rw [evu, windowsScanned_evu (noChannelBound_measured h), enqueueAll_append]
  simp only [windowConfig_measured]
  exact enqueueAll_evu_congr _ (by simp [measured, channelsScanned]) before

/-- What a scan may change. -/
theorem scan_frame (s : State) :
    scan s = { s with
      evu := (scan s).evu
      msu := { s.msu with
        latches := (scan s).msu.latches, quantities := (scan s).msu.quantities, windows := (scan s).msu.windows }
      dtu := { s.dtu with
        derateTotal := (scan s).dtu.derateTotal, quietCount := (scan s).dtu.quietCount, target := (scan s).dtu.target
        recallTimer := (scan s).dtu.recallTimer }
      frh := { s.frh with
        outbox := { s.frh.outbox with stateReport := (scan s).frh.outbox.stateReport }, lastC := (scan s).frh.lastC }
      lif := { s.lif with tx := (scan s).lif.tx } } := by
  ext1
  case msu => ext1 <;> simp
  case dtu => ext1 <;> simp
  case lif => ext1 <;> simp
  case frh =>
    ext1
    case outbox => ext1 <;> simp
    all_goals simp
  all_goals simp

/-! ### The window table (R73) -/

theorem evaluated_invalid {c : WindowConfig} {q : Quantity} {w : WindowState} (h : q.validity = .invalid) :
    evaluated c q w = .unknown := by simp [evaluated, h]

theorem evaluated_usable {c : WindowConfig} {q : Quantity} {w : WindowState} (h : q.validity ≠ .invalid) :
    evaluated c q w = (outside c q.value).elim (if wellInside c q.value then .clear else w) .alarm := by
  unfold evaluated
  cases hv : q.validity with
  | invalid => exact absurd hv h
  | valid | held => cases outside c q.value <;> rfl

/-- The table of R73, case by case. -/
theorem evaluated_table (c : WindowConfig) (q : Quantity) (before : WindowState) (h : q.validity ≠ .invalid) :
    (q.value < c.low → ¬ c.high < q.value → evaluated c q before = .alarm .low) ∧
    (c.high < q.value → ¬ q.value < c.low → evaluated c q before = .alarm .high) ∧
    (q.value < c.low → c.high < q.value → ∃ side, evaluated c q before = .alarm side) ∧
    (c.low ≤ q.value → q.value ≤ c.high →
      (c.low + c.hysteresis ≤ q.value ∧ q.value ≤ c.high - c.hysteresis → evaluated c q before = .clear) ∧
      (¬ (c.low + c.hysteresis ≤ q.value ∧ q.value ≤ c.high - c.hysteresis) → evaluated c q before = before)) := by
  rw [evaluated_usable h, outside, wellInside]
  refine ⟨fun low high => by simp [low, high], fun high low => by simp [low, high], fun low high => by simp [low, high],
    fun low high => ⟨fun inside => ?_, fun inside => ?_⟩⟩
  · simp [low.not_gt, high.not_gt, inside]
  · simp [low.not_gt, high.not_gt, inside]

/-! ### The obligation -/

/-- Settles O28: the latches, the measured quantities, the windows, the margins, the firings and the frame, and the window
table. -/
theorem scanUpdatesMeasured : Obligations.ScanUpdatesMeasured := by
  refine ⟨fun s hw => ⟨scan s, exec_scanTick hw, fun c hc => latchOf_scan s hc, fun c hc => ?_,
    fun n hn => ⟨fun disabled => ?_, fun enabled h5 => ?_⟩, scan_calcite, scan_silica, fun hu => ?_, scan_frame s⟩,
    fun c q before => ⟨evaluated_invalid, evaluated_table c q before⟩⟩
  · rw [quantityOf_scan_mapped s hc, scanned]
    cases (latchOf s c).pending with
    | some v => rfl
    | none => cases hv : (quantityOf s c).validity <;> simp [scannedQuantity, hv]
  · rw [window_scan (.inl disabled) hn, watched_measured, disabled]
    rfl
  · rw [window_scan (.inr (.inl h5)) hn, watched_measured, if_pos enabled, quantityOf_scan _ h5]
  · refine (scan_evu hu).trans (congrArg (fun fs => (enqueueAll fs s).evu) (congrArg₂ (· ++ ·) ?_ ?_))
    · refine List.flatMap_congr fun c _ => ite_congr rfl (fun hc => ?_) fun _ => rfl
      rw [quantityOf_scan_mapped s hc]
      unfold scanFirings
      cases (quantityOf s c).validity <;> cases (scanned s c).validity <;> rfl
    · refine List.flatMap_congr fun n hn => ?_
      rw [← window_scan (.inr (.inr hu)) (List.mem_range.mp hn)]
      unfold windowFirings
      cases (windowConfig s n).enabled with
      | false => rfl
      | true => cases slotGet (scan s).msu.windows n .unknown with
        | alarm side => cases side <;> rfl
        | _ => rfl

end Sys2Proof.Machine
end

section
/-! SUPPORT. The lookup in the saturation table (R69, R70, R71). -/

namespace Sys2Proof.Machine

/-! ### The straight line (R70) -/

/-- The temperature gained along a segment, rounded half up (R70): `x` of `w` silica units along it, of a rise `d`. -/
def segmentRise (x w d : Int) : Int := (2 * x * d + w) / (2 * w)

section Segment

variable {x w d : Int}

/-- The rise is the straight line rounded half up. -/
theorem segmentRise_rounds (hw : 0 < w) :
    2 * (x * d) - w < 2 * segmentRise x w d * w ∧ 2 * segmentRise x w d * w ≤ 2 * (x * d) + w := by
  have floor := Int.mul_ediv_self_le (x := 2 * x * d + w) (k := 2 * w) (by omega)
  have ceiling := Int.lt_mul_ediv_self_add (x := 2 * x * d + w) (k := 2 * w) (by omega)
  rw [segmentRise]
  constructor <;> linarith

theorem segmentRise_start (hw : 0 < w) : segmentRise 0 w d = 0 := by
  rw [segmentRise, Int.ediv_eq_zero_of_lt] <;> omega

/-- The rise stays within the segment's. -/
theorem segmentRise_bounds (hx : 0 ≤ x) (hxw : x < w) : min 0 d ≤ segmentRise x w d ∧ segmentRise x w d ≤ max 0 d := by
  have hw : 0 < 2 * w := by omega
  rw [segmentRise, Int.le_ediv_iff_mul_le hw, ← Int.lt_add_one_iff (a := _ / _), Int.ediv_lt_iff_lt_mul hw]
  rcases le_total 0 d with hd | hd
  · rw [min_eq_left hd, max_eq_right hd]
    have low := mul_nonneg hx hd
    have high := mul_le_mul_of_nonneg_right hxw.le hd
    constructor <;> linarith
  · rw [min_eq_right hd, max_eq_left hd]
    have high := mul_nonpos_of_nonneg_of_nonpos hx hd
    have low := mul_le_mul_of_nonpos_right hxw.le hd
    constructor <;> linarith

end Segment

theorem interpolate_eq (a b : TablePoint) (silica : Nat) :
    interpolate a b silica = a.temperature +
      segmentRise ((silica : Int) - a.silica) ((b.silica : Int) - a.silica) ((b.temperature : Int) - a.temperature) := rfl

/-- Within a segment the line lies between the segment's ends (R70). -/
theorem interpolate_bounds {a b : TablePoint} {silica : Nat} (ha : a.silica ≤ silica) (hb : silica < b.silica) :
    (min a.temperature b.temperature : Int) ≤ interpolate a b silica ∧
      interpolate a b silica ≤ (max a.temperature b.temperature : Int) := by
  have rise := segmentRise_bounds (x := (silica : Int) - a.silica) (w := (b.silica : Int) - a.silica)
    (d := (b.temperature : Int) - a.temperature) (by omega) (by omega)
  rw [interpolate_eq]
  omega

theorem interpolate_start {a b : TablePoint} (h : a.silica < b.silica) : interpolate a b a.silica = a.temperature := by
  rw [interpolate_eq, sub_self, segmentRise_start (by omega), add_zero]

/-! ### The segment of a silica value (R70, R71) -/

/-- A strictly rising table stays one when its first points are left out. -/
theorem tableGood_tail {a : TablePoint} {points : List TablePoint} (h : tableGood (a :: points) = true) :
    tableGood points = true := by
  cases points with
  | nil => rfl
  | cons b rest => simp_all [tableGood]

/-- The points of a strictly rising table rise (R69). -/
theorem tableGood_rises {a p : TablePoint} {points : List TablePoint} (h : tableGood (a :: points) = true)
    (hp : p ∈ points) : a.silica < p.silica := by
  induction points generalizing a with
  | nil => simp at hp
  | cons b rest ih =>
    have hab : a.silica < b.silica := by simp_all [tableGood]
    rcases List.mem_cons.mp hp with rfl | hrest
    · exact hab
    · exact hab.trans (ih (tableGood_tail h) hrest)

/-- Points at or below the value are passed over (R70). -/
theorem lookupFrom_passes {front back : List TablePoint} {p a : TablePoint} {silica : Nat}
    (h : tableGood (p :: (front ++ a :: back)) = true) (ha : a.silica ≤ silica) :
    lookupFrom p (front ++ a :: back) silica = lookupFrom a back silica := by
  induction front generalizing p with
  | nil => exact if_neg ha.not_gt
  | cons q front ih =>
    have hq : q.silica ≤ silica := (tableGood_rises (tableGood_tail h) (by simp)).le.trans ha
    exact (if_neg hq.not_gt).trans (ih (tableGood_tail h))

theorem lookup_passes {front back : List TablePoint} {a : TablePoint} {silica : Nat}
    (h : tableGood (front ++ a :: back) = true) (ha : a.silica ≤ silica) :
    lookup (front ++ a :: back) silica = lookupFrom a back silica := by
  cases front with
  | nil => exact if_neg ha.not_gt
  | cons p front =>
    have hp : p.silica ≤ silica := (tableGood_rises h (by simp)).le.trans ha
    exact (if_neg hp.not_gt).trans (lookupFrom_passes h ha)

/-- The lookup of a silica value within a segment (R70). -/
theorem lookup_segment {front back : List TablePoint} {a b : TablePoint} {silica : Nat}
    (h : tableGood (front ++ a :: b :: back) = true) (ha : a.silica ≤ silica) (hb : silica < b.silica) :
    lookup (front ++ a :: b :: back) silica = (interpolate a b silica).toNat :=
  (lookup_passes h ha).trans (if_pos hb)

/-- Settles O29: the segment of the value, and the straight line in it. -/
theorem lookupInterpolates : Obligations.LookupInterpolates := by
  refine ⟨fun front back a b silica h ha hb => ?_, fun front b silica h hb => lookup_passes h hb,
    fun a back silica h => if_pos h⟩
  have found := lookup_segment h ha hb
  have bounds := interpolate_bounds ha hb
  have line : (lookup (front ++ a :: b :: back) silica : Int) = interpolate a b silica := by omega
  refine ⟨found, by omega, by omega, by omega, ?_, ?_⟩
  · rintro rfl
    rw [found, interpolate_start hb, Int.toNat_natCast]
  · dsimp only
    rw [line, interpolate_eq, add_sub_cancel_left]
    exact segmentRise_rounds (by omega)

end Sys2Proof.Machine
end

section
/-! SUPPORT. A derate step and the recovery (R38, R79, R80, R81). -/

namespace Sys2Proof.Machine

variable {s : State} {total quiet : Nat}

/-! ### A change of C_own (R81) -/

/-- A change of C_own: Q5, the STATE where the publish step is reached, the target of law 3, the recall test (R38, R81). -/
theorem capacityChanged_eq (s : State) :
    capacityChanged s = testRecall (lowerTarget
      (if publishDue (cOwn s) s.frh.lastC s.settings.capacityStep then enterStateFrame (writeQuantity 5 .valid (cOwn s) s)
        else writeQuantity 5 .valid (cOwn s) s)) := rfl

/-- A target above max(C_own, F_min) comes down to it in a running well, and no other target moves (R81). -/
theorem capacityChanged_target (s : State) :
    (capacityChanged s).dtu.target = if s.dtu.duty.runs then min s.dtu.target (capacityCeiling s) else s.dtu.target := by
  have lowered (u : State) :
      (lowerTarget u).dtu.target = if u.dtu.duty.runs then min u.dtu.target (capacityCeiling u) else u.dtu.target := by
    unfold lowerTarget
    split <;> rfl
  rw [capacityChanged_eq]
  split <;> simp [lowered, capacityCeiling, cOwn]

/-- Where the publish step is not reached, a change of C_own leaves the line (R38, R81). -/
theorem capacityChanged_unpublished (h : publishDue (cOwn s) s.frh.lastC s.settings.capacityStep = false) :
    (capacityChanged s).frh = s.frh ∧ (capacityChanged s).lif = s.lif := by
  simp [capacityChanged_eq, h]

/-- Where the publish step is reached, a change of C_own makes its STATE entry after the write of Q5 (R38, R81). -/
theorem capacityChanged_published (h : publishDue (cOwn s) s.frh.lastC s.settings.capacityStep = true) :
    (capacityChanged s).frh = (enterStateFrame (writeQuantity 5 .valid (cOwn s) s)).frh := by
  simp [capacityChanged_eq, h]

/-- A change of C_own writes Q5 (R81). -/
theorem capacityChanged_q5 (s : State) :
    quantityOf (capacityChanged s) 5 = { validity := .valid, value := cOwn s, heldCount := 0 } := by
  have msu : (capacityChanged s).msu = (writeQuantity 5 .valid (cOwn s) s).msu := by
    rw [capacityChanged_eq]
    split <;> simp
  rw [quantityOf, msu]
  exact quantityOf_writeQuantity 5 .valid (cOwn s) s (k := 5) (by decide)

/-! ### A move of the derate total (R79, R80) -/

theorem moveDerate_same (quiet : Nat) (s : State) :
    moveDerate s.dtu.derateTotal quiet s = setDerate s.dtu.derateTotal quiet s := if_pos rfl

theorem moveDerate_changed (h : total ≠ s.dtu.derateTotal) :
    moveDerate total quiet s = capacityChanged (setDerate total quiet s) := if_neg h

/-- The derate total and the quiet count are those moved to (R79, R80). -/
@[simp] theorem moveDerate_derate (total quiet : Nat) (s : State) :
    (moveDerate total quiet s).dtu.derateTotal = total ∧ (moveDerate total quiet s).dtu.quietCount = quiet := by
  unfold moveDerate
  dsimp only
  split <;> simp

/-- The scan notice moves the derate total by one step back from the recovery span on, and leaves it before (R80). -/
theorem scanNotice_eq (s : State) :
    let quiet := min 255 (s.dtu.quietCount + 1)
    scanNotice s = moveDerate
      (if s.settings.recoverySpan ≤ quiet ∧ 0 < s.dtu.derateTotal then s.dtu.derateTotal - s.settings.derateStep
        else s.dtu.derateTotal) quiet s := by
  intro quiet
  unfold scanNotice
  dsimp only
  split
  · rfl
  · exact (moveDerate_same quiet s).symm

/-- The STATE of a changed C_own: the present duty, the capacity left, F and S (R38, R81). -/
theorem moveDerate_publishes (hne : total ≠ s.dtu.derateTotal) (hk : keepsEntries s = true)
    (hdue : publishDue (s.settings.cRated - total) s.frh.lastC s.settings.capacityStep = true) :
    (moveDerate total quiet s).frh.lastC = some (s.settings.cRated - total) ∧
      (moveDerate total quiet s).frh.outbox.stateReport = some (replacing s.frh.outbox.stateReport
        (.stateReport s.dtu.duty (s.settings.cRated - total) ((usableValue s 1).map Int.toNat)
          ((usableValue s 2).map Int.toNat))) := by
  let derated := setDerate total quiet s
  have read (q : Nat) (h11 : q < 11) (h5 : 5 ≠ q) :
      usableValue (writeQuantity 5 .valid (cOwn derated) derated) q = usableValue s q := by
    have stands : quantityOf (writeQuantity 5 .valid (cOwn derated) derated) q = quantityOf s q :=
      (quantityOf_writeQuantity 5 .valid (cOwn derated) derated h11).trans (if_neg h5)
    rw [usableValue, stands, usableValue]
  obtain ⟨slot, lastC⟩ := enterStateFrame_keeps_entry (writeQuantity 5 .valid (cOwn derated) derated) hk
  rw [statePayload, read 1 (by decide) (by decide), read 2 (by decide) (by decide)] at slot
  have frh := capacityChanged_published (s := derated) hdue
  rw [moveDerate_changed hne, frh]
  exact ⟨lastC, slot⟩

/-- Settles O30: both notices are moves of the derate total, and a change of it is a change of C_own. -/
theorem derateMovesCapacity : Obligations.DerateMovesCapacity := by
  intro s c quiet recovers moved
  have moves (total quiet : Nat) : moved total quiet (moveDerate total quiet s) := by
    refine ⟨by simp, by simp, by simp, by simp, by simp, by simp, by simp, by simp,
      fun q _ h5 => quantityOf_moveDerate total quiet s h5, fun he => ?_, fun hne => ⟨?_, ?_, fun p hp hnear => ?_,
      fun hk hfar => ?_⟩⟩
    · rw [he]
      exact moveDerate_same quiet s
    · rw [moveDerate_changed hne]
      exact capacityChanged_q5 _
    · rw [moveDerate_changed hne]
      exact capacityChanged_target _
    · rw [moveDerate_changed hne]
      exact capacityChanged_unpublished (s := setDerate total quiet s)
        (Bool.eq_false_iff.mpr fun hdue => Nat.not_le.mpr hnear ((publishDue_iff _ _ _).mp hdue p hp))
    · obtain ⟨lastC, slot⟩ := moveDerate_publishes (quiet := quiet) hne hk ((publishDue_iff _ _ _).mpr hfar)
      exact ⟨lastC, _, slot, rfl, rfl⟩
  refine ⟨moves _ 0, ?_⟩
  rw [scanNotice_eq]
  exact moves _ quiet

end Sys2Proof.Machine
end

section
/-! SUPPORT. The clamps of a loaded image (R77, R99, R119, R139, R153, R165, R177, R183). -/

namespace Sys2Proof.Machine

theorem clampTo_mem {lo hi : Nat} (v : Nat) (h : lo ≤ hi := by decide) : lo ≤ clampTo lo hi v ∧ clampTo lo hi v ≤ hi :=
  ⟨le_max_left _ _, max_le h (min_le_right _ _)⟩

theorem clampCode_le {top instead : Nat} (h : instead ≤ top) (v : Nat) : clampCode top instead v ≤ top := by
  unfold clampCode
  split <;> assumption

/-- Both ends of the range are multiples of 50, so the multiple below stays within it (R183). -/
theorem clampRefresh_mem (v : Nat) : 250 ≤ clampRefresh v ∧ clampRefresh v ≤ 5000 ∧ clampRefresh v % 50 = 0 := by
  obtain ⟨hlow, hhigh⟩ := clampTo_mem (lo := 250) (hi := 5000) v
  unfold clampRefresh
  omega

/-- The share period stays above 100 ms below a refresh period of 250 ms or more (R77, R183). -/
theorem sharePeriod_mem (v r : Nat) :
    let share := min (clampTo 100 1000 v) (clampRefresh r)
    100 ≤ share ∧ share ≤ 1000 ∧ share ≤ clampRefresh r := by
  obtain ⟨hlow, hhigh⟩ := clampTo_mem (lo := 100) (hi := 1000) v
  obtain ⟨hrefresh, -⟩ := clampRefresh_mem r
  omega

/-- The lost limit lies above the stale limit (R40, R183). -/
theorem ageLimits_mem (v w : Nat) :
    let stale := clampTo 2 15 v
    let lost := clampTo (stale + 1) 63 w
    2 ≤ stale ∧ stale ≤ 15 ∧ stale + 1 ≤ lost ∧ lost ≤ 63 := by
  obtain ⟨hlow, hhigh⟩ := clampTo_mem (lo := 2) (hi := 15) v
  exact ⟨hlow, hhigh, clampTo_mem w (by omega)⟩

/-- F_min lies within C_rated and the trip flow (R77). -/
theorem flows_mem (rated least trip : Nat) :
    let cRated := min rated 65534
    let fMin := min least cRated
    fMin ≤ cRated ∧ cRated ≤ 65534 ∧ fMin ≤ clampTo fMin 65534 trip ∧ clampTo fMin 65534 trip ≤ 65534 :=
  ⟨min_le_right _ _, min_le_right _ _, clampTo_mem trip ((min_le_right _ _).trans (min_le_right _ _))⟩

/-- Settles O7: each setting is a clamp of the field it is read from. -/
theorem clampsKeepRanges : Obligations.ClampsKeepRanges := by
  intro r c
  have ranked (k : Nat) (hk : c.rank = some k) : k ≤ 31 := by
    obtain ⟨v, -, rfl⟩ := Option.map_eq_some_iff.mp hk
    exact min_le_right v 31
  refine ⟨clampCode_le (by decide) _, clampCode_le (by decide) _, clampRefresh_mem _, ageLimits_mem _ _,
    -- the scan and the publish steps
    clampTo_mem _, clampTo_mem _, and_assoc.mp ⟨clampTo_mem _, clampTo_mem _⟩,
    -- flow sharing (R77)
    sharePeriod_mem _ _, flows_mem _ _ _, and_assoc.mp ⟨clampTo_mem _, le_max_left _ _⟩,
    and_assoc.mp ⟨clampTo_mem _, and_assoc.mp ⟨clampTo_mem _, clampTo_mem _⟩⟩,
    -- the duty machine (R99)
    and_assoc.mp ⟨clampTo_mem _, and_assoc.mp ⟨clampTo_mem _, min_le_right _ _⟩⟩,
    and_assoc.mp ⟨clampTo_mem _, and_assoc.mp ⟨clampTo_mem _, ranked⟩⟩,
    -- rest negotiation (R119)
    and_assoc.mp ⟨clampTo_mem _, clampTo_mem _⟩, and_assoc.mp ⟨clampTo_mem _, min_le_right _ _⟩,
    -- the regulator (R139) and the exchange computer (R153)
    ⟨min_le_right _ _, min_le_right _ _, min_le_right _ _, min_le_right _ _, min_le_right _ _⟩,
    ⟨min_le_right _ _, min_le_right _ _, min_le_right _ _, min_le_right _ _⟩,
    and_assoc.mp ⟨clampTo_mem _, clampTo_mem _⟩, ⟨min_le_right _ _, min_le_right _ _⟩,
    -- events, dose outputs, the table and the windows (R165, R177, R69, R72)
    and_assoc.mp ⟨clampTo_mem _, List.forall_mem_map.mpr fun level _ => min_le_right level 7⟩,
    ⟨le_max_left _ _, le_max_left _ _⟩, List.forall_mem_map.mpr fun p _ => min_le_right p.temperature 4000,
    List.forall_mem_map.mpr fun w _ => le_max_right w.hysteresis 0⟩

end Sys2Proof.Machine
end

section
/-! SUPPORT. SETPOINT_WORD_END and DOSE_PULSE_END (R89, R177, R192). -/

namespace Sys2Proof.Machine

variable {s : State}

/-- SETPOINT_WORD_END of a working station. -/
theorem exec_setpointWordEnd (hw : works s = true) : exec .setpointWordEnd s = .next (wordEnds s) :=
  congrArg Host.Outcome.next (if_pos hw)

/-- DOSE_PULSE_END outside a hard reset lowers its output (R177). -/
theorem exec_dosePulseEnd (hr : s.pins.resetLow = false) :
    exec (.dosePulseEnd .dose0) s = .next { s with evu := { s.evu with dose0 := .stopped } } ∧
      exec (.dosePulseEnd .dose1) s = .next { s with evu := { s.evu with dose1 := .stopped } } := by
  simp [exec, execDosePulseEnd, hr]

/-- At its last stop bit a word ends: a waiting word begins, or the line is idle (R89). -/
theorem wordEnds_last {octets : List Octet} {last waiting : Bool} (h : s.dtu.setpt = .sending octets [last] waiting) :
    wordEnds s = if waiting then startWord s else setSetpt .idle s := by
  unfold wordEnds
  cases waiting <;> simp [h]

/-- A word with more to go, and an idle line, stay as they are (log 3). -/
theorem wordEnds_stands
    (h : s.dtu.setpt = .idle ∨ ∃ octets b b' bits waiting, s.dtu.setpt = .sending octets (b :: b' :: bits) waiting) :
    wordEnds s = s := by
  unfold wordEnds
  obtain h | ⟨_, _, _, _, _, h⟩ := h <;> simp [h]

/-- Settles O35: the four ways in which a word can stand at its end, and the two dose outputs. -/
theorem serialWordAndPulseEnd : Obligations.SerialWordAndPulseEnd := by
  refine ⟨fun s octets last hw => ?_, fun s hr => exec_dosePulseEnd hr⟩
  rw [exec_setpointWordEnd hw]
  refine ⟨fun b b' bits waiting h => ?_, fun h => ?_, fun h => ?_, fun h => ?_⟩
  · rw [wordEnds_stands (.inr ⟨_, _, _, _, _, h⟩)]
  · rw [wordEnds_stands (.inl h)]
  · rw [wordEnds_last h]
    rfl
  · rw [wordEnds_last h]
    rfl

end Sys2Proof.Machine
end

section
/-! SUPPORT. A change of duty, with what it may move beside the drive (R34, R81, R102, R166). -/

namespace Sys2Proof.Machine

variable {s t u : State} {new : Duty}

/-! ### The transmit side (R34)

Outside ACTIVE and during an attempt no selection moves the transmit side; a firing may bring one, and a STATE entry ends with
one. -/

/-- A selection can move the transmit side (R34). -/
def txFree (s : State) : Prop := s.frh.lineState = .active ∧ isSending s = false

/-- What the transmit side of `t` holds when the last selection since `s` was made from its outbox (R34). -/
def txSelected (s t : State) : Prop :=
  (txFree s → t.lif.tx = selectedTx s t.frh.outbox) ∧ (¬ txFree s → t.lif.tx = s.lif.tx)

theorem isSending_congr (h : u.lif.tx = s.lif.tx) : isSending u = isSending s := by simp only [isSending, h]

theorem txFree_congr (hf : u.frh.lineState = s.frh.lineState) (hl : isSending u = isSending s) : txFree u ↔ txFree s := by
  simp only [txFree, hf, hl]

theorem select_txSelected (s : State) : txSelected s (select s) := by
  refine ⟨fun ⟨ha, hs⟩ => ?_, fun h => ?_⟩
  · simp [select_hands_over s ha hs]
  · rw [select_stands]
    rwa [txFree, not_and_or, Bool.not_eq_false] at h

/-- A selection behind an operation that left a transmit side that was not free (R34). -/
theorem txSelected.behind (h : txSelected u t) (hf : u.frh.lineState = s.frh.lineState) (hstl : u.stl = s.stl)
    (hcut : cutTx u.lif.tx = cutTx s.lif.tx) (held : ¬ txFree s → u.lif.tx = s.lif.tx) : txSelected s t := by
  have free : txFree u ↔ txFree s := txFree_congr hf (isSending_of_cutTx hcut)
  have own (o : Outbox) : selectedTx u o = selectedTx s o := by simp only [selectedTx, ownNumber, hstl]
  exact ⟨fun hs => (h.1 (free.mpr hs)).trans (own _), fun hs => (h.2 fun hu => hs (free.mp hu)).trans (held hs)⟩

/-- A STATE entry ends with a selection; where none is kept, the line is not ACTIVE (R31, R34). -/
theorem enterStateFrame_txSelected (s : State) : txSelected s (enterStateFrame s) := by
  cases hk : keepsEntries s with
  | true =>
    unfold enterStateFrame
    dsimp only
    rw [if_pos hk]
    exact (select_txSelected _).behind rfl rfl rfl fun _ => rfl
  | false =>
    have stands : enterStateFrame s = s := if_neg (by simp [hk])
    rw [stands]
    exact ⟨fun ⟨ha, _⟩ => by simp [keepsEntries, ha] at hk, fun _ => rfl⟩

theorem moveDerate_tx (total quiet : Nat) (h : ¬ txFree s) : (moveDerate total quiet s).lif.tx = s.lif.tx := by
  unfold moveDerate capacityChanged
  dsimp only
  split
  · rfl
  · split
    · have entered := (enterStateFrame_txSelected (writeQuantity 5 .valid (cOwn (setDerate total quiet s))
        (setDerate total quiet s))).2 h
      simpa using entered
    · simp

theorem channelAction_tx (m : Mode) (h : ¬ txFree s) : (channelAction m s).lif.tx = s.lif.tx := by
  cases m with
  | derate => exact moveDerate_tx _ _ h
  | pulse0 | pulse1 | count => rfl

theorem offer_tx (f : Firing) (h : ¬ txFree s) : (offer f s).lif.tx = s.lif.tx := by
  unfold offer
  split
  · rename_i n _
    unfold channelActs
    dsimp only
    split <;> simp [channelAction_tx _ h]
  · simp

theorem offerAll_tx (fs : List Firing) (h : ¬ txFree s) : (offerAll fs s).lif.tx = s.lif.tx := by
  unfold offerAll
  induction fs generalizing s with
  | nil => rfl
  | cons f fs ih =>
    have offered := offer_tx f h
    exact (ih fun hf => h ((txFree_congr (by simp) (isSending_congr offered)).mp hf)).trans offered

/-! ### The parts of a change of duty (R102) -/

/-- The station whose change of duty has offered its firings, and has yet to make its STATE entry (R102). -/
def dutyOffered (new : Duty) (cause : List Firing) (s : State) : State :=
  offerAll (dutyChange new s.dtu.duty :: cause) (enterDuty new s)

/-- A change of duty moves the line by its STATE entry, and the quantities and the capacity by its firings (R102). -/
theorem takeDuty_parts (new : Duty) (cause : List Firing) (s : State) :
    let u := dutyOffered new cause s
    let t := takeDuty new cause s
    t.frh = (enterStateFrame u).frh ∧ t.lif = (enterStateFrame u).lif ∧ t.msu = u.msu ∧ t.evu = u.evu ∧
      t.dtu.derateTotal = u.dtu.derateTotal ∧ t.dtu.quietCount = u.dtu.quietCount ∧ t.dtu.target = u.dtu.target ∧
      t.dtu.normalTarget = (enterDuty new s).dtu.normalTarget := by
  dsimp only
  unfold takeDuty dutyOffered
  dsimp only
  split <;> simp

theorem takeDuty_txSelected (new : Duty) (cause : List Firing) (s : State) : txSelected s (takeDuty new cause s) := by
  obtain ⟨frh, lif, -⟩ := takeDuty_parts new cause s
  have selected := (enterStateFrame_txSelected (dutyOffered new cause s)).behind (s := s) (by simp [dutyOffered])
    (by simp [dutyOffered]) (by simp [dutyOffered]) fun h => by
      have entered : ¬ txFree (enterDuty new s) := by simpa [txFree, isSending] using h
      simpa [dutyOffered] using offerAll_tx _ entered
  rwa [txSelected, frh, lif]

/-- With no channel bound a change of duty only queues its firings (R102, R166). -/
theorem dutyOffered_unbound (cause : List Firing) (h : noChannelBound s) :
    dutyOffered new cause s =
      { enterDuty new s with evu := (enqueueAll (dutyChange new s.dtu.duty :: cause) s).evu } :=
  offerAll_unbound _ (noChannelBound_congr h (by simp)) (by simp) (by simp)

/-- A firing into the queue moves the queue and the dropped count of the event unit (R167, R169). -/
theorem enqueueAll_evu (fs : List Firing) (s : State) :
    (enqueueAll fs s).evu = { s.evu with queue := (enqueueAll fs s).evu.queue, dropped := (enqueueAll fs s).evu.dropped } := by
  unfold enqueueAll
  induction fs generalizing s with
  | nil => rfl
  | cons f fs ih =>
    rw [List.foldl_cons, ih (enqueue f s)]
    ext1 <;> simp

/-- A change of duty moves the drive and what hangs on it alone (R102). -/
theorem takeDuty_onlyDriveMoves (new : Duty) (cause : List Firing) (s : State) : OnlyDriveMoves s (takeDuty new cause s) := by
  obtain ⟨-, -, msu, evu, derateTotal, quietCount, -⟩ := takeDuty_parts new cause s
  obtain ⟨selected, held⟩ := takeDuty_txSelected new cause s
  refine ⟨?_, fun q _ h5 => ?_, ?_, by simp, fun h => ?_⟩
  · ext1
    case lif => ext1 <;> simp
    case msu => ext1 <;> simp
    case frh =>
      ext1
      case outbox => ext1 <;> simp
      all_goals simp
    all_goals simp
  · have offered : quantityOf (dutyOffered new cause s) q = quantityOf (enterDuty new s) q := quantityOf_offerAll _ _ h5
    simpa [quantityOf, msu] using offered
  · split
    · exact selected ‹_›
    · exact held ‹_›
  · rw [msu, evu, derateTotal, quietCount, dutyOffered_unbound cause h]
    exact ⟨enqueueAll_evu _ s, by simp, by simp, by simp⟩

/-! ### The drive through a change of duty (R81, R102, R104) -/

/-- In a duty that does not run, firings move no target (R81). -/
theorem offerAll_target (fs : List Firing) (h : s.dtu.duty.runs = false) : (offerAll fs s).dtu.target = s.dtu.target := by
  unfold offerAll
  induction fs generalizing s with
  | nil => rfl
  | cons f fs ih => exact (ih (by simpa using h)).trans ((offer_calm f s).target_same h)

/-- Outside RESTING no firing starts the recall timer (R104). -/
theorem offerAll_recallTimer (fs : List Firing) (hd : s.dtu.duty ≠ .resting) (h : s.dtu.recallTimer = .stopped) :
    (offerAll fs s).dtu.recallTimer = .stopped := by
  unfold offerAll
  induction fs generalizing s with
  | nil => exact h
  | cons f fs ih =>
    refine ih (by simpa using hd) ?_
    obtain same | stopped | resting := (offer_calm f s).recallTimer
    · exact same.trans h
    · exact stopped
    · exact absurd resting hd

/-- An entry to a duty stops the recall timer (R104). -/
theorem enterDuty_recallTimer (new : Duty) (s : State) : (enterDuty new s).dtu.recallTimer = .stopped := by
  unfold enterDuty
  cases new <;> dsimp only
  split <;> rfl

/-- A change of duty ends with the recall test in RESTING, and with none elsewhere (R102, R104). -/
theorem takeDuty_recall (new : Duty) (cause : List Firing) (s : State) :
    (takeDuty new cause s).dtu.recallTimer =
      if hasRole s .well = true ∧ new = .resting then
        if recallConditions (takeDuty new cause s) then .running (1000 * recallTime s) else .stopped
      else (dutyOffered new cause s).dtu.recallTimer := by
  have tested (u : State) (hstl : u.stl = s.stl) (hc : u.settings = s.settings) (hd : u.dtu.duty = new) :
      (testRecall u).dtu.recallTimer =
        if hasRole s .well = true ∧ new = .resting then
          if recallConditions (testRecall u) then .running (1000 * recallTime s) else .stopped
        else u.dtu.recallTimer := by
    have role : hasRole u .well = hasRole s .well := by simp only [hasRole, roleOf, hstl]
    have time : recallTime u = recallTime s := by simp only [recallTime, ownNumber, hstl, hc]
    rw [testRecall_eq, role, hd, time]
    rfl
  unfold takeDuty dutyOffered
  dsimp only
  split <;> rw [tested] <;> simp [enterDuty_duty]

/-- The recall timer stands stopped behind a change of duty, except in RESTING (R104). -/
theorem takeDuty_recallTimer (cause : List Firing) (h : new ≠ .resting) (s : State) :
    (takeDuty new cause s).dtu.recallTimer = .stopped := by
  rw [takeDuty_recall, if_neg fun hr => h hr.2]
  exact offerAll_recallTimer _ (by simpa [enterDuty_duty] using h) (enterDuty_recallTimer new s)

/-- The setpoint word of a change of duty falls due where the entry has moved the setpoint (R89, R102). -/
theorem takeDuty_setpt (cause : List Firing) (hw : hasRole s .well = true) (hl : s.frh.lineState ≠ .offline) :
    (takeDuty new cause s).dtu.setpt =
      if (enterDuty new s).dtu.setpoint = s.dtu.setpoint then s.dtu.setpt
      else dueWord s (enterDuty new s).dtu.setpoint new (enterDuty new s).dtu.runReq := by
  let u := enterStateFrame (dutyOffered new cause s)
  have role : hasRole u .well = true := by simpa [u, dutyOffered, hasRole, roleOf] using hw
  have word := sendWord_due (s := u) role (by simpa [u, dutyOffered] using hl)
  have due : dueWord u u.dtu.setpoint u.dtu.duty u.dtu.runReq =
      dueWord s (enterDuty new s).dtu.setpoint new (enterDuty new s).dtu.runReq := by
    simp [dueWord, u, dutyOffered, enterDuty_duty]
  have setpt : (takeDuty new cause s).dtu.setpt =
      if (enterDuty new s).dtu.setpoint ≠ s.dtu.setpoint then (sendWord u).dtu.setpt else u.dtu.setpt := by
    unfold takeDuty
    dsimp only
    split <;> simp [u, dutyOffered]
  rw [setpt, ite_not, word, due]
  simp [u, dutyOffered]

/-- Where the entry leaves the target, the firing of a change of duty can only lower it to the capacity left (R81, R102). -/
theorem takeDuty_lowered (h : (enterDuty new s).dtu.target = s.dtu.target) : targetLowered s (takeDuty new [] s) := by
  obtain ⟨-, -, -, -, derateTotal, -, target, -⟩ := takeDuty_parts new [] s
  have ceiling : capacityCeiling (takeDuty new [] s) = capacityCeiling (dutyOffered new [] s) := by
    simp [capacityCeiling, cOwn, derateTotal, dutyOffered]
  have calm := (offer_calm (dutyChange new s.dtu.duty) (enterDuty new s)).target
  rw [targetLowered, ceiling, target, ← h]
  exact calm.imp And.left And.right

/-- What a change of duty tells the negotiator (R102, R131, R136, R137). -/
theorem takeDuty_rng (new : Duty) (cause : List Firing) (s : State) :
    (takeDuty new cause s).rng = (tellNegotiator new s.dtu.duty s).rng := by
  have told (u : State) (hr : u.rng = s.rng) (hc : u.settings = s.settings) :
      (tellNegotiator new s.dtu.duty u).rng = (tellNegotiator new s.dtu.duty s).rng := by
    unfold tellNegotiator
    dsimp only
    split_ifs <;> simp [setAsk, setHoldOff, hr, hc]
  unfold takeDuty
  dsimp only
  simp only [testRecall_keeps]
  split <;> exact told _ (by simp) (by simp)

/-! ### The pump runs on (R107, R110, R111) -/

/-- The duties a running pump is in, or stops from, entered with no effect on the pump (R107, R110, R111). -/
def runsOn (new : Duty) (s : State) : Prop :=
  new = .asking ∨ new = .refused ∨ new = .stopping ∨ (new = .on ∧ s.dtu.duty ≠ .starting)

theorem enterDuty_runsOn (h : runsOn new s) :
    enterDuty new s = { s with dtu := { s.dtu with duty := new, recallTimer := .stopped } } := by
  obtain rfl | rfl | rfl | ⟨rfl, h⟩ := h
  · rfl
  · rfl
  · rfl
  · exact if_neg h

/-- A change of duty in which the pump runs on moves the duty, the recall timer, and what derate steps move (R81, R102). -/
theorem takeDuty_runsOn (cause : List Firing) (h : runsOn new s) :
    (takeDuty new cause s).dtu = { s.dtu with
      duty := new, recallTimer := .stopped, target := (takeDuty new cause s).dtu.target
      derateTotal := (takeDuty new cause s).dtu.derateTotal, quietCount := (takeDuty new cause s).dtu.quietCount } := by
  obtain ⟨-, -, -, -, -, -, -, normalTarget⟩ := takeDuty_parts new cause s
  obtain ⟨setpoint, runReq, startTimer, warmTimer, stopTimer, setpt⟩ := takeDuty_runs_on new cause s h
  have timer := takeDuty_recallTimer cause (new := new) (by obtain rfl | rfl | rfl | ⟨rfl, -⟩ := h <;> decide) s
  rw [enterDuty_runsOn h] at normalTarget
  ext1 <;> simp [*]

/-- The pump at rest behind an entry to RESTING, with the recall test (R103, R104, R113). -/
theorem takeDuty_resting (cause : List Firing) (hw : hasRole s .well = true) (hl : s.frh.lineState ≠ .offline) :
    (takeDuty .resting cause s).dtu = { s.dtu with
      duty := .resting, runReq := false, setpoint := 0, target := 0, startTimer := .stopped, warmTimer := .stopped
      stopTimer := .stopped, setpt := if s.dtu.setpoint = 0 then s.dtu.setpt else dueWord s 0 .resting false
      recallTimer :=
        if recallConditions (takeDuty .resting cause s) then .running (1000 * recallTime s) else .stopped
      derateTotal := (takeDuty .resting cause s).dtu.derateTotal
      quietCount := (takeDuty .resting cause s).dtu.quietCount } := by
  obtain ⟨-, -, -, -, -, -, target, normalTarget⟩ := takeDuty_parts .resting cause s
  obtain ⟨runReq, setpoint, startTimer, warmTimer, stopTimer⟩ := takeDuty_halts .resting cause s (.inr rfl)
  have timer := takeDuty_recall .resting cause s
  have word := takeDuty_setpt (new := .resting) cause hw hl
  have atRest : (dutyOffered .resting cause s).dtu.target = 0 := offerAll_target _ rfl
  rw [if_pos ⟨hw, rfl⟩] at timer
  ext1
  case recallTimer => exact timer
  case setpt => exact word.trans (if_congr eq_comm rfl rfl)
  case target => exact target.trans atRest
  case normalTarget => exact normalTarget
  all_goals simp [runReq, setpoint, startTimer, warmTimer, stopTimer]

/-! ### The ask (R110, R121) -/

/-- What an ON station that asks for rest leaves, where entries are kept (R102, R110, R121). -/
structure Asks (s t : State) : Prop where
  frame : t = { s with
    rng := t.rng, dtu := t.dtu, evu := t.evu, msu := { s.msu with quantities := t.msu.quantities }
    lif := { s.lif with tx := t.lif.tx }
    frh := { s.frh with
      outbox := { s.frh.outbox with restAsk := t.frh.outbox.restAsk, stateReport := t.frh.outbox.stateReport }
      lastC := t.frh.lastC } }
  rng : t.rng = { s.rng with ask := .waiting }
  dtu : t.dtu = { s.dtu with
    duty := .asking, recallTimer := .stopped, target := t.dtu.target, derateTotal := t.dtu.derateTotal
    quietCount := t.dtu.quietCount }
  restAsk : t.frh.outbox.restAsk = some (replacing s.frh.outbox.restAsk (.restAsk (cOwn t)))
  published : statePublished .asking t
  lowered : targetLowered s t
  unbound : noChannelBound s →
    t.evu = (enqueue (fire 24 3 2) s).evu ∧ t.msu = s.msu ∧ t.frh.lastC = some (cOwn s) ∧
      t.dtu.target = s.dtu.target ∧ t.dtu.derateTotal = s.dtu.derateTotal ∧ t.dtu.quietCount = s.dtu.quietCount

/-- A REST-ASK of a station that keeps entries stands in its slot with the capacity of its moment (R31, R121). -/
theorem enterAskFrame_kept (hk : keepsEntries s = true) :
    enterAskFrame s = { s with
      lif := { s.lif with tx := (enterAskFrame s).lif.tx }
      frh := { s.frh with outbox := { s.frh.outbox with
        restAsk := some (replacing s.frh.outbox.restAsk (.restAsk (cOwn s))) } } } := by
  have entered : enterAskFrame s = select _ := if_pos hk
  rw [entered]
  ext1
  case lif => ext1 <;> simp
  case frh => simp only [select_keeps]; rfl
  all_goals simp

/-- The change of duty of an ask, and what the ask record and the REST-ASK move behind it (R110, R121). -/
theorem enterAsking_parts (hk : keepsEntries s = true) :
    let q := takeDuty .asking [] s
    let t := enterAsking s
    t.dtu = q.dtu ∧ t.evu = q.evu ∧ t.msu = q.msu ∧ t.rng = { q.rng with ask := .waiting } ∧
      t.frh = { q.frh with outbox := { q.frh.outbox with
        restAsk := some (replacing q.frh.outbox.restAsk (.restAsk (cOwn q))) } } := by
  intro q t
  have entered : t = { setAsk .waiting q with
      lif := { q.lif with tx := t.lif.tx }
      frh := { q.frh with outbox := { q.frh.outbox with
        restAsk := some (replacing q.frh.outbox.restAsk (.restAsk (cOwn q))) } } } :=
    enterAskFrame_kept (s := setAsk .waiting q) (by simpa [q, keepsEntries] using hk)
  rw [entered]
  exact ⟨rfl, rfl, rfl, rfl, rfl⟩

/-- With no channel bound an ask queues its DUTY_CHANGE, publishes C_own and leaves flows and capacity (R38, R102, R110). -/
theorem enterAsking_unbound (hd : s.dtu.duty = .on) (hk : keepsEntries s = true) (hc : noChannelBound s) :
    let t := enterAsking s
    t.evu = (enqueue (fire 24 3 2) s).evu ∧ t.msu = s.msu ∧ t.frh.lastC = some (cOwn s) ∧
      t.dtu.target = s.dtu.target ∧ t.dtu.derateTotal = s.dtu.derateTotal ∧ t.dtu.quietCount = s.dtu.quietCount := by
  intro t
  obtain ⟨dtu, evu, msu, -, frh⟩ := enterAsking_parts hk
  obtain ⟨qfrh, -, qmsu, qevu, derateTotal, quietCount, target, -⟩ := takeDuty_parts .asking [] s
  have lastC : (takeDuty .asking [] s).frh.lastC = some (cOwn (dutyOffered .asking [] s)) := by
    rw [qfrh]
    exact (enterStateFrame_keeps_entry _ (by simpa [keepsEntries, dutyOffered] using hk)).2
  have queued := dutyOffered_unbound (new := .asking) [] hc
  rw [hd] at queued
  rw [evu, msu, dtu, frh, lastC, qevu, qmsu, target, derateTotal, quietCount, queued, enterDuty_runsOn (.inl rfl)]
  exact ⟨rfl, rfl, rfl, rfl, rfl, rfl⟩

/-- The ask of an ON station: its change of duty, the ask record, and the REST-ASK (R110, R121). -/
theorem enterAsking_asks (hd : s.dtu.duty = .on) (hk : keepsEntries s = true) : Asks s (enterAsking s) := by
  obtain ⟨dtu, -, -, rng, frh⟩ := enterAsking_parts hk
  have capacity : cOwn (enterAsking s) = cOwn (takeDuty .asking [] s) := by
    simp only [cOwn, dtu, enterAsking_keeps, takeDuty_keeps]
  have told : (takeDuty .asking [] s).rng = s.rng := by simp [takeDuty_rng, tellNegotiator, hd]
  have runs : runsOn .asking s := .inl rfl
  have published := takeDuty_statePublished .asking [] hk
  have lowered := takeDuty_lowered (new := .asking) (s := s) (by rw [enterDuty_runsOn runs])
  refine ⟨?_, told ▸ rng, dtu ▸ takeDuty_runsOn [] runs, ?_, by simpa [statePublished, frh] using published,
    by simpa [targetLowered, capacityCeiling, capacity, dtu] using lowered, enterAsking_unbound hd hk⟩
  · ext1
    case lif => ext1 <;> simp
    case msu => ext1 <;> simp
    case frh =>
      ext1
      case outbox => ext1 <;> simp
      all_goals simp
    all_goals simp
  · rw [capacity, frh]
    simp

/-- The whole of an ask with no channel bound (R102, R110, R121). -/
theorem Asks.unbound_eq (h : Asks s t) (hc : noChannelBound s) :
    t = { s with
      rng := { s.rng with ask := .waiting }, dtu := { s.dtu with duty := .asking, recallTimer := .stopped }
      evu := (enqueue (fire 24 3 2) s).evu, lif := { s.lif with tx := t.lif.tx }
      frh := { s.frh with
        outbox := { s.frh.outbox with
          restAsk := some (replacing s.frh.outbox.restAsk (.restAsk (cOwn s))), stateReport := t.frh.outbox.stateReport }
        lastC := some (cOwn s) } } := by
  obtain ⟨frame, rng, dtu, restAsk, -, -, unbound⟩ := h
  obtain ⟨evu, msu, lastC, target, derateTotal, quietCount⟩ := unbound hc
  have capacity : cOwn t = cOwn s := by rw [cOwn, derateTotal, frame]; rfl
  rw [target, derateTotal, quietCount] at dtu
  rw [rng, dtu, evu, msu, restAsk, lastC, capacity] at frame
  exact frame

end Sys2Proof.Machine
end

section
/-! SUPPORT. The operator's commands of a WELL station (R97, R110, R111, R113, R115, R116, R117, R121). -/

namespace Sys2Proof.Machine

variable {s t : State}

/-! ### What each command does where it is answered DONE -/

/-- An answer moves the panel port alone, which a change of duty leaves free. -/
theorem OnlyDriveMoves.answered (h : OnlyDriveMoves s t) (p : Pnp) : OnlyDriveMoves s (setPnp p t) :=
  ⟨congrArg (setPnp p) h.1, h.2⟩

theorem answer_done (s : State) : answer 1 .done [] s = respond [0] .nothing s := answer_zeros 0 .done s

/-- REST in ON (R110, R116). -/
theorem exec_rest (hw : hasRole s .well = true) (ht : takeable 0x10 s = true) (hk : keepsEntries s = true)
    (hd : s.dtu.duty = .on) : exec .rest s = .next (respond [0] .nothing (enterAsking s)) := by
  have online : served 0x10 s.frh.lineState = true := by
    simp only [keepsEntries, Bool.or_eq_true, beq_iff_eq] at hk
    obtain hl | hl := hk <;> rw [hl] <;> rfl
  have taken : exec .rest s = .next (takeRest s) := congrArg Host.Outcome.next (if_pos ht)
  have ruled : takeRest s = _ := if_pos online
  rw [taken, ruled]
  simp [hw, hd, answer_done]

/-- WAKE in ASKING (R111, R115). -/
theorem exec_wake_asking (hw : hasRole s .well = true) (ht : takeable 0x11 s = true) (hl : s.frh.lineState ≠ .offline)
    (hd : s.dtu.duty = .asking) : exec .wake s = .next (respond [0] .nothing (takeDuty .on [] s)) := by
  have taken : exec .wake s = .next (takeWake s) := congrArg Host.Outcome.next (if_pos ht)
  have ruled : takeWake s = _ := ifServed_online 1 _ hl (by decide)
  rw [taken, ruled]
  simp [hw, hd, answer_done]

/-- FAULT_CLEAR in FAULT with RUN_ACK low (R113, R117). -/
theorem exec_faultClear (hw : hasRole s .well = true) (ht : takeable 0x12 s = true) (hl : s.frh.lineState ≠ .offline)
    (hd : s.dtu.duty = .fault) (ha : s.dtu.runAck = false) :
    exec .faultClear s = .next (respond [0] .nothing (takeDuty .resting [] s)) := by
  have taken : exec .faultClear s = .next (takeFaultClear s) := congrArg Host.Outcome.next (if_pos ht)
  have ruled : takeFaultClear s = _ := ifServed_online 1 _ hl (by decide)
  rw [taken, ruled]
  simp [hw, hd, ha, answer_done]

/-- RELEASE_TRIP of a station in the trip set (R97). -/
theorem exec_releaseTrip {station : Octet} (hw : hasRole s .well = true) (ht : takeable 0x13 s = true)
    (hl : s.frh.lineState ≠ .offline) (hown : station.toNat ≠ ownNumber s) (hn : station.toNat < 32)
    (hin : inTripSet s station.toNat = true) :
    exec (.releaseTrip station) s = .next (respond [0] .nothing (removeTrip station.toNat 3 s)) := by
  have known : ¬ (31 < station.toNat ∨ station.toNat = ownNumber s) := by omega
  have taken : exec (.releaseTrip station) s = .next (takeReleaseTrip station s) := congrArg Host.Outcome.next (if_pos ht)
  have ruled : takeReleaseTrip station s = _ := ifServed_online 1 _ hl (by decide)
  rw [taken, ruled, if_neg known]
  simp [hw, hin, answer_done]

/-- A station that leaves the trip set moves the set, and by its firing the event unit and what hangs on C_own (R81, R97). -/
theorem removeTrip_frame (station detail : Nat) (h : inTripSet s station = true) :
    removeTrip station detail s = { s with
      evu := (removeTrip station detail s).evu
      msu := { s.msu with quantities := (removeTrip station detail s).msu.quantities }
      lif := { s.lif with tx := (removeTrip station detail s).lif.tx }
      frh := { s.frh with
        outbox := { s.frh.outbox with stateReport := (removeTrip station detail s).frh.outbox.stateReport }
        lastC := (removeTrip station detail s).frh.lastC }
      dtu := { s.dtu with
        tripSet := slotSet s.dtu.tripSet station none, target := (removeTrip station detail s).dtu.target
        derateTotal := (removeTrip station detail s).dtu.derateTotal
        quietCount := (removeTrip station detail s).dtu.quietCount
        recallTimer := (removeTrip station detail s).dtu.recallTimer } } := by
  have tripSet : (removeTrip station detail s).dtu.tripSet = slotSet s.dtu.tripSet station none := by
    rw [removeTrip, if_pos h]
    simp
  ext1
  case lif => ext1 <;> simp
  case msu => ext1 <;> simp
  case frh =>
    ext1
    case outbox => ext1 <;> simp
    all_goals simp
  case dtu => ext1 <;> simp [tripSet]
  all_goals simp

/-- Settles O58: each command's change of the drive, behind its answer. -/
theorem operatorCommandsAct : Obligations.OperatorCommandsAct := by
  intro s hw done
  refine ⟨fun ht hk hd => ?_, fun ht hl hd => ?_, fun ht hl hd ha => ?_, fun station ht hl hown hn hin => ?_⟩
  · refine ⟨_, exec_rest hw ht hk hd, ?_⟩
    obtain ⟨frame, rng, dtu, restAsk, published, lowered, -⟩ := enterAsking_asks hd hk
    exact ⟨rfl, rng, dtu, lowered, published, restAsk, congrArg (respond [0] .nothing) frame⟩
  · refine ⟨_, exec_wake_asking hw ht hl hd, ?_⟩
    have runs : runsOn .on s := .inr (.inr (.inr ⟨rfl, by simp [hd]⟩))
    have rng : (takeDuty .on [] s).rng = { s.rng with ask := .idle } := by simp [takeDuty_rng, tellNegotiator, hd, setAsk]
    exact ⟨(takeDuty_onlyDriveMoves .on [] s).answered _, rfl, rng, takeDuty_runsOn [] runs, takeDuty_backOn_target hd,
      takeDuty_statePublished .on []⟩
  · refine ⟨_, exec_faultClear hw ht hl hd ha, ?_⟩
    have rng : (takeDuty .resting [] s).rng = s.rng := by simp [takeDuty_rng, tellNegotiator, hd]
    exact ⟨(takeDuty_onlyDriveMoves .resting [] s).answered _, rfl, rng, takeDuty_resting [] hw hl,
      takeDuty_statePublished .resting []⟩
  · refine ⟨_, exec_releaseTrip hw ht hl hown hn hin, congrArg (respond [0] .nothing) (removeTrip_frame _ 3 hin),
      fun hc => ?_⟩
    obtain ⟨timer, -, removed⟩ := removeTrip_in (detail := 3) hin (takingChannel_of_unbound hc _)
    rw [removed]
    exact ⟨rfl, rfl⟩

end Sys2Proof.Machine
end

section
/-! SUPPORT. SHARE_TICK of a running WELL station (R82 to R89, R110). -/

namespace Sys2Proof.Machine

variable {s u w : State}

/-! ### What one tick computes (R84 to R88) -/

/-- The target of a tick of a running well (R86). -/
def tickTarget (s : State) : Nat :=
  if tripInForce s then min (tickNormalTarget s) s.settings.tripFlow else tickNormalTarget s

/-- The setpoint of a tick of a running well (R88). -/
def tickSetpoint (s : State) : Nat :=
  movedSetpoint s.dtu.setpoint (tickTarget s) s.settings.rampUp
    (if tripInForce s then s.settings.tripRamp else s.settings.rampDown)

/-- The demand exceeds the capacity sum at a tick outside JOINING (R87). -/
abbrev fallsShort (s : State) : Prop := s.frh.lineState ≠ .joining ∧ totalCapacity s < fieldDemand s

/-- SHORTFALL with the part not covered (R87). -/
def shortfall (s : State) : Firing := fireDetail 20 (min 65535 (fieldDemand s - totalCapacity s))

/-- The station with the SHORTFALL of its tick, where there is one, in the queue (R87). -/
def shortfallTold (s : State) : State := if fallsShort s then enqueue (shortfall s) s else s

/-- A running well after stages 2 to 4 of its tick, with no channel for SHORTFALL (R84 to R88). -/
def flowsShared (s : State) : State :=
  { s with
    evu := (shortfallTold s).evu
    dtu := { s.dtu with normalTarget := tickNormalTarget s, target := tickTarget s, setpoint := tickSetpoint s } }

@[simp] theorem shortfallTold_keeps (s : State) :
    (shortfallTold s).settings = s.settings ∧ (shortfallTold s).evu.channels = s.evu.channels := by
  unfold shortfallTold
  split <;> simp

theorem noChannelBound_flowsShared (h : noChannelBound s) : noChannelBound (flowsShared s) :=
  noChannelBound_congr h (by simp [flowsShared])

/-- The normal target: the share, or the one held in JOINING, within F_min and max(C_own, F_min) (R84, R85). -/
theorem tickNormalTarget_eq (s : State) :
    tickNormalTarget s =
      min (max (if s.frh.lineState = .joining then s.dtu.normalTarget else share s) s.settings.fMin) (capacityCeiling s) := by
  unfold tickNormalTarget
  split <;> rfl

/-! ### Stages 2 to 4: target, SHORTFALL, setpoint (R84 to R88) -/

/-- A duty that runs takes its normal target, held to the trip flow while a trip is in force (R86). -/
theorem dutyTarget_runs (h : s.dtu.duty.runs = true) :
    dutyTarget s = if tripInForce s then min s.dtu.normalTarget s.settings.tripFlow else s.dtu.normalTarget := by
  unfold dutyTarget
  cases hd : s.dtu.duty <;> simp [hd, Duty.runs] at h ⊢

theorem stageTarget_runs (h : s.dtu.duty.runs = true) :
    stageTarget s = { s with dtu := { s.dtu with normalTarget := tickNormalTarget s, target := tickTarget s } } := by
  unfold stageTarget
  rw [if_pos h]
  dsimp only
  rw [dutyTarget_runs]
  · rfl
  · exact h

theorem stageRamp_runs (h : s.dtu.duty.runs = true) :
    stageRamp s = setFlows s.dtu.target (movedSetpoint s.dtu.setpoint s.dtu.target s.settings.rampUp
      (if tripInForce s then s.settings.tripRamp else s.settings.rampDown)) s := by
  have moves : rampMoves s = true := by
    unfold rampMoves
    cases hd : s.dtu.duty <;> simp [hd, Duty.runs] at h ⊢
  rw [stageRamp, if_pos moves, rampedSetpoint, ramp_eq_movedSetpoint]

/-- Where no channel takes SHORTFALL, stage 3 moves the event unit alone (R87). -/
theorem stageShortfall_told (hr : s.dtu.duty.runs = true) (h : ¬ fallsShort s ∨ noChannelBound s) :
    stageShortfall (fieldDemand s) (totalCapacity s) (stageTarget s) =
      { stageTarget s with evu := (shortfallTold s).evu } := by
  have offers : stageShortfall (fieldDemand s) (totalCapacity s) (stageTarget s) =
      if fallsShort s then offer (shortfall s) (stageTarget s) else stageTarget s :=
    if_congr (by simp [hr]) rfl rfl
  rw [offers, shortfallTold]
  split
  · rename_i hs
    have free := takingChannel_of_unbound (h.resolve_left (not_not_intro hs)) (shortfall s)
    exact offer_queued ((takingChannel_congr _ (by simp)).trans free) (by simp) (by simp)
  · rw [stageTarget_runs hr]

theorem stages_flowsShared (hr : s.dtu.duty.runs = true) (h : ¬ fallsShort s ∨ noChannelBound s) :
    stageRamp (stageShortfall (fieldDemand s) (totalCapacity s) (stageTarget s)) = flowsShared s := by
  rw [stageShortfall_told hr h, stageTarget_runs hr, stageRamp_runs]
  · rfl
  · exact hr

/-! ### Stage 5: the ask of an ON whose capacity is below F_min (R110) -/

/-- In ACTIVE, an ON with C_own below F_min asks (R110). -/
abbrev mustAsk (s : State) : Prop := s.frh.lineState = .active ∧ s.dtu.duty = .on ∧ cOwn s < s.settings.fMin

theorem stageDuty_stays (hr : s.dtu.duty.runs = true) (h : ¬ mustAsk s) : stageDuty s = s := by
  unfold stageDuty
  cases hd : s.dtu.duty <;> simp [hd, Duty.runs] at hr ⊢
  exact fun hl hless => absurd ⟨hl, hd, hless⟩ h

theorem stageDuty_asks (h : mustAsk s) : stageDuty s = enterAsking s ∧ Asks s (enterAsking s) := by
  obtain ⟨hl, hd, hless⟩ := h
  exact ⟨by simp [stageDuty, hd, hl, hless], enterAsking_asks hd (by simp [keepsEntries, hl])⟩

/-- Stage 5 of a tick in a duty that runs leaves flows, capacity and measurements, where no channel takes its firing (R110). -/
theorem stageDuty_flows (hr : s.dtu.duty.runs = true) (h : ¬ mustAsk s ∨ noChannelBound s) :
    (stageDuty s).dtu.target = s.dtu.target ∧ (stageDuty s).dtu.setpoint = s.dtu.setpoint ∧
      cOwn (stageDuty s) = cOwn s ∧ (stageDuty s).msu = s.msu := by
  by_cases ha : mustAsk s
  · obtain ⟨entered, asked⟩ := stageDuty_asks ha
    rw [entered, asked.unbound_eq (h.resolve_left (not_not_intro ha))]
    exact ⟨rfl, rfl, rfl, rfl⟩
  · rw [stageDuty_stays hr ha]
    exact ⟨rfl, rfl, rfl, rfl⟩

/-! ### Stages 6 and 7: Q5 to Q9, and the setpoint word (R82, R89) -/

/-- The setpoint word of stage 7 (R89). -/
theorem sendWord_stageQuantities (v : Validity) (demand total : Nat) (hwell : hasRole w .well = true)
    (hl : w.frh.lineState ≠ .offline) :
    sendWord (stageQuantities v demand total w) =
      setSetpt (dueWord w w.dtu.setpoint w.dtu.duty w.dtu.runReq) (stageQuantities v demand total w) := by
  have role : hasRole (stageQuantities v demand total w) .well = true := by simpa [hasRole, roleOf] using hwell
  rw [sendWord_due role (by simpa using hl)]
  simp [dueWord]

/-- The quantities and the word of a running well's tick, behind the five stages before them (R82, R85, R89). -/
def tickEnds (s w : State) : State :=
  setSetpt (dueWord w w.dtu.setpoint w.dtu.duty w.dtu.runReq)
    (stageQuantities (if s.frh.lineState = .joining then .held else .valid) (fieldDemand s) (totalCapacity s) w)

theorem tickEnds_frame (s w : State) :
    tickEnds s w = { w with
      dtu := { w.dtu with setpt := dueWord w w.dtu.setpoint w.dtu.duty w.dtu.runReq }
      msu := { w.msu with quantities := (tickEnds s w).msu.quantities } } := by
  unfold tickEnds
  ext1
  case dtu => ext1 <;> simp
  case msu => ext1 <;> simp
  all_goals simp

/-- A read of the quantity table after a tick of a running well (R82, R83). -/
theorem quantityOf_tickEnds (s w : State) {q : Nat} (hq : q < 11) :
    quantityOf (tickEnds s w) q =
      if 9 = q then { validity := .valid, value := totalCapacity s, heldCount := 0 }
      else if 8 = q then { validity := .valid, value := fieldDemand s, heldCount := 0 }
      else if 7 = q then { validity := .valid, value := w.dtu.setpoint, heldCount := 0 }
      else if 6 = q then
        { validity := if s.frh.lineState = .joining then .held else .valid, value := w.dtu.target, heldCount := 0 }
      else if 5 = q then { validity := .valid, value := cOwn w, heldCount := 0 }
      else quantityOf w q := by
  have read (l : SetptLine) (u : State) : quantityOf (setSetpt l u) q = quantityOf u q := rfl
  simp only [tickEnds, read, stageQuantities, quantityOf_writeQuantity _ _ _ _ hq]

/-! ### The tick (R82) -/

/-- The tick of a running well, its stages in order (R82). -/
theorem exec_shareTick_running (hw : works s = true) (hwell : hasRole s .well = true) (hr : s.dtu.duty.runs = true)
    (h : ¬ fallsShort s ∨ noChannelBound s) : exec .shareTick s = .next (tickEnds s (stageDuty (flowsShared s))) := by
  have role : roleOf s = some .well := by simpa [hasRole] using hwell
  have ticks : exec .shareTick s = .next (wellShare s) := by simp [exec, execShareTick, hw, shareTick, role]
  rw [ticks, wellShare, stages_flowsShared hr h, sendWord_stageQuantities]
  · simp only [hr, Bool.true_and, beq_iff_eq]
    rfl
  · simpa [hasRole, roleOf, flowsShared] using hwell
  · simpa [flowsShared] using online_of_works hw

/-- A tick without an ask moves the flows and the word, and tells the SHORTFALL (R82). -/
theorem tickEnds_stays (s : State) :
    tickEnds s (flowsShared s) = { s with
      dtu := { s.dtu with
        normalTarget := tickNormalTarget s, target := tickTarget s, setpoint := tickSetpoint s
        setpt := dueWord s (tickSetpoint s) s.dtu.duty s.dtu.runReq }
      evu := (shortfallTold s).evu
      msu := { s.msu with quantities := (tickEnds s (flowsShared s)).msu.quantities } } := by
  rw [tickEnds_frame]
  rfl

/-- A tick with an ask moves the flows, enters ASKING with its STATE and its REST-ASK, and sends the word of ASKING (R82, R110). -/
theorem tickEnds_asks (asked : Asks (flowsShared s) w) (hc : noChannelBound s) :
    tickEnds s w = { s with
      dtu := { s.dtu with
        duty := .asking, normalTarget := tickNormalTarget s, target := tickTarget s, setpoint := tickSetpoint s
        recallTimer := .stopped, setpt := dueWord s (tickSetpoint s) .asking s.dtu.runReq }
      rng := { s.rng with ask := .waiting }, lif := { s.lif with tx := (tickEnds s w).lif.tx }
      frh := { s.frh with
        outbox := { s.frh.outbox with
          restAsk := some (replacing s.frh.outbox.restAsk (.restAsk (cOwn s)))
          stateReport := (tickEnds s w).frh.outbox.stateReport }
        lastC := some (cOwn s) }
      evu := (enqueue (fire 24 3 2) (shortfallTold s)).evu
      msu := { s.msu with quantities := (tickEnds s w).msu.quantities } } := by
  have queued : (enqueue (fire 24 3 2) (flowsShared s)).evu = (enqueue (fire 24 3 2) (shortfallTold s)).evu :=
    enqueue_evu_congr _ (by simp [flowsShared]) rfl
  have whole := asked.unbound_eq (noChannelBound_flowsShared hc)
  rw [queued] at whole
  rw [tickEnds_frame, whole]
  rfl

/-- Settles O31: the flows of the tick, with its SHORTFALL, its ask, its quantities and its word. -/
theorem runningWellTakesShare : Obligations.RunningWellTakesShare := by
  intro s hw hwell hr short asks firing shared normal target setpoint
  by_cases hp : (¬ short ∧ ¬ asks) ∨ noChannelBound s
  case neg => exact ⟨_, rfl, fun h => absurd h hp⟩
  have hnormal : tickNormalTarget s = normal := tickNormalTarget_eq s
  have htarget : tickTarget s = target := by rw [tickTarget, hnormal]
  have hsetpoint : tickSetpoint s = setpoint := by rw [tickSetpoint, htarget]
  have evu : (shortfallTold s).evu = if short then (enqueue firing s).evu else s.evu := apply_ite State.evu _ _ _
  obtain ⟨flow, moved, capacity, msu⟩ := stageDuty_flows (s := flowsShared s) hr (hp.imp And.right noChannelBound_flowsShared)
  refine ⟨_, exec_shareTick_running hw hwell hr (hp.imp_left And.left),
    fun _ => ⟨fun ha => ?_, fun ha => ?_, ?_, ?_, ?_, ?_, ?_, fun q hq hout => ?_⟩⟩
  · have stays := tickEnds_stays s
    rwa [hnormal, htarget, hsetpoint, evu, ← stageDuty_stays (s := flowsShared s) hr ha] at stays
  · obtain ⟨entered, asked⟩ := stageDuty_asks (s := flowsShared s) ha
    rw [entered]
    have whole := tickEnds_asks asked (hp.resolve_left fun h => h.2 ha)
    rw [hnormal, htarget, hsetpoint] at whole
    exact ⟨whole, by simpa [statePublished, tickEnds] using asked.published⟩
  all_goals rw [quantityOf_tickEnds _ _ (by omega)]
  · rw [capacity]; rfl
  · rw [flow, ← htarget]; rfl
  · rw [moved, ← hsetpoint]; rfl
  · rfl
  · rfl
  · have outside : quantityOf (stageDuty (flowsShared s)) q = quantityOf s q := by rw [quantityOf, msu]; rfl
    rw [if_neg (by omega), if_neg (by omega), if_neg (by omega), if_neg (by omega), if_neg (by omega), outside]

end Sys2Proof.Machine
end

section
/-! SUPPORT. The drive's answers and the duty timers of a WELL station (R100, R101, R105 to R108, R112 to R115). -/

namespace Sys2Proof.Machine

variable {s t u : State} {new : Duty}

/-! ### The pump starts, fails, or comes to ON from its warm-up (R103, R106, R107, R113) -/

/-- The drive behind a change of duty is as its entry sets it, but for the word, the recall test and what derate steps move
(R81, R89, R102, R104). -/
theorem takeDuty_dtu (cause : List Firing) (hw : hasRole s .well = true) (hl : s.frh.lineState ≠ .offline)
    (hr : new ≠ .resting) :
    (takeDuty new cause s).dtu = { (enterDuty new s).dtu with
      recallTimer := .stopped
      setpt :=
        if (enterDuty new s).dtu.setpoint = s.dtu.setpoint then s.dtu.setpt
        else dueWord s (enterDuty new s).dtu.setpoint new (enterDuty new s).dtu.runReq
      target := (takeDuty new cause s).dtu.target, derateTotal := (takeDuty new cause s).dtu.derateTotal
      quietCount := (takeDuty new cause s).dtu.quietCount } := by
  obtain ⟨-, -, -, -, -, -, -, normalTarget⟩ := takeDuty_parts new cause s
  have pump : (takeDuty new cause s).dtu.setpoint = (enterDuty new s).dtu.setpoint ∧
      (takeDuty new cause s).dtu.runReq = (enterDuty new s).dtu.runReq ∧
      (takeDuty new cause s).dtu.startTimer = (enterDuty new s).dtu.startTimer ∧
      (takeDuty new cause s).dtu.warmTimer = (enterDuty new s).dtu.warmTimer ∧
      (takeDuty new cause s).dtu.stopTimer = (enterDuty new s).dtu.stopTimer := by
    unfold takeDuty
    dsimp only
    split <;> simp
  obtain ⟨setpoint, runReq, startTimer, warmTimer, stopTimer⟩ := pump
  ext1
  case recallTimer => exact takeDuty_recallTimer cause hr s
  case setpt => exact takeDuty_setpt cause hw hl
  case normalTarget => exact normalTarget
  all_goals simp [enterDuty_duty, *]

/-- In a duty that does not run the target stands as the entry sets it (R81). -/
theorem takeDuty_target (cause : List Firing) (h : new.runs = false) :
    (takeDuty new cause s).dtu.target = (enterDuty new s).dtu.target := by
  obtain ⟨-, -, -, -, -, -, target, -⟩ := takeDuty_parts new cause s
  exact target.trans (offerAll_target _ (by rwa [enterDuty_duty]))

/-- The entry to STARTING (R106). -/
theorem takeDuty_starting (cause : List Firing) (hw : hasRole s .well = true) (hl : s.frh.lineState ≠ .offline) :
    (takeDuty .starting cause s).dtu = { s.dtu with
      duty := .starting, setpoint := 0, target := 0, runReq := !s.dtu.runAck
      startTimer := .running (1000 * s.settings.startTimeout), warmTimer := .stopped, stopTimer := .stopped
      recallTimer := .stopped
      setpt := if s.dtu.setpoint = 0 then s.dtu.setpt else dueWord s 0 .starting (!s.dtu.runAck)
      derateTotal := (takeDuty .starting cause s).dtu.derateTotal
      quietCount := (takeDuty .starting cause s).dtu.quietCount } := by
  have parts := takeDuty_dtu (new := .starting) cause hw hl (by decide)
  rw [takeDuty_target cause rfl] at parts
  rw [parts, ← if_congr (eq_comm (a := 0) (b := s.dtu.setpoint)) rfl rfl]
  rfl

/-- The entry to FAULT (R113). -/
theorem takeDuty_fault (cause : List Firing) (hw : hasRole s .well = true) (hl : s.frh.lineState ≠ .offline) :
    (takeDuty .fault cause s).dtu = { s.dtu with
      duty := .fault, runReq := false, setpoint := 0, target := 0, startTimer := .stopped, warmTimer := .stopped
      stopTimer := .stopped, recallTimer := .stopped
      setpt := if s.dtu.setpoint = 0 then s.dtu.setpt else dueWord s 0 .fault false
      derateTotal := (takeDuty .fault cause s).dtu.derateTotal
      quietCount := (takeDuty .fault cause s).dtu.quietCount } := by
  have parts := takeDuty_dtu (new := .fault) cause hw hl (by decide)
  rw [takeDuty_target cause rfl] at parts
  rw [parts, ← if_congr (eq_comm (a := 0) (b := s.dtu.setpoint)) rfl rfl]
  rfl

/-- FAULT is out while a WELL station is in FAULT (R185). -/
theorem takeDuty_faultOut (cause : List Firing) (hw : hasRole s .well = true) :
    faultOut (takeDuty .fault cause s) = true := by
  have role : hasRole (takeDuty .fault cause s) .well = true := by simpa [hasRole, roleOf] using hw
  simp [faultOut, role]

/-- The entry to ON from STARTING (R107). -/
theorem warmUpEnds_dtu (hw : hasRole s .well = true) (hl : s.frh.lineState ≠ .offline) (hd : s.dtu.duty = .starting) :
    (warmUpEnds s).dtu = { s.dtu with
      duty := .on, warmTimer := .stopped, normalTarget := s.settings.fMin, recallTimer := .stopped
      target := (warmUpEnds s).dtu.target, derateTotal := (warmUpEnds s).dtu.derateTotal
      quietCount := (warmUpEnds s).dtu.quietCount } := by
  have entered : enterDuty .on s = { s with dtu := { s.dtu with
      duty := .on, recallTimer := .stopped, warmTimer := .stopped, normalTarget := s.settings.fMin } } := if_pos hd
  have parts := takeDuty_dtu (new := .on) [] hw hl (by decide)
  rw [entered, if_pos rfl] at parts
  exact parts

/-- What the end of the warm-up leaves of target, negotiator and panel port (R81, R107). -/
theorem warmUpEnds_rest (hd : s.dtu.duty = .starting) :
    targetLowered s (warmUpEnds s) ∧ (warmUpEnds s).rng = s.rng ∧ (warmUpEnds s).pnp = s.pnp := by
  refine ⟨takeDuty_lowered ?_, ?_, ?_⟩
  · simp [enterDuty, hd]
  · simp [warmUpEnds, takeDuty_rng, tellNegotiator, hd]
  · simp [warmUpEnds]

/-- Out of a duty with no ask and no hold-off, and not into REFUSED, the negotiator stands (R131, R136). -/
theorem takeDuty_rng_stands (cause : List Firing) (hn : new ≠ .refused) (ha : s.dtu.duty ≠ .asking)
    (hr : s.dtu.duty ≠ .refused) : (takeDuty new cause s).rng = s.rng := by
  simp [takeDuty_rng, tellNegotiator, hn, ha, hr]

/-! ### The commands that start the pump (R105, R106, R115) -/

/-- A running timer of a working WELL station can reach its limit. -/
theorem timerEnds_running {x : Timer} (hw : works s = true) (hwell : hasRole s .well = true) (h : x ≠ .stopped) :
    timerEnds s x = true := by
  simp [timerEnds, hw, hwell, h]

/-- RECALL_EXPIRY while the recall timer runs (R105). -/
theorem exec_recallExpiry (hw : works s = true) (hwell : hasRole s .well = true) (h : s.dtu.recallTimer ≠ .stopped) :
    exec .recallExpiry s = .next (takeDuty .starting [] s) :=
  congrArg Host.Outcome.next (if_pos (timerEnds_running hw hwell h))

/-- WAKE in RESTING with RUN_ACK low (R115). -/
theorem exec_wake_resting (hw : hasRole s .well = true) (ht : takeable 0x11 s = true) (hl : s.frh.lineState ≠ .offline)
    (hd : s.dtu.duty = .resting) (ha : s.dtu.runAck = false) :
    exec .wake s = .next (respond [0] .nothing (takeDuty .starting [] s)) := by
  have taken : exec .wake s = .next (takeWake s) := congrArg Host.Outcome.next (if_pos ht)
  have ruled : takeWake s = _ := ifServed_online 1 _ hl (by decide)
  rw [taken, ruled]
  simp [hw, hd, ha, answer_done]

/-- A rise of the filtered level, and what a working station makes of it (R101). -/
theorem exec_runAckRising (hreset : s.pins.resetLow = false) (ha : s.dtu.runAck = false) :
    exec .runAckRising s = .next (if works s then runAckRises (setRunAck true s) else setRunAck true s) :=
  congrArg Host.Outcome.next (if_neg (by simp [hreset, ha]))

/-- In a WELL station the rise is the acknowledge in STARTING with RUN_REQ high and none yet, and else nothing (R101, R106). -/
theorem runAckRises_iff (s : State) :
    runAckRises s =
      if hasRole s .well = true ∧ s.dtu.duty = .starting ∧ s.dtu.runReq = true ∧ s.dtu.warmTimer = .stopped then acknowledge s
      else s :=
  if_congr (by simp [and_assoc]) rfl rfl

/-- The pump after its acknowledge, with the word of its F_min due (R89, R106). -/
def pumpAcknowledged (s : State) : State :=
  { s with dtu :=
    { s.dtu with
      runAck := true, startTimer := .stopped, target := s.settings.fMin, setpoint := s.settings.fMin
      warmTimer := .running (1000 * s.settings.warmUp), setpt := dueWord s s.settings.fMin .starting true } }

/-- The acknowledge begins the warm-up, which ends at once where it is 0 (R106, R107). -/
theorem acknowledge_eq (hwell : hasRole s .well = true) (hl : s.frh.lineState ≠ .offline) (hd : s.dtu.duty = .starting)
    (hreq : s.dtu.runReq = true) :
    acknowledge (setRunAck true s) =
      if s.settings.warmUp = 0 then warmUpEnds (pumpAcknowledged s) else pumpAcknowledged s := by
  have sent : sendWord (acknowledged (setRunAck true s)) = pumpAcknowledged s := by
    rw [sendWord_due (s := acknowledged (setRunAck true s)) hwell hl]
    have word : dueWord (acknowledged (setRunAck true s)) s.settings.fMin s.dtu.duty s.dtu.runReq =
        dueWord s s.settings.fMin .starting true := by rw [hd, hreq]; rfl
    exact congrArg (fun l => setSetpt l (acknowledged (setRunAck true s))) word
  have begun : acknowledge (setRunAck true s) =
      if (sendWord (acknowledged (setRunAck true s))).settings.warmUp = 0
      then warmUpEnds (sendWord (acknowledged (setRunAck true s)))
      else sendWord (acknowledged (setRunAck true s)) := rfl
  rw [begun, sent]
  rfl

/-- Settles O32: the entry to STARTING by its two commands, and the acknowledge with and without a warm-up. -/
theorem recallAndWakeStartThePump : Obligations.RecallAndWakeStartThePump := by
  refine ⟨fun s hw hwell c hc => ?_, fun s hreset ha => ?_⟩
  · have online := online_of_works hw
    have resting : s.dtu.duty = .resting := by obtain ⟨-, -, hd⟩ | ⟨-, -, hd, -⟩ := hc <;> exact hd
    have dtu := takeDuty_starting (s := s) [] hwell online
    have rng : (takeDuty .starting [] s).rng = s.rng :=
      takeDuty_rng_stands [] (by decide) (by simp [resting]) (by simp [resting])
    have moves := takeDuty_onlyDriveMoves .starting [] s
    obtain ⟨rfl, hrun, -⟩ | ⟨rfl, ht, -, hack⟩ := hc
    · exact ⟨_, exec_recallExpiry hw hwell hrun, moves, dtu, rng, takeDuty_statePublished .starting [], by simp⟩
    · exact ⟨_, exec_wake_resting hwell ht online resting hack, moves.answered _, dtu, rng,
        takeDuty_statePublished .starting [], rfl⟩
  rw [exec_runAckRising hreset ha, runAckRises_iff]
  refine ⟨fun hno => congrArg Host.Outcome.next ?_, fun hw hwell hd hreq hwarm => ?_⟩
  · split
    · exact if_neg fun hack => hno ⟨‹_›, hack⟩
    · rfl
  · have online := online_of_works hw
    have role : hasRole (setRunAck true s) .well = true := hwell
    rw [if_pos hw, if_pos ⟨role, hd, hreq, hwarm⟩, acknowledge_eq hwell online hd hreq]
    refine ⟨fun h0 => by rw [if_neg h0]; rfl, fun h0 => ?_⟩
    rw [if_pos h0]
    obtain ⟨lowered, rng, pnp⟩ := warmUpEnds_rest (s := pumpAcknowledged s) hd
    exact ⟨_, rfl, takeDuty_onlyDriveMoves .on [] _, warmUpEnds_dtu (s := pumpAcknowledged s) hwell online hd, lowered, rng,
      pnp, takeDuty_statePublished .on [] (s := pumpAcknowledged s)⟩

/-! ### RUN_ACK_FALLING (R100, R101, R108, R112, R114) -/

/-- A fall of the filtered level, and what a working station makes of it (R101). -/
theorem exec_runAckFalling (hreset : s.pins.resetLow = false) (ha : s.dtu.runAck = true) :
    exec .runAckFalling s = .next (if works s then runAckFalls (setRunAck false s) else setRunAck false s) :=
  congrArg Host.Outcome.next (if_neg (by simp [hreset, ha]))

/-- A duty in which RUN_REQ high means a driven pump: one that runs, STOPPING, or STARTING past its acknowledge (R100). -/
def pumpDriven (s : State) : Prop :=
  s.dtu.duty.runs = true ∨ s.dtu.duty = .stopping ∨ (s.dtu.duty = .starting ∧ s.dtu.warmTimer ≠ .stopped)

/-- What a WELL station makes of the fall, by its duty (R100, R101, R108, R112, R114). -/
theorem runAckFalls_duty (hw : hasRole s .well = true) :
    (s.dtu.duty = .starting → s.dtu.runReq = false → runAckFalls s = setRunReq true s) ∧
      (s.dtu.duty = .starting → s.dtu.runReq = true → s.dtu.warmTimer = .stopped → runAckFalls s = s) ∧
      (pumpDriven s → s.dtu.runReq = true → runAckFalls s = driveLoss s) ∧
      (s.dtu.duty = .stopping → s.dtu.runReq = false → runAckFalls s = takeDuty .resting [] s) ∧
      (s.dtu.duty = .resting ∨ s.dtu.duty = .fault → runAckFalls s = s) := by
  have ruled : runAckFalls s = _ := if_pos hw
  rw [ruled]
  refine ⟨fun hd hreq => ?_, fun hd hreq hwarm => ?_, fun driven hreq => ?_, fun hd hreq => ?_, fun hd => ?_⟩
  · simp [hd, hreq]
  · simp [hd, hreq, hwarm]
  · rw [hreq]
    obtain h | h | ⟨h, hwarm⟩ := driven
    · cases hd : s.dtu.duty <;> simp [hd, Duty.runs] at h ⊢
    · simp [h]
    · simp [h, hwarm]
  · simp [hd, hreq]
  · obtain hd | hd := hd <;> simp [hd]

/-- What a drive loss tells the negotiator: the ask is over, or the hold-off (R131, R136). -/
theorem takeDuty_fault_rng (cause : List Firing) (s : State) :
    (takeDuty .fault cause s).rng =
      if s.dtu.duty = .asking then { s.rng with ask := .idle }
      else if s.dtu.duty = .refused then { s.rng with holdOff := .stopped } else s.rng := by
  rw [takeDuty_rng]
  cases hd : s.dtu.duty <;> rfl

/-- Settles O33: the fall of the filtered level, and what the duty makes of it. -/
theorem fallingAckByDuty : Obligations.FallingAckByDuty := by
  intro s hreset ha fallen halted
  rw [exec_runAckFalling hreset ha]
  refine ⟨fun hno => congrArg Host.Outcome.next ?_, fun hw hwell => ?_⟩
  · split
    · exact if_neg fun hwell => hno ⟨‹_›, hwell⟩
    · rfl
  rw [if_pos hw]
  have role : hasRole fallen .well = true := hwell
  have online : fallen.frh.lineState ≠ .offline := online_of_works hw
  obtain ⟨raises, waits, lost, stops, rests⟩ := runAckFalls_duty role
  refine ⟨fun hd hreq => ?_, fun hd hreq hwarm => ?_, fun driven hreq => ?_, fun hd hreq => ?_, fun hd => ?_⟩
  · exact congrArg Host.Outcome.next (raises hd hreq)
  · exact congrArg Host.Outcome.next (waits hd hreq hwarm)
  · have dtu := takeDuty_fault (s := fallen) [fireDetail 23 s.dtu.duty.code] role online
    have timer : (driveLoss fallen).dtu.recallTimer = .stopped := congrArg Dtu.recallTimer dtu
    refine ⟨_, congrArg Host.Outcome.next (lost driven hreq), takeDuty_onlyDriveMoves .fault _ fallen, ?_, timer,
      takeDuty_fault_rng _ fallen, by simp [driveLoss, fallen], takeDuty_faultOut _ role,
      takeDuty_statePublished (s := fallen) .fault _⟩
    exact dtu.trans (by simp only [halted, timer]; rfl)
  · have dtu := takeDuty_resting (s := fallen) [] role online
    have timer := congrArg Dtu.recallTimer dtu
    have rng : (takeDuty .resting [] fallen).rng = fallen.rng :=
      takeDuty_rng_stands [] (by decide) (by simp [fallen, hd]) (by simp [fallen, hd])
    refine ⟨_, congrArg Host.Outcome.next (stops hd hreq), takeDuty_onlyDriveMoves .resting [] fallen, ?_, timer, rng,
      by simp [fallen], takeDuty_statePublished (s := fallen) .resting []⟩
    exact dtu.trans (by simp only [halted, timer]; rfl)
  · exact congrArg Host.Outcome.next (rests hd)

end Sys2Proof.Machine
end

section
/-! SUPPORT. The duty timers, and SHARE_TICK of a WELL station whose duty does not run (R82, R83, R86, R88, R89, R104, R107,
R108, R113, R114). -/

namespace Sys2Proof.Machine

variable {s w : State}

/-! ### START_TIMEOUT, STOP_TIMEOUT and WARM_UP_EXPIRY (R107, R108, R114) -/

/-- START_TIMEOUT while the start timer runs (R108). -/
theorem exec_startTimeout (hw : works s = true) (hwell : hasRole s .well = true) (h : s.dtu.startTimer ≠ .stopped) :
    exec .startTimeout s = .next (takeDuty .fault [fireDetail 21 (if s.dtu.runReq then 1 else 2)] s) :=
  congrArg Host.Outcome.next (if_pos (timerEnds_running hw hwell h))

/-- STOP_TIMEOUT while the stop timer runs (R114). -/
theorem exec_stopTimeout (hw : works s = true) (hwell : hasRole s .well = true) (h : s.dtu.stopTimer ≠ .stopped) :
    exec .stopTimeout s = .next (takeDuty .fault [{ source := 22, subject := none, detail := none }] s) :=
  congrArg Host.Outcome.next (if_pos (timerEnds_running hw hwell h))

/-- WARM_UP_EXPIRY while the warm-up runs (R107). -/
theorem exec_warmUpExpiry (hw : works s = true) (hwell : hasRole s .well = true) (h : s.dtu.warmTimer ≠ .stopped) :
    exec .warmUpExpiry s = .next (warmUpEnds s) :=
  congrArg Host.Outcome.next (if_pos (timerEnds_running hw hwell h))

/-! ### Stages 2 to 4 of the tick: target and setpoint of a duty that does not run (R86, R88) -/

/-- A start past its acknowledge: its warm-up runs (R106). -/
abbrev warmsUp (s : State) : Prop := s.dtu.duty = .starting ∧ s.dtu.warmTimer ≠ .stopped

/-- A stop still on its ramp (R114). -/
abbrev rampsDown (s : State) : Prop := s.dtu.duty = .stopping ∧ s.dtu.runReq = true

/-- The target of a duty that does not run (R86). -/
def idleTarget (s : State) : Nat := if warmsUp s ∨ s.dtu.duty = .stopping then s.settings.fMin else 0

/-- The setpoint of a duty that does not run, after a tick (R88). -/
def idleSetpoint (s : State) : Nat :=
  if warmsUp s ∨ rampsDown s then
    movedSetpoint s.dtu.setpoint (idleTarget s) s.settings.rampUp
      (if tripInForce s then s.settings.tripRamp else s.settings.rampDown)
  else s.dtu.setpoint

theorem dutyTarget_idle (h : s.dtu.duty.runs = false) : dutyTarget s = idleTarget s := by
  unfold dutyTarget idleTarget warmsUp
  cases hd : s.dtu.duty <;> simp [hd, Duty.runs] at h ⊢

theorem rampMoves_idle (h : s.dtu.duty.runs = false) : rampMoves s = true ↔ warmsUp s ∨ rampsDown s := by
  unfold rampMoves warmsUp rampsDown
  cases hd : s.dtu.duty <;> simp [hd, Duty.runs] at h ⊢

/-- Stages 2 to 4 of a tick in a duty that does not run: no SHORTFALL, and the flows (R86, R87, R88). -/
theorem stages_idle (demand total : Nat) (h : s.dtu.duty.runs = false) :
    stageRamp (stageShortfall demand total (stageTarget s)) = setFlows (idleTarget s) (idleSetpoint s) s := by
  have targeted : stageTarget s = setFlows (idleTarget s) s.dtu.setpoint s := by simp [stageTarget, h, dutyTarget_idle h]
  have untold : stageShortfall demand total (stageTarget s) = stageTarget s := if_neg (by simp [h])
  have moves : rampMoves (setFlows (idleTarget s) s.dtu.setpoint s) = true ↔ warmsUp s ∨ rampsDown s := rampMoves_idle h
  rw [untold, targeted, stageRamp, rampedSetpoint, ramp_eq_movedSetpoint, idleSetpoint]
  by_cases hm : warmsUp s ∨ rampsDown s
  · rw [if_pos (moves.mpr hm), if_pos hm]
    rfl
  · rw [if_neg (mt moves.mp hm), if_neg hm]

/-! ### Stage 5 (R104, R114) -/

/-- A stop whose setpoint has come to F_min ends its ramp (R114). -/
theorem stageDuty_rampEnds (h : rampsDown s) (hf : s.dtu.setpoint = s.settings.fMin) : stageDuty s = stopRampEnds s := by
  simp [stageDuty, h.1, h.2, hf]

/-- In a duty that does not run, and short of the end of a stop's ramp, stage 5 is the recall test of RESTING (R104). -/
theorem stageDuty_idle (hwell : hasRole s .well = true) (h : s.dtu.duty.runs = false)
    (hne : ¬ (rampsDown s ∧ s.dtu.setpoint = s.settings.fMin)) :
    stageDuty s = setRecallTimer
      (if s.dtu.duty = .resting then if recallConditions s then .running (1000 * recallTime s) else .stopped
      else s.dtu.recallTimer) s := by
  unfold stageDuty
  cases hd : s.dtu.duty with
  | on | asking | refused => simp [hd, Duty.runs] at h
  | resting => simp [testRecall_eq, hwell, hd]
  | starting | fault => rfl
  | stopping =>
    have rests : ¬ (s.dtu.runReq = true ∧ s.dtu.setpoint = s.settings.fMin) := fun hs => hne ⟨⟨hd, hs.1⟩, hs.2⟩
    simp only [if_neg rests]
    rfl

/-! ### Stages 6 and 7 (R82, R83, R89) -/

/-- The quantities and the word at the end of a tick in a duty that does not run (R82, R89). -/
def idleTickEnds (s w : State) : State :=
  setSetpt (dueWord w w.dtu.setpoint w.dtu.duty w.dtu.runReq) (stageQuantities .valid (fieldDemand s) (totalCapacity s) w)

theorem idleTickEnds_frame (s w : State) :
    idleTickEnds s w = { w with
      dtu := { w.dtu with setpt := dueWord w w.dtu.setpoint w.dtu.duty w.dtu.runReq }
      msu := { w.msu with quantities := (idleTickEnds s w).msu.quantities } } := by
  unfold idleTickEnds
  ext1
  case dtu => ext1 <;> simp
  case msu => ext1 <;> simp
  all_goals simp

theorem quantityOf_idleTickEnds (s w : State) {q : Nat} (hq : q < 11) :
    quantityOf (idleTickEnds s w) q =
      if 9 = q then { validity := .valid, value := totalCapacity s, heldCount := 0 }
      else if 8 = q then { validity := .valid, value := fieldDemand s, heldCount := 0 }
      else if 7 = q then { validity := .valid, value := w.dtu.setpoint, heldCount := 0 }
      else if 6 = q then { validity := .valid, value := w.dtu.target, heldCount := 0 }
      else if 5 = q then { validity := .valid, value := cOwn w, heldCount := 0 }
      else quantityOf w q := by
  have read (l : SetptLine) (u : State) : quantityOf (setSetpt l u) q = quantityOf u q := rfl
  simp only [idleTickEnds, read, stageQuantities, quantityOf_writeQuantity _ _ _ _ hq]

/-! ### The tick (R82) -/

/-- The tick of a duty that does not run, its stages in order (R82). -/
theorem exec_shareTick_idle (hw : works s = true) (hwell : hasRole s .well = true) (h : s.dtu.duty.runs = false) :
    exec .shareTick s = .next (idleTickEnds s (stageDuty (setFlows (idleTarget s) (idleSetpoint s) s))) := by
  have role : roleOf s = some .well := by simpa [hasRole] using hwell
  have ticks : exec .shareTick s = .next (wellShare s) := by simp [exec, execShareTick, hw, shareTick, role]
  rw [ticks, wellShare, stages_idle _ _ h, sendWord_stageQuantities]
  · simp only [h, Bool.false_and]
    rfl
  · simpa [hasRole, roleOf] using hwell
  · simpa using online_of_works hw

/-- A tick that ends no ramp moves the flows and the word, and tests the recall in RESTING (R86, R88, R89, R104). -/
theorem idleTick_stays (hwell : hasRole s .well = true) (h : s.dtu.duty.runs = false)
    (hne : ¬ (rampsDown s ∧ idleSetpoint s = s.settings.fMin)) :
    stageDuty (setFlows (idleTarget s) (idleSetpoint s) s) = { s with
      dtu := { s.dtu with
        target := idleTarget s, setpoint := idleSetpoint s
        recallTimer :=
          if s.dtu.duty = .resting then if recallConditions s then .running (1000 * recallTime s) else .stopped
          else s.dtu.recallTimer } } :=
  stageDuty_idle (s := setFlows (idleTarget s) (idleSetpoint s) s) hwell h hne

/-- Settles O34: the three timers, the tick that ends a stop's ramp, and every other tick of a duty that does not run. -/
theorem dutyTimersEnd : Obligations.DutyTimersEnd := by
  intro s hw hwell
  have online := online_of_works hw
  refine ⟨fun c hc => ?_, fun hrun hd => ?_, fun hd hreq hmoved => ?_, fun hr => ?_⟩
  · have calm : s.dtu.duty ≠ .asking ∧ s.dtu.duty ≠ .refused := by
      obtain ⟨-, -, hd⟩ | ⟨-, -, hd⟩ := hc <;> simp [hd]
    have failed (cause : List Firing) := takeDuty_fault (s := s) cause hwell online
    have rng (cause : List Firing) : (takeDuty .fault cause s).rng = s.rng :=
      takeDuty_rng_stands cause (by decide) calm.1 calm.2
    obtain ⟨rfl, hrun, -⟩ | ⟨rfl, hrun, -⟩ := hc
    · exact ⟨_, exec_startTimeout hw hwell hrun, takeDuty_onlyDriveMoves .fault _ s, failed _, rng _, by simp,
        takeDuty_faultOut _ hwell, takeDuty_statePublished .fault _⟩
    · exact ⟨_, exec_stopTimeout hw hwell hrun, takeDuty_onlyDriveMoves .fault _ s, failed _, rng _, by simp,
        takeDuty_faultOut _ hwell, takeDuty_statePublished .fault _⟩
  · obtain ⟨lowered, rng, pnp⟩ := warmUpEnds_rest hd
    exact ⟨_, exec_warmUpExpiry hw hwell hrun, takeDuty_onlyDriveMoves .on [] s, warmUpEnds_dtu hwell online hd, lowered,
      rng, pnp, takeDuty_statePublished .on []⟩
  · have hr : s.dtu.duty.runs = false := by rw [hd]; rfl
    have target : idleTarget s = s.settings.fMin := if_pos (.inr hd)
    have setpoint : idleSetpoint s = s.settings.fMin := by
      rw [idleSetpoint, if_pos (.inr ⟨hd, hreq⟩), target, hmoved]
    have ended := stageDuty_rampEnds (s := setFlows (idleTarget s) (idleSetpoint s) s) ⟨hd, hreq⟩ setpoint
    rw [exec_shareTick_idle hw hwell hr, ended, target]
    refine ⟨_, rfl, ?_, quantityOf_idleTickEnds _ _ (by decide)⟩
    have whole := idleTickEnds_frame s (stopRampEnds (setFlows s.settings.fMin (idleSetpoint s) s))
    have word : dueWord s 0 s.dtu.duty false = dueWord s 0 .stopping false := by rw [hd]
    rw [← word]
    exact whole
  · intro warms stops target setpoint hne
    have stays := idleTick_stays hwell hr hne
    rw [exec_shareTick_idle hw hwell hr, stays]
    refine ⟨_, rfl, idleTickEnds_frame s _, ?_, ?_, ?_, ?_, ?_, fun q hq hout => ?_⟩
    all_goals rw [quantityOf_idleTickEnds _ _ (by omega)]
    · rfl
    · rfl
    · rfl
    · rfl
    · rfl
    · rw [if_neg (by omega), if_neg (by omega), if_neg (by omega), if_neg (by omega), if_neg (by omega)]
      rfl

end Sys2Proof.Machine
end

section
/-! SUPPORT. The decisions of an ask (R81, R111, R114, R125 to R130), REPLY_WINDOW_EXPIRY, HOLD_OFF_EXPIRY and
GRANT_HOLD_EXPIRY (R129, R135, R136). -/

namespace Sys2Proof.Machine

variable {s t u : State} {q : Octet} {roll : Roll} {timer : Timer} {n : Nat}

/-! ### The capacity that firings leave (R79, R81) -/

theorem capacityCeiling_congr (hc : t.settings = s.settings) (hd : t.dtu.derateTotal = s.dtu.derateTotal) :
    capacityCeiling t = capacityCeiling s := by
  simp only [capacityCeiling, cOwn, hc, hd]

/-- A derate step sets the derate total one step up, to C_rated at most (R79). -/
theorem derateStep_total (s : State) :
    (derateStep s).dtu.derateTotal = min s.settings.cRated (s.dtu.derateTotal + s.settings.derateStep) := by
  unfold derateStep moveDerate capacityChanged
  dsimp only
  split
  · rfl
  · split <;> simp

/-- No firing raises max(C_own, F_min) (R79, R176). -/
theorem capacityCeiling_offer (f : Firing) (s : State) : capacityCeiling (offer f s) ≤ capacityCeiling s := by
  have acted (m : Mode) : capacityCeiling (channelAction m s) ≤ capacityCeiling s := by
    cases m with
    | derate =>
      have settings : (derateStep s).settings = s.settings := by simp
      simp only [channelAction, capacityCeiling, cOwn, derateStep_total, settings]
      omega
    | pulse0 | pulse1 | count => exact le_rfl
  unfold offer
  split
  · rename_i n _
    refine le_trans (le_of_eq ?_) (acted (slotGet s.evu.channels n Channel.unbound).mode)
    unfold channelActs
    dsimp only
    split <;> exact capacityCeiling_congr (by simp) (by simp)
  · exact le_of_eq (capacityCeiling_congr (by simp) (by simp))

/-- A change of duty without a cause of its own leaves the capacity that its DUTY_CHANGE leaves (R81, R102). -/
theorem capacityCeiling_takeDuty (new : Duty) (s : State) :
    capacityCeiling (takeDuty new [] s) = capacityCeiling (offer (dutyChange new s.dtu.duty) (enterDuty new s)) := by
  obtain ⟨-, -, -, -, derateTotal, -⟩ := takeDuty_parts new [] s
  exact capacityCeiling_congr (by simp) derateTotal

/-- The target through a firing and a change of duty in which the pump runs on: each may lower it to the capacity left, DUTY_CHANGE
only in a duty that runs (R81). -/
theorem target_offer_takeDuty {new : Duty} (f : Firing) (hon : runsOn new (offer f s)) :
    let t := takeDuty new [] (offer f s)
    (new.runs = true → targetLowered s t) ∧ min s.dtu.target (capacityCeiling t) ≤ t.dtu.target ∧
      t.dtu.target ≤ s.dtu.target := by
  intro t
  let u := offer f s
  let v := enterDuty new u
  let w := offer (dutyChange new u.dtu.duty) v
  have entered : v = _ := enterDuty_runsOn hon
  have ceilings : capacityCeiling t = capacityCeiling w := capacityCeiling_takeDuty new u
  have falls : capacityCeiling w ≤ capacityCeiling u := by
    have offered : capacityCeiling w ≤ capacityCeiling v := capacityCeiling_offer _ v
    rwa [entered] at offered
  have target : t.dtu.target = w.dtu.target := by
    obtain ⟨-, -, -, -, -, -, target, -⟩ := takeDuty_parts new [] u
    exact target
  have first : u.dtu.target = s.dtu.target ∨ u.dtu.target = min s.dtu.target (capacityCeiling u) :=
    (offer_calm f s).target.imp And.left And.right
  have second : (w.dtu.target = u.dtu.target ∧ (new.runs = true → capacityCeiling w = capacityCeiling u)) ∨
      w.dtu.target = min u.dtu.target (capacityCeiling w) := by
    have same : v.dtu.target = u.dtu.target ∧ v.dtu.derateTotal = u.dtu.derateTotal := by
      rw [entered]
      exact ⟨rfl, rfl⟩
    rw [← same.1]
    have calm := (offer_calm (dutyChange new u.dtu.duty) v).target
    refine calm.imp (fun ⟨stands, derate⟩ => ⟨stands, fun hr => ?_⟩) And.right
    have runs : v.dtu.duty.runs = true := by rwa [enterDuty_duty]
    exact capacityCeiling_congr (by simp [w, v]) ((derate runs).trans same.2)
  rw [targetLowered, ceilings, target]
  refine ⟨fun hr => ?_, ?_, ?_⟩
  · obtain ⟨same, held⟩ | lowered := second
    · have := held hr
      omega
    · omega
  · omega
  · omega

/-! ### An ask that is decided (R111, R127, R130, R131, R136) -/

/-- What the decision of an ask leaves: its event, the change to the duty, and the ask over (R111, R127, R130). -/
def AskDecided (s : State) (new : Duty) (f : Firing) (t : State) : Prop :=
  OnlyDriveMoves s t ∧
    t.dtu = { s.dtu with
      duty := new, recallTimer := .stopped, target := t.dtu.target, derateTotal := t.dtu.derateTotal
      quietCount := t.dtu.quietCount } ∧
    (new = .refused → targetLowered s t) ∧
    min s.dtu.target (capacityCeiling t) ≤ t.dtu.target ∧ t.dtu.target ≤ s.dtu.target ∧
    t.pnp = s.pnp ∧ (keepsEntries s = true → statePublished new t) ∧
    t.rng = { s.rng with
      ask := .idle
      holdOff := if new = .refused then .running (1000 * s.settings.refusedHoldOff) else s.rng.holdOff } ∧
    (noChannelBound s → t.dtu.target = s.dtu.target ∧ t.evu = (enqueue (fire 24 new.code 3) (enqueue f s)).evu)

/-- The change of duty that a decision brings, behind its event (R111). -/
def askEnds (new : Duty) (f : Firing) (s : State) : State := takeDuty new [] (offer f (setAsk .idle s))

theorem offer_setAsk_unbound (f : Firing) (h : noChannelBound s) :
    offer f (setAsk .idle s) = { setAsk .idle s with evu := (enqueue f s).evu } :=
  offer_queued (takingChannel_of_unbound (noChannelBound_congr h rfl) f) rfl rfl

theorem askEnds_frame (new : Duty) (f : Firing) (s : State) : OnlyDriveMoves s (askEnds new f s) := by
  let u := offer f (setAsk .idle s)
  obtain ⟨-, quantities, -, -, queued⟩ := takeDuty_onlyDriveMoves new [] u
  obtain ⟨selected, held⟩ : txSelected s (takeDuty new [] u) :=
    (takeDuty_txSelected new [] u).behind (by simp [u]) (by simp [u]) (by simp [u]) fun h =>
      offer_tx (s := setAsk .idle s) f h
  refine ⟨?_, fun q hq h5 => ?_, ?_, by simp [askEnds], fun h => ?_⟩
  · unfold askEnds
    ext1
    case lif => ext1 <;> simp
    case msu => ext1 <;> simp
    case frh =>
      ext1
      case outbox => ext1 <;> simp
      all_goals simp
    all_goals simp
  · exact (quantities q hq h5).trans (quantityOf_offer f (setAsk .idle s) h5)
  · split
    · exact selected ‹_›
    · exact held ‹_›
  · have offered : u = _ := offer_setAsk_unbound f h
    have free : noChannelBound u := noChannelBound_congr h (by simp [offered])
    obtain ⟨evu, msu, derateTotal, quietCount⟩ := queued free
    have entered : u.evu = { s.evu with queue := u.evu.queue, dropped := u.evu.dropped } := by
      rw [offered]
      exact enqueueAll_evu [f] s
    refine ⟨?_, msu.trans (congrArg (·.msu) offered), derateTotal.trans (congrArg (·.dtu.derateTotal) offered),
      quietCount.trans (congrArg (·.dtu.quietCount) offered)⟩
    rw [entered] at evu
    exact evu

/-- A decision of an ask in ASKING (R111, R127, R130). -/
theorem askEnds_decided {new : Duty} (f : Firing) (hd : s.dtu.duty = .asking) (hn : new = .refused ∨ new = .stopping) :
    AskDecided s new f (askEnds new f s) := by
  let u := offer f (setAsk .idle s)
  have asking : u.dtu.duty = .asking := by simpa [u] using hd
  have on : runsOn new u := hn.elim (fun h => .inr (.inl h)) fun h => .inr (.inr (.inl h))
  obtain ⟨lowered, ge, le⟩ := target_offer_takeDuty (s := setAsk .idle s) f on
  refine ⟨askEnds_frame new f s, ?_, fun h => lowered (by rw [h]; rfl), ge, le, by simp [askEnds], fun hk => ?_, ?_,
    fun h => ?_⟩
  · have offered : u.dtu = _ := congrArg State.dtu (offer_frame f (setAsk .idle s))
    have moved : (askEnds new f s).dtu = _ := takeDuty_runsOn [] on
    rw [offered] at moved
    exact moved
  · exact takeDuty_statePublished new [] (by simpa [u, keepsEntries] using hk)
  · have told := takeDuty_rng new [] u
    rw [askEnds, told, asking]
    obtain rfl | rfl := hn <;> simp [tellNegotiator, setAsk, setHoldOff, u]
  · have offered : u = _ := offer_setAsk_unbound f h
    obtain ⟨-, -, -, evu, -, -, target, -⟩ := takeDuty_parts new [] u
    have queued := dutyOffered_unbound (new := new) (s := u) [] (noChannelBound_congr h (by simp [offered]))
    rw [asking] at queued
    rw [queued] at evu target
    refine ⟨target.trans ?_, evu.trans ?_⟩
    · rw [enterDuty_runsOn on, offered]
      rfl
    · exact enqueue_evu_congr _ (by simp [u]) (by rw [offered])

theorem refuseAsk_asking (hd : s.dtu.duty = .asking) (subject : Option Nat) (detail : Nat) :
    refuseAsk subject detail s = askEnds .refused { source := 29, subject := subject, detail := some detail } s :=
  if_pos (by simpa using hd)

theorem agreeAsk_asking (hd : s.dtu.duty = .asking) (members : Nat) :
    agreeAsk members s = askEnds .stopping (fireDetail 28 members) s :=
  if_pos (by simpa using hd)

/-! ### The members of a roll (R124) -/

/-- What holds of every slot of a roll and of an absent entry holds at every number. -/
theorem roll_forall {P : Option (Option Verdict) → Prop} (hnone : P none) (h : ∀ m, m < 32 → P (slotGet roll m none))
    (m : Nat) : P (slotGet roll m none) := by
  by_cases hm : m < 32
  · exact h m hm
  · have absent : slotGet roll m none = none := by simp [slotGet, hm]
    rwa [absent]

/-- The members stand in ascending order of station number (R124). -/
theorem rollMembers_ascending (roll : Roll) : (rollMembers roll).Pairwise fun a b => a.1 < b.1 := by
  refine List.Pairwise.filterMap _ (fun m k hmk a ha b hb => ?_) List.pairwise_lt_range
  obtain ⟨_, -, rfl⟩ := Option.map_eq_some_iff.mp ha
  obtain ⟨_, -, rfl⟩ := Option.map_eq_some_iff.mp hb
  exact hmk

/-- A member stands behind those of lower number alone (R124). -/
theorem rollMembers_split {v : Option Verdict} (h : slotGet roll n none = some v) :
    ∃ front back, rollMembers roll = front ++ (n, v) :: back ∧
      ∀ m ∈ front, m.1 < n ∧ slotGet roll m.1 none = some m.2 := by
  obtain ⟨front, back, split⟩ := List.append_of_mem (mem_rollMembers.mpr h)
  have ascending := rollMembers_ascending roll
  rw [split] at ascending
  obtain ⟨-, -, before⟩ := List.pairwise_append.mp ascending
  refine ⟨front, back, split, fun m hm => ⟨before m hm (n, v) (by simp), mem_rollMembers.mp ?_⟩⟩
  simp [split, hm]

theorem rollMembers_length (roll : Roll) :
    (rollMembers roll).length = (List.range 32).countP fun m => (slotGet roll m none).isSome := by
  simp [rollMembers, List.length_filterMap_eq_countP]

/-- No refusal is held: the entry is absent, unanswered or AGREE. -/
def NotRefusing (e : Option (Option Verdict)) : Prop := e = none ∨ e = some none ∨ e = some (some .agree)

theorem notRefusing_some {w : Option Verdict} (h : NotRefusing (some w)) : w = none ∨ w = some .agree := by
  simpa [NotRefusing] using h

/-- The refusal that stands first in the order of station numbers (R127). -/
theorem firstRefusal_eq {v : Verdict} (h : slotGet roll n none = some (some v)) (hv : v ≠ .agree)
    (hbefore : ∀ m, m < n → NotRefusing (slotGet roll m none)) : firstRefusal roll = some (n, v) := by
  obtain ⟨front, back, split, before⟩ := rollMembers_split h
  refine List.findSome?_eq_some_iff.mpr ⟨front, (n, some v), back, split, ?_, ?_⟩
  · cases v with
    | agree => exact absurd rfl hv
    | refuseShort | refuseFull => rfl
  · rintro ⟨m, w⟩ hm
    obtain ⟨hlt, held⟩ := before _ hm
    obtain rfl | rfl := notRefusing_some (held ▸ hbefore m hlt) <;> rfl

theorem firstRefusal_none (h : ∀ m, NotRefusing (slotGet roll m none)) : firstRefusal roll = none := by
  rw [firstRefusal, List.findSome?_eq_none_iff]
  rintro ⟨m, w⟩ hm
  obtain rfl | rfl := notRefusing_some (mem_rollMembers.mp hm ▸ h m) <;> rfl

/-- The first member that still holds NONE (R129). -/
theorem firstUnanswered_eq (h : slotGet roll n none = some none)
    (hbefore : ∀ m, m < n → slotGet roll m none ≠ some none) : firstUnanswered roll = some n := by
  obtain ⟨front, back, split, before⟩ := rollMembers_split h
  have found : (rollMembers roll).find? (fun m => m.2.isNone) = some (n, none) := by
    refine List.find?_eq_some_iff_append.mpr ⟨rfl, front, back, split, fun m hm => ?_⟩
    obtain ⟨hlt, held⟩ := before m hm
    have answered : m.2 ≠ none := fun hnone => hbefore m.1 hlt (held.trans (congrArg some hnone))
    simpa [Option.isSome_iff_ne_none] using answered
  rw [firstUnanswered, found]
  rfl

theorem rollMembers_isEmpty_false (hn : slotGet roll n none ≠ none) : (rollMembers roll).isEmpty = false := by
  rw [Bool.eq_false_iff, Ne, rollMembers_isEmpty]
  exact fun hempty => hn (hempty n)

theorem allAgree_of_unanimous (hn : slotGet roll n none ≠ none) (h : Unanimous roll) : allAgree roll = true := by
  rw [allAgree, rollMembers_isEmpty_false hn, Bool.not_false, Bool.true_and, List.all_eq_true]
  rintro ⟨m, w⟩ hm
  have held := mem_rollMembers.mp hm
  have agreed := h m (by rw [held]; rfl)
  simpa [held] using agreed

/-! ### The roll test, replies and strike-offs (R125 to R128, R130) -/

section InWindow

variable (hask : s.rng.ask = .window q roll timer) (hd : s.dtu.duty = .asking)
include hask hd

/-- The test refuses the ask for the member of lowest number that holds a refusal (R127). -/
theorem testRoll_refuses {v : Verdict} (h : slotGet roll n none = some (some v)) (hv : v ≠ .agree)
    (hbefore : ∀ m, m < n → NotRefusing (slotGet roll m none)) : testRoll s = askEnds .refused (fire 29 n v.code) s := by
  simp only [testRoll, hask, firstRefusal_eq h hv hbefore]
  exact refuseAsk_asking hd _ _

/-- The test agrees the ask when every member of a roll that is not empty holds AGREE (R127). -/
theorem testRoll_agrees (hn : slotGet roll n none ≠ none)
    (h : ∀ m, slotGet roll m none = none ∨ slotGet roll m none = some (some .agree)) :
    testRoll s = askEnds .stopping (fireDetail 28 ((List.range 32).countP fun m => (slotGet roll m none).isSome)) s := by
  have unanimous : Unanimous roll := fun m hm => (h m).resolve_left (Option.isSome_iff_ne_none.mp hm)
  have calm : firstRefusal roll = none := firstRefusal_none fun m => (h m).imp_right .inr
  simp only [testRoll, hask, calm, allAgree_of_unanimous hn unanimous, if_true, rollMembers_length]
  exact agreeAsk_asking hd _

omit hd in
/-- The test lets the window run while a member holds NONE and none a refusal (R127). -/
theorem testRoll_waits (hn : slotGet roll n none = some none) (h : ∀ m, NotRefusing (slotGet roll m none)) :
    testRoll s = s := by
  have waits : allAgree roll = false := by
    rw [Bool.eq_false_iff]
    exact fun hall => absurd (unanimous_of_allAgree hall n (by rw [hn]; rfl)) (by simp [hn])
  simp [testRoll, hask, firstRefusal_none h, waits]

omit hd in
/-- An accepted REST-REPLY in the window (R126). -/
theorem takeReply_window (n a : Nat) (k : Octet) (v : Verdict) :
    takeReply n a k (some v) s =
      if a = ownNumber s ∧ k = q ∧ slotGet roll n none ≠ none then
        testRoll (setAsk (.window q (slotSet roll n (some (some v))) timer) s)
      else s := by
  simp only [takeReply, hask]
  by_cases ha : a = ownNumber s <;> simp [ha, Option.isSome_iff_ne_none]

omit hd in
/-- A station that is no member is not struck off (R128). -/
theorem strikeOff_stranger (h : slotGet roll n none = none) : strikeOff n s = s := by
  simp [strikeOff, hask, h]

omit hd in
/-- Where a member is left, a strike-off ends with the roll test (R128). -/
theorem strikeOff_tests {m : Nat} (h : slotGet roll n none ≠ none) (hne : m ≠ n) (hm : slotGet roll m none ≠ none) :
    strikeOff n s = testRoll (setAsk (.window q (slotSet roll n none) timer) s) := by
  have left : (rollMembers (slotSet roll n none)).isEmpty = false :=
    rollMembers_isEmpty_false (n := m) (by rwa [slotGet_slotSet_none, if_neg hne])
  simp [strikeOff, hask, Option.isSome_iff_ne_none.mpr h, decideRoll, left]

/-- The strike-off of the last member leaves the decision to the own evaluation (R128, R130). -/
theorem strikeOff_last (h : slotGet roll n none ≠ none) (hall : ∀ m, m ≠ n → slotGet roll m none = none) :
    strikeOff n s =
      if fieldDemand s + s.settings.reserve ≤ peerCapacity s then askEnds .stopping (fireDetail 28 0) s
      else askEnds .refused (fireDetail 29 5) s := by
  let u := setAsk (.window q (slotSet roll n none) timer) s
  have empty : (rollMembers (slotSet roll n none)).isEmpty = true := by
    rw [rollMembers_isEmpty]
    intro m
    rw [slotGet_slotSet_none]
    split
    · rfl
    · exact hall m ‹_›
  have evaluated : strikeOff n s = ownEvaluation u := by
    simp [strikeOff, hask, Option.isSome_iff_ne_none.mpr h, decideRoll, empty, u]
  have decides : ownEvaluation u = if fieldDemand s + s.settings.reserve ≤ peerCapacity s then agreeAsk 0 u
      else refuseAsk none 5 u := rfl
  rw [evaluated, decides, agreeAsk_asking (s := u) hd, refuseAsk_asking (s := u) hd]
  rfl

end InWindow

/-- An accepted REST-REPLY in SENDING sets an early verdict (R125). -/
theorem takeReply_sending {early : Vector (Option Verdict) 32} (hask : s.rng.ask = .sending q early) (n a : Nat) (k : Octet)
    (v : Option Verdict) :
    takeReply n a k v s =
      if v.isSome = true ∧ a = ownNumber s ∧ k = q then setAsk (.sending q (slotSet early n v)) s else s := by
  unfold takeReply
  cases v with
  | none => rfl
  | some verdict =>
    simp only [hask]
    by_cases ha : a = ownNumber s <;> simp [ha]

/-- Settles O41: the three outcomes of the roll test, the replies that lead to it, and the strike-off. -/
theorem rollDecidesTheAsk : Obligations.RollDecidesTheAsk := by
  refine ⟨fun s q roll timer hask hd => ?_, fun s q early n a k v hask => takeReply_sending hask n a k v⟩
  intro decided entry holding
  refine ⟨fun n v _ hv hne hbefore => ?_, fun ⟨n, _, hn⟩ hall => ?_, fun hall ⟨n, _, hn⟩ => ?_, fun n a k v _ => ?_,
    fun n _ h => strikeOff_stranger hask h,
    fun n _ h => ⟨fun ⟨m, _, hne, hm⟩ => strikeOff_tests hask h hne hm, fun hall => ?_⟩⟩
  · rw [testRoll_refuses hask hd hv hne hbefore]
    exact askEnds_decided _ hd (.inl rfl)
  · rw [testRoll_agrees hask hd hn (roll_forall (P := fun e => e = none ∨ e = some (some .agree)) (.inl rfl) hall)]
    exact askEnds_decided _ hd (.inr rfl)
  · exact testRoll_waits hask hn (roll_forall (.inl rfl) hall)
  · cases v with
    | none => rfl
    | some verdict => exact takeReply_window hask n a k verdict
  · have others (m : Nat) (hne : m ≠ n) : slotGet roll m none = none := by
      by_contra hm
      exact hm (hall m (slotGet_inRange (Option.isSome_iff_ne_none.mpr hm)) hne)
    rw [strikeOff_last hask hd h others]
    split
    · exact askEnds_decided _ hd (.inr rfl)
    · exact askEnds_decided _ hd (.inl rfl)

/-! ### The negotiator's timers (R129, R135, R136) -/

/-- REPLY_WINDOW_EXPIRY in the window (R129). -/
theorem exec_replyWindowExpiry (hw : works s = true) (hask : s.rng.ask = .window q roll timer) (hd : s.dtu.duty = .asking)
    (h : slotGet roll n none = some none) (hbefore : ∀ m, m < n → slotGet roll m none ≠ some none) :
    exec .replyWindowExpiry s = .next (askEnds .refused (fire 29 n 4) s) := by
  have taken : exec .replyWindowExpiry s = .next (replyWindowEnds s) := congrArg Host.Outcome.next (if_pos hw)
  have ended : replyWindowEnds s = refuseAsk (some n) 4 s := by
    simp only [replyWindowEnds, hask, firstUnanswered_eq h hbefore]
  rw [taken, ended, refuseAsk_asking hd]
  rfl

/-- HOLD_OFF_EXPIRY in REFUSED while the hold-off runs (R136). -/
theorem exec_holdOffExpiry (hw : works s = true) (h : s.rng.holdOff ≠ .stopped) (hd : s.dtu.duty = .refused) :
    exec .holdOffExpiry s = .next (takeDuty .on [] (setHoldOff .stopped s)) := by
  have taken : exec .holdOffExpiry s = .next (endHoldOff s) := congrArg Host.Outcome.next (if_pos (by simp [hw, h]))
  have ended : endHoldOff s = takeDuty .on [] (setHoldOff .stopped s) := if_pos hd
  rw [taken, ended]

/-- Settles O42: each timer's end, from the change of duty that it brings. -/
theorem negotiationTimersEnd : Obligations.NegotiationTimersEnd := by
  refine ⟨fun s q roll timer n hw hask _ h hbefore hd => ?_, fun s hw hrun hd => ?_, fun s asker hw => ?_⟩
  · obtain ⟨frame, dtu, lowered, -, -, pnp, published, rng, unbound⟩ :=
      askEnds_decided (s := s) (fire 29 n 4) hd (.inl rfl)
    exact ⟨_, exec_replyWindowExpiry hw hask hd h hbefore, frame, dtu, lowered rfl, rng, pnp, published,
      fun hc => (unbound hc).2⟩
  · let u := setHoldOff .stopped s
    have on : runsOn .on u := .inr (.inr (.inr ⟨rfl, by simp [u, hd]⟩))
    have rng : (takeDuty .on [] u).rng = { s.rng with holdOff := .stopped } := by
      simp [takeDuty_rng, tellNegotiator, u, hd, setHoldOff]
    have lowered : targetLowered u (takeDuty .on [] u) := takeDuty_lowered (by rw [enterDuty_runsOn on])
    exact ⟨_, exec_holdOffExpiry hw hrun hd, takeDuty_onlyDriveMoves .on [] u, takeDuty_runsOn [] on, lowered, rng,
      by simp, takeDuty_statePublished (s := u) .on []⟩
  · exact congrArg Host.Outcome.next (if_pos hw)

end Sys2Proof.Machine
end

section
/-! SUPPORT. What a replier answers to an ask (R31, R33, R34, R132, R133, R134). -/

namespace Sys2Proof.Machine

variable {s : State}

/-! ### A reply in its slot (R33) -/

/-- No entry is pushed out where an entry to the addressee waits or fewer than four do (R33). -/
theorem joinReplies_pushes_none {es : List Entry} {a : Nat} (p : Payload)
    (h : es.length < 4 ∨ (es.any fun e => addresseeOf e == some a) = true) : (joinReplies es a p).2 = none := by
  unfold joinReplies
  split
  · rfl
  · rw [if_pos (h.resolve_right ‹_›)]

/-- The reply stands in the slot without a sequence number, in the place of an older one or as the newest (R31, R33). -/
theorem mem_joinReplies (es : List Entry) (a : Nat) (p : Payload) :
    ∃ e ∈ (joinReplies es a p).1, e.payload = p ∧ e.seq = none := by
  unfold joinReplies
  split
  · rename_i waits
    obtain ⟨old, hold, same⟩ := List.any_eq_true.mp waits
    exact ⟨replacing (some old) p, List.mem_map.mpr ⟨old, hold, if_pos same⟩, rfl, rfl⟩
  · split <;> exact ⟨replacing none p, by simp, rfl, rfl⟩

/-- A REST-REPLY entered in ACTIVE that pushes no other out (R31, R33, R34). -/
theorem enterReplyFrame_fits {a : Nat} (q : Octet) (v : Verdict) (hl : s.frh.lineState = .active)
    (h : s.frh.outbox.replies.length < 4 ∨ (s.frh.outbox.replies.any fun e => addresseeOf e == some a) = true) :
    let o := { s.frh.outbox with replies := (joinReplies s.frh.outbox.replies a (.restReply a q v)).1 }
    enterReplyFrame a q v s =
      { s with
        frh := { s.frh with outbox := o }
        lif := { s.lif with tx := if isSending s then s.lif.tx else selectedTx s o } } := by
  intro o
  have kept : keepsEntries s = true := by simp [keepsEntries, hl]
  have entered : enterReplyFrame a q v s = select (setOutbox o s) := by
    unfold enterReplyFrame
    dsimp only
    rw [if_pos kept, joinReplies_pushes_none _ h]
    rfl
  rw [entered, select_active (s := setOutbox o s) hl]
  rfl

/-! ### The evaluation (R133) -/

/-- The verdict of R133, in the integers. -/
theorem verdictFor_eq (s : State) (asker : Nat) :
    let askerCapacity := if counted (rowOf s asker) then rowCapacity (rowOf s asker) else 0
    let remaining : Int :=
      (if s.dtu.duty = .asking then 0 else (cOwn s : Int)) + peerCapacity s - askerCapacity -
        (s.rng.grants.map (·.capacity)).sum
    verdictFor s asker =
      if s.rng.grants.length ≥ 4 then .refuseFull
      else if remaining ≥ fieldDemand s + s.settings.reserve then .agree else .refuseShort := by
  have own : ((ownPart s : Nat) : Int) = if s.dtu.duty = .asking then 0 else (cOwn s : Int) := by
    unfold ownPart
    split <;> rfl
  simp only [verdictFor, remainingCapacity, askerPart, own, Nat.cast_add, ge_iff_le]

/-- An accepted REST-ASK at a replier: the earlier grant gone, the grant of an AGREE, and the reply (R132, R134). -/
theorem takeAsk_replier (asker : Nat) (q : Octet) (hl : s.frh.lineState = .active) (hr : s.dtu.duty.runs = true) :
    let u := removeGrant asker s
    let v := verdictFor u asker
    takeAsk asker q s =
      enterReplyFrame asker q v
        (setGrants (if v = .agree then u.rng.grants ++ [newGrant u asker] else u.rng.grants) s) := by
  intro u v
  have replier : isReplier u = true := by simp [isReplier, u, hl, hr]
  have granted : (if v = .agree then setGrants (u.rng.grants ++ [newGrant u asker]) u else u) =
      setGrants (if v = .agree then u.rng.grants ++ [newGrant u asker] else u.rng.grants) s := by
    split <;> rfl
  exact (if_pos replier).trans (congrArg (enterReplyFrame asker q v) granted)

/-- Settles O40: the evaluation with the asker's earlier grant gone, then the grant and the reply in its slot. -/
theorem replierAnswersAsk : Obligations.ReplierAnswersAsk := by
  intro s asker q hl hr room grants askerCapacity remaining verdict
  have evaluated : verdictFor (removeGrant asker s) asker = verdict := verdictFor_eq (removeGrant asker s) asker
  have answered : takeAsk asker q s = _ := takeAsk_replier asker q hl hr
  rw [evaluated] at answered
  have entered (g : List Grant) := enterReplyFrame_fits (s := setGrants g s) q verdict hl room
  exact ⟨_, answered.trans (entered _), rfl, mem_joinReplies _ _ _, rfl⟩

end Sys2Proof.Machine
end

section
/-! SUPPORT. The regulator law (R142 to R144), and the entry to TRIPPED by TRIP_IN_ACTIVE and by SHARE_TICK (R147 to R149). -/

namespace Sys2Proof.Machine

variable {s : State} {c : Settings} {i : Nat} {p : Int}

/-! ### The limits of the regulator law (R142 to R144) -/

theorem windsUp_iff (c : Settings) (u e : Int) :
    windsUp c u e = true ↔ ((c.turbineLimit : Int) < u ∧ 0 < e) ∨ (u < 0 ∧ e < 0) := decide_eq_true_iff

theorem clampIntegrator_le (c : Settings) (x : Int) : clampIntegrator c x ≤ 256 * c.turbineLimit := Nat.min_le_right _ _

/-- An integrator within its limits is not clamped. -/
theorem clampIntegrator_stands (h : i ≤ 256 * c.turbineLimit) : clampIntegrator c i = i := Nat.min_eq_left h

/-- At or above 0 the clamp acts at 256 × D_t_max alone. -/
theorem clampIntegrator_nonneg {x : Int} (h : 0 ≤ x) : (clampIntegrator c x : Int) = min x (256 * c.turbineLimit) := by
  rw [clampIntegrator]
  omega

theorem regulatorLaw_integrator_le (c : Settings) (i : Nat) (p : Int) :
    (regulatorLaw c i p).integrator ≤ 256 * c.turbineLimit := by
  simp only [regulatorLaw]
  split <;> exact clampIntegrator_le c _

/-- D_t is the output brought within 0 and D_t_max (R144). -/
theorem clampDemand_cast (c : Settings) (x : Int) : (clampDemand c x : Int) = max 0 (min x c.turbineLimit) := by
  rw [clampDemand]
  omega

/-- A pressure above the setpoint brings no upward proportional term (R142). -/
theorem proportionalTerm_nonpos (c : Settings) {e : Int} (h : e ≤ 0) : proportionalTerm c e ≤ 0 := by
  have product : (c.kp : Int) * e ≤ 0 := Int.mul_nonpos_of_nonneg_of_nonpos (Int.natCast_nonneg _) h
  rw [proportionalTerm]
  omega

/-- A candidate below 0 comes of a negative error, and then the output is below 0 too: anti-windup keeps the integrator, so the
clamp at 0 never acts (R143). -/
theorem candidate_nonneg {e : Int}
    (h : windsUp c (proportionalTerm c e + ((i : Int) + (c.ki : Int) * e) / 256) e ≠ true) :
    0 ≤ (i : Int) + (c.ki : Int) * e := by
  by_contra below
  have falls : e < 0 := by
    by_contra he
    have := Int.mul_nonneg (Int.natCast_nonneg c.ki) (Int.not_lt.mp he)
    omega
  have proportional := proportionalTerm_nonpos c falls.le
  exact h ((windsUp_iff _ _ _).mpr (.inr ⟨by omega, falls⟩))

/-- Settles O45: the two branches of anti-windup, and the two clamps. -/
theorem regulatorStaysInRange : Obligations.RegulatorStaysInRange := by
  intro c i p hi e candidate u winds r
  refine ⟨regulatorLaw_error c i p, fun hw => ?_, fun hw => ?_, regulatorLaw_integrator_le c i p, clampDemand_cast c _⟩
  · have kept : r = ⟨clampIntegrator c i, proportionalTerm c e + (i : Int) / 256, e⟩ := if_pos ((windsUp_iff c u e).mpr hw)
    rw [kept]
    exact ⟨clampIntegrator_stands hi, rfl⟩
  · have calm : windsUp c u e ≠ true := fun h => hw ((windsUp_iff c u e).mp h)
    have moved : r = ⟨clampIntegrator c candidate, u, e⟩ := if_neg calm
    have nonneg : 0 ≤ candidate := candidate_nonneg calm
    rw [moved]
    exact ⟨nonneg, clampIntegrator_nonneg nonneg, rfl⟩

/-! ### An own trip announced (R31, R32, R39, R149) -/

/-- The recall test of a change of C_own is for a WELL station (R81, R104). -/
theorem capacityChanged_recallTimer_outside (h : hasRole s .well = false) :
    (capacityChanged s).dtu.recallTimer = s.dtu.recallTimer := by
  rw [capacityChanged_eq, testRecall_outside (by split <;> simpa [hasRole, roleOf] using h)]
  split <;> simp

theorem moveDerate_recallTimer_outside (total quiet : Nat) (h : hasRole s .well = false) :
    (moveDerate total quiet s).dtu.recallTimer = s.dtu.recallTimer := by
  unfold moveDerate
  dsimp only
  split
  · rfl
  · exact capacityChanged_recallTimer_outside (s := setDerate total quiet s) h

/-- The recall timer belongs to WELL stations: no firing moves it in another role, not by a derate step either (R81, R178). -/
theorem offer_recallTimer_outside (f : Firing) (h : hasRole s .well = false) :
    (offer f s).dtu.recallTimer = s.dtu.recallTimer := by
  have acted (m : Mode) : (channelAction m s).dtu.recallTimer = s.dtu.recallTimer := by
    cases m with
    | derate => exact moveDerate_recallTimer_outside _ _ h
    | pulse0 | pulse1 | count => rfl
  unfold offer
  split
  · unfold channelActs
    dsimp only
    split <;> simp [acted]
  · simp

/-- The frame handler after an own trip has entered its TRIP and its DEMAND of 0 (R31, R32, R39, R149). -/
def ownTripFrh (c : TripCause) (s : State) : Frh :=
  if keepsEntries s then
    { s.frh with
      outbox := { s.frh.outbox with
        trip := some (replacing s.frh.outbox.trip (.trip c)), clear := none
        demand := some (replacing s.frh.outbox.demand (.demand 0 c.code)) }
      inFlight := doomClear s.frh.inFlight
      lastDemand := some 0 }
  else s.frh

theorem ownTripEntered_frh (c : TripCause) (s : State) :
    (enterDemandFrame 0 c.code (enterTripFrame c s)).frh = ownTripFrh c s := by
  have kept : keepsEntries (enterTripFrame c s) = keepsEntries s := by simp [keepsEntries]
  rw [enterDemandFrame, kept, ownTripFrh]
  split
  · rename_i hk
    simp [enterTripFrame, hk, placeTrip]
  · rename_i hk
    simp [enterTripFrame, hk]

/-- The own TRIP_IN is offered after the two entries; only a STATE can follow them, by a derate step of a channel (R149, R178). -/
theorem announceOwnTrip_frh (c : TripCause) (s : State) :
    (announceOwnTrip c s).frh = { ownTripFrh c s with
      outbox := { (ownTripFrh c s).outbox with stateReport := (announceOwnTrip c s).frh.outbox.stateReport }
      lastC := (announceOwnTrip c s).frh.lastC } := by
  rw [← ownTripEntered_frh, announceOwnTrip]
  exact congrArg State.frh (offer_frame _ _)

theorem announceOwnTrip_srg (c : TripCause) (s : State) : (announceOwnTrip c s).srg = s.srg := by simp [announceOwnTrip]

theorem announceOwnTrip_recallTimer (c : TripCause) (h : hasRole s .well = false) :
    (announceOwnTrip c s).dtu.recallTimer = s.dtu.recallTimer := by
  rw [announceOwnTrip, offer_recallTimer_outside _ (by simpa [hasRole, roleOf] using h)]
  simp

/-- What an announced trip enters where entries are kept (R149). -/
theorem announceOwnTrip_entries (c : TripCause) (hk : keepsEntries s = true) :
    (announceOwnTrip c s).frh.outbox.trip = some (replacing s.frh.outbox.trip (.trip c)) ∧
    (announceOwnTrip c s).frh.outbox.clear = none ∧
    (announceOwnTrip c s).frh.outbox.demand = some (replacing s.frh.outbox.demand (.demand 0 c.code)) := by
  rw [announceOwnTrip_frh, ownTripFrh, if_pos hk]
  exact ⟨rfl, rfl, rfl⟩

/-- What an announced trip may change outside the role WELL: the outbox, and by a firing what hangs on C_own (R81, R149). -/
theorem announceOwnTrip_frame (c : TripCause) (h : hasRole s .well = false) :
    let t := announceOwnTrip c s
    t = { s with
      evu := t.evu, msu := { s.msu with quantities := t.msu.quantities }
      frh := { s.frh with
        outbox := { s.frh.outbox with
          trip := t.frh.outbox.trip, clear := if keepsEntries s then none else s.frh.outbox.clear
          demand := t.frh.outbox.demand, stateReport := t.frh.outbox.stateReport }
        inFlight := if keepsEntries s then doomClear s.frh.inFlight else s.frh.inFlight
        lastDemand := if keepsEntries s then some 0 else s.frh.lastDemand, lastC := t.frh.lastC }
      lif := { s.lif with tx := t.lif.tx }
      dtu := { s.dtu with
        derateTotal := t.dtu.derateTotal, quietCount := t.dtu.quietCount, target := t.dtu.target } } := by
  intro t
  have frh := announceOwnTrip_frh c s
  ext1
  case lif => ext1 <;> simp [t]
  case msu => ext1 <;> simp [t]
  case frh =>
    rw [frh, ownTripFrh]
    split <;> rfl
  case dtu =>
    ext1
    case recallTimer => exact announceOwnTrip_recallTimer c h
    all_goals simp [t]
  case srg => exact announceOwnTrip_srg c s
  all_goals simp [t]

/-! ### The ways to TRIPPED (R147, R148) -/

/-- The regulator's state in TRIPPED: D_t is 0 on the move from NORMAL, and the integrator stands (R149). -/
def trippedSrg (c : TripCause) (r : Srg) : Srg :=
  { r with trip := .tripped c, demand := if r.trip = .normal then 0 else r.demand }

/-- The input trips a station in NORMAL, and takes over the trip of one that the pressure has tripped (R148). -/
theorem tripInActs_trips (h : s.srg.trip ≠ .tripped .tripIn) :
    tripInActs s = announceOwnTrip .tripIn (setSrg (trippedSrg .tripIn s.srg) s) := by
  cases ht : s.srg.trip with
  | normal => simp [tripInActs, enterTripped, trippedSrg, ht]
  | tripped cause =>
    cases cause with
    | headerHigh => simp [tripInActs, trippedSrg, ht]
    | tripIn => exact absurd ht h

/-- The filtered TRIP_IN becomes active: its level, and the trip of a working TURBINE station (R148). -/
theorem exec_tripInActive (hreset : s.pins.resetLow = false) (hin : s.srg.tripIn = false) :
    exec .tripInActive s = .next
      (if works s && hasRole s .turbine then tripInActs (setSrg { s.srg with tripIn := true } s)
        else setSrg { s.srg with tripIn := true } s) :=
  congrArg Host.Outcome.next (if_neg (by simp [hreset, hin]))

/-- A VALID P_h above the trip pressure trips a station in NORMAL (R147). -/
theorem tripTests_trips {pressure : Quantity} (htrip : s.srg.trip = .normal) (hv : pressure.validity = .valid)
    (hp : (s.settings.pTrip : Int) < pressure.value) : tripTests pressure s = enterTripped .headerHigh s := by
  simp only [tripTests, htrip]
  exact if_pos ⟨hv, hp⟩

/-- Stage 3 after the trip: D_t stands at 0 and the error is followed (R141, R146). -/
theorem setDemand_enterTripped {pressure : Quantity} (c : TripCause) (hv : pressure.validity ≠ .invalid) :
    setDemand pressure (enterTripped c s) = setSrg
      { s.srg with demand := 0, trip := .tripped c, error := (s.settings.pSet : Int) - pressure.value } (enterTripped c s) := by
  have srg : (enterTripped c s).srg = { s.srg with demand := 0, trip := .tripped c } := announceOwnTrip_srg c _
  simp [setDemand, holdTripped, srg, hv]

/-- The tick that trips the station: the entry to TRIPPED has made the DEMAND, and the quantities alone follow (R141, R147). -/
theorem turbineShare_trips (htrip : s.srg.trip = .normal) (hv : (quantityOf s 0).validity = .valid)
    (hp : (s.settings.pTrip : Int) < (quantityOf s 0).value) :
    turbineShare s = writeTurbineQuantities (quantityOf s 0) (setSrg
      { s.srg with
        demand := 0, trip := .tripped .headerHigh, error := (s.settings.pSet : Int) - (quantityOf s 0).value }
      (enterTripped .headerHigh s)) := by
  rw [turbineShare_eq, tripTests_trips htrip hv hp, setDemand_enterTripped _ (by simp [hv]), htrip]
  rfl

/-- Settles O44: the announced trip is one operation, reached from the input and from the pressure. -/
theorem tripInputTripsTurbine : Obligations.TripInputTripsTurbine := by
  intro s hreset level
  refine ⟨fun hin hw hr htrip => ?_, fun hin hrest => ?_, fun hin => ?_, ?_, fun hw hr htrip hv hp => ?_⟩
  · have acts : exec .tripInActive s =
        .next (announceOwnTrip .tripIn (setSrg (trippedSrg .tripIn { s.srg with tripIn := true }) s)) := by
      rw [exec_tripInActive hreset hin, hw, hr]
      exact congrArg _ (tripInActs_trips (s := setSrg { s.srg with tripIn := true } s) htrip)
    have outside : hasRole s .well = false := by simp_all [hasRole]
    refine ⟨_, acts, announceOwnTrip_frame _ outside, fun hk => ?_⟩
    obtain ⟨trip, -, demand⟩ :=
      announceOwnTrip_entries (s := setSrg (trippedSrg .tripIn { s.srg with tripIn := true }) s) .tripIn hk
    exact ⟨trip, demand⟩
  · rw [exec_tripInActive hreset hin]
    split
    · rename_i working
      obtain ⟨hw, hr⟩ := Bool.and_eq_true_iff.mp working
      have already : s.srg.trip = .tripped .tripIn := by
        by_contra other
        exact hrest ⟨hw, hr, other⟩
      exact congrArg _ (by simp [tripInActs, already, level, setSrg])
    · rfl
  · simp [exec, execTripInActive, hin]
  · simp [exec, execTripInInactive, hreset, setSrg, level]
  · refine ⟨_, exec_shareTick_turbine hw hr, ?_⟩
    rw [turbineShare_trips htrip hv hp]
    refine ⟨by simp, fun hk => ?_⟩
    simp only [writeTurbineQuantities_keeps]
    exact announceOwnTrip_entries (s := setSrg { s.srg with demand := 0, trip := .tripped .headerHigh } s) .headerHigh hk

end Sys2Proof.Machine
end

section
/-! SUPPORT. The event queue: a firing at the queue (R165 to R169, R172), and TAKE with its settlement (R171, R172, R195). -/

namespace Sys2Proof.Machine

variable {s : State} {f : Firing} {front back q : List QueueEntry} {e : QueueEntry}

/-! ### The one entry of a list that a test picks (R167) -/

/-- A change of the one entry that a test picks. -/
theorem map_picked {α : Type} {p : α → Bool} (g : α → α) {front back : List α} {e : α} (he : p e = true)
    (hother : ∀ x ∈ front ++ back, p x = false) :
    ((front ++ e :: back).map fun x => if p x then g x else x) = front ++ g e :: back := by
  have stands (l : List α) (h : ∀ x ∈ l, p x = false) : (l.map fun x => if p x then g x else x) = l :=
    (List.map_congr_left fun x hx => by simp [h x hx]).trans (List.map_id _)
  rw [List.map_append, List.map_cons, if_pos he, stands front fun x hx => hother x (List.mem_append_left _ hx),
    stands back fun x hx => hother x (List.mem_append_right _ hx)]

/-! ### A firing at the queue (R165, R168, R169, R172) -/

/-- A firing at level 0 is discarded (R165). -/
theorem enqueue_muted (h : levelOf s f.source = 0) : enqueue f s = s := if_pos h

/-- The one waiting entry of a firing's source and subject takes it in (R168, R172). -/
theorem enqueue_folds (hlevel : levelOf s f.source ≠ 0) (hq : s.evu.queue = front ++ e :: back) (he : sameKey f e = true)
    (hother : ∀ x ∈ front ++ back, sameKey f x = false) :
    enqueue f s = setQueue (front ++ coalesce f e :: back) s := by
  have waits : s.evu.queue.any (sameKey f) = true := List.any_eq_true.mpr ⟨e, by simp [hq], he⟩
  rw [enqueue, if_neg hlevel, if_pos waits, hq, map_picked (coalesce f) he hother]

/-- A firing that no entry waits for goes on to step 4 of R166. -/
theorem enqueue_fresh (hlevel : levelOf s f.source ≠ 0) (hnew : s.evu.queue.any (sameKey f) = false) :
    enqueue f s = append f s :=
  (if_neg hlevel).trans (if_neg (by simp [hnew]))

/-- The entry of a level that no entry lies below shows the queue's lowest level (R169). -/
theorem lowestLevel_eq (he : e ∈ q) (hle : ∀ x ∈ q, e.level ≤ x.level) : lowestLevel q = e.level := by
  obtain ⟨x, hx, hlow⟩ := exists_lowestLevel (List.ne_nil_of_mem he)
  exact le_antisymm (lowestLevel_le q e he) (hlow ▸ hle x hx)

/-- A queue with room takes the new entry as its newest (R169). -/
theorem append_joins (h : s.evu.queue.length < 32) :
    append f s = setQueue (s.evu.queue ++ [newEntry f (levelOf s f.source) s.evu.refreshCount]) s :=
  if_pos h

/-- A full queue gives up its oldest entry of the lowest level for a firing above that level (R169). -/
theorem append_displaces (hfull : s.evu.queue.length = 32) (hq : s.evu.queue = front ++ e :: back)
    (habove : e.level < levelOf s f.source) (hfront : ∀ x ∈ front, e.level < x.level)
    (hback : ∀ x ∈ back, e.level ≤ x.level) :
    append f s = countDropped
      (setQueue (front ++ back ++ [newEntry f (levelOf s f.source) s.evu.refreshCount]) s) := by
  have lowest : lowestLevel s.evu.queue = e.level := by
    refine lowestLevel_eq (by simp [hq]) fun x hx => ?_
    rw [hq, List.mem_append, List.mem_cons] at hx
    obtain hx | rfl | hx := hx
    · exact (hfront x hx).le
    · exact le_rfl
    · exact hback x hx
  have oldest : s.evu.queue.eraseP (fun x => x.level == e.level) = front ++ back := by
    rw [hq, List.eraseP_append_right _ fun x hx => by simpa using (hfront x hx).ne', List.eraseP_cons_of_pos (by simp)]
  simp only [append, lowest, oldest]
  rw [if_neg (by omega), if_pos (show e.level < (newEntry f (levelOf s f.source) _).level from habove)]

/-- A full queue with no entry below a firing's level drops it (R169). -/
theorem append_drops (hfull : s.evu.queue.length = 32) (h : ∀ x ∈ s.evu.queue, levelOf s f.source ≤ x.level) :
    append f s = countDropped s := by
  obtain ⟨x, hx, hlow⟩ := exists_lowestLevel (es := s.evu.queue) (by rintro hnil; simp [hnil] at hfull)
  have notBelow : ¬ lowestLevel s.evu.queue < levelOf s f.source := Nat.not_lt.mpr (hlow ▸ h x hx)
  exact (if_neg (by omega)).trans (if_neg notBelow)

/-- Settles O52: discarded, folded, or new to the queue, where it joins, displaces an entry or is dropped. -/
theorem queueTakesFiring : Obligations.QueueTakesFiring := by
  intro f s same entry
  refine ⟨enqueue_muted, fun hlevel front back e hq he hother => enqueue_folds hlevel hq he hother, fun hlevel hnew => ?_⟩
  rw [enqueue_fresh hlevel hnew]
  exact ⟨append_joins, fun hfull =>
    ⟨fun front back e hq habove hfront hback => append_displaces hfull hq habove hfront hback, append_drops hfull⟩⟩

/-! ### TAKE (R171, R195) -/

theorem mostUrgent_mem (h : mostUrgent q = some e) : e ∈ q := by
  induction q with
  | nil => simp [mostUrgent] at h
  | cons x xs ih =>
    simp only [mostUrgent] at h
    split at h
    · rename_i best hbest
      split at h
      · exact List.mem_cons_of_mem _ (ih (hbest.trans h))
      · simp_all
    · simp_all

/-- Above every older entry and at or above every newer one stands the most urgent entry (R171). -/
theorem mostUrgent_eq (hfront : ∀ x ∈ front, x.level < e.level) (hback : ∀ x ∈ back, x.level ≤ e.level) :
    mostUrgent (front ++ e :: back) = some e := by
  induction front with
  | nil =>
    cases h : mostUrgent back with
    | none => simp [mostUrgent, h]
    | some best => simp [mostUrgent, h, hback best (mostUrgent_mem h)]
  | cons x xs ih =>
    obtain ⟨hx, hxs⟩ := List.forall_mem_cons.mp hfront
    simp [mostUrgent, ih hxs, hx]

/-- An entry of a lawful queue is the only one of its source and subject (R167). -/
theorem sameEntry_other (h : ((front ++ e :: back).map entryKey).Nodup) : ∀ x ∈ front ++ back, sameEntry x e = false := by
  rw [(List.perm_middle.map entryKey).nodup_iff, List.map_cons, List.nodup_cons] at h
  intro x hx
  have other : entryKey x ≠ entryKey e := fun heq => h.1 (heq ▸ List.mem_map_of_mem hx)
  simpa [entryKey, sameEntry] using other

/-- TAKE on an empty queue answers EMPTY (R171). -/
theorem takeTake_empty (hq : s.evu.queue = []) : takeTake s = respond (5 :: List.replicate 10 0) .nothing s := by
  simp only [takeTake, hq, mostUrgent]
  exact answer_zeros 10 .empty s

/-- TAKE reports the most urgent entry of a lawful queue and marks it alone (R171, R195). -/
theorem takeTake_delivers (hq : s.evu.queue = front ++ e :: back) (hlaw : Law6 s)
    (hfront : ∀ x ∈ front, x.level < e.level) (hback : ∀ x ∈ back, x.level ≤ e.level) :
    takeTake s = respond (0 :: takeContent e s.evu.queue.length) .settleTake
      (setQueue (front ++ { e with delivery := some 0 } :: back) s) := by
  obtain ⟨-, keys⟩ := hlaw
  have marked : markDelivery e s.evu.queue = front ++ { e with delivery := some 0 } :: back := by
    rw [hq] at keys ⊢
    exact map_picked (p := (sameEntry · e)) (fun x => { x with delivery := some 0 }) (by simp [sameEntry])
      (sameEntry_other keys)
  have urgent : mostUrgent s.evu.queue = some e := hq ▸ mostUrgent_eq hfront hback
  rw [takeTake, urgent]
  dsimp only
  rw [marked]
  rfl

/-! ### The end of a TAKE (R172) -/

/-- The end of a transaction leaves an entry that is not in delivery (R172). -/
theorem settledEntry_waiting (whole : Bool) (h : e.delivery = none) : settledEntry whole e = some e := by
  cases e
  subst h
  rfl

/-- The end of a transaction settles the one entry in delivery (R172). -/
theorem filterMap_settledEntry (whole : Bool) (h : ∀ x ∈ front ++ back, x.delivery = none) :
    (front ++ e :: back).filterMap (settledEntry whole) = front ++ (settledEntry whole e).toList ++ back := by
  have stands (l : List QueueEntry) (hl : ∀ x ∈ l, x.delivery = none) : l.filterMap (settledEntry whole) = l :=
    (List.filterMap_congr fun x hx => settledEntry_waiting whole (hl x hx)).trans List.filterMap_some
  rw [List.filterMap_append, List.filterMap_cons, stands front fun x hx => h x (List.mem_append_left _ hx),
    stands back fun x hx => h x (List.mem_append_right _ hx)]
  cases settledEntry whole e <;> simp

/-- PCS_RISE ends the transaction of a TAKE by settling its entry (R172, R186). -/
theorem exec_pcsRise_take {due : Bool} {rest : List Octet} (hreset : s.pins.resetLow = false)
    (hphase : s.pnp.phase = .response due rest .settleTake) :
    exec .pcsRise s = .next
      (setPnp { phase := .idle, pdo := 0 } (settleDelivery (!due && rest.isEmpty) (setPcs false s))) := by
  have ended : endTransaction (setPcs false s) = settleDelivery (!due && rest.isEmpty) (setPcs false s) := by
    simp [endTransaction, setPcs, hphase]
  have running : ¬ s.pins.resetLow = true := by simp [hreset]
  exact congrArg Host.Outcome.next ((if_neg running).trans (congrArg _ ended))

/-- A whole response removes its entry, or leaves it with the firings that came late (R172). -/
theorem settledEntry_whole {late : Nat} (h : e.delivery = some late) :
    settledEntry true e = if late = 0 then none else some { e with repeatCount := late, delivery := none } := by
  cases late <;> simp [settledEntry, h]

/-- A response that was cut short leaves its entry as it is, and no longer in delivery (R172). -/
theorem settledEntry_cut : settledEntry false e = some { e with delivery := none } := by
  simp [settledEntry]

/-- Settles O55: the answer on an empty queue, the delivery of the most urgent entry, and its settlement. -/
theorem takeDeliversMostUrgent : Obligations.TakeDeliversMostUrgent := by
  intro s front back e
  refine ⟨fun ht hq => ?_, fun hq hwait => ⟨fun ht hlaw hfront hback => ?_, fun late due rest hreset hphase hlate => ?_⟩⟩
  · exact congrArg Host.Outcome.next ((if_pos ht).trans (takeTake_empty hq))
  · exact congrArg Host.Outcome.next ((if_pos ht).trans (takeTake_delivers hq hlaw hfront hback))
  · rw [exec_pcsRise_take hreset hphase, settleDelivery, show (setPcs false s).evu.queue = _ from hq,
      filterMap_settledEntry _ hwait]
    by_cases hwhole : due = false ∧ rest = []
    · obtain ⟨rfl, rfl⟩ := hwhole
      by_cases hzero : late = 0 <;>
        simp [settledEntry_whole hlate, hzero, setQueue, setPnp, setPcs]
    · have cut : (!due && rest.isEmpty) = false := by simpa using hwhole
      simp [cut, settledEntry_cut, hwhole, setQueue, setPnp, setPcs]

end Sys2Proof.Machine
end

section
/-! SUPPORT. BIND (R179, R187, R195). -/

namespace Sys2Proof.Machine

variable {s : State} {ch src filter mode count : Octet} {channel source flt code cnt : Nat}

/-! ### The table of R179 -/

/-- The sources that no channel can be bound to: 3, 23, and from 33 on. -/
theorem unbindable_iff : unbindable source = true ↔ source = 3 ∨ source = 23 ∨ 33 ≤ source := by
  simp only [unbindable, Bool.or_eq_true, decide_eq_true_eq, beq_iff_eq]
  omega

theorem filterOf_octet (o : Octet) : filterOf o.toNat = if o = 255 then none else some o.toNat :=
  if_congr (BitVec.toNat_inj (y := 255)) rfl rfl

theorem countOf_octet (o : Octet) : countOf o.toNat = if o = 0 then 256 else o.toNat :=
  if_congr (BitVec.toNat_inj (y := 0)) rfl rfl

theorem modeOfCode_none (h : 3 < code) : modeOfCode code = none := by
  obtain ⟨n, rfl⟩ := Nat.exists_eq_add_of_lt h
  rw [show 3 + n + 1 = n + 4 by omega]
  rfl

section
variable (hch : channel ≤ 3)
include hch

/-- A source that no channel can be bound to is a bad argument. -/
theorem bindCase_badSource (hbad : source = 3 ∨ source = 23 ∨ 33 ≤ source) :
    bindCase s channel source flt code cnt = (.badArgument, none) := by
  have nonzero : source ≠ 0 := by omega
  rw [bindCase, if_neg (by omega), if_pos ⟨nonzero, unbindable_iff.mpr hbad⟩]

variable (hok : ¬ (source = 3 ∨ source = 23 ∨ 33 ≤ source))
include hok

/-- A code that names no mode is a bad argument. -/
theorem bindCase_badMode (hm : 3 < code) : bindCase s channel source flt code cnt = (.badArgument, none) := by
  rw [bindCase, if_neg (by omega), if_neg fun h => hok (unbindable_iff.mp h.2), modeOfCode_none hm]

/-- DERATE is refused outside a WELL station; any other mode binds the channel, and with source 0 unbinds it. -/
theorem bindCase_mode {m : Mode} (hm : modeOfCode code = some m) :
    bindCase s channel source flt code cnt =
      if m = .derate ∧ hasRole s .well = false then (.refusedRole, none)
      else if source = 0 then
        (.done, some { slotGet s.evu.channels channel Channel.unbound with source := none, count := 0 })
      else (.done, some { source := some source, filter := filterOf flt, mode := m, count := countOf cnt }) := by
  rw [bindCase, if_neg (by omega), if_neg fun h => hok (unbindable_iff.mp h.2), hm]
  simp

end

/-! ### BIND (R187, R195) -/

/-- BIND is refused in OFFLINE (R187). -/
theorem takeBind_offline (hl : s.frh.lineState = .offline) :
    takeBind ch src filter mode count s = respond (1 :: List.replicate 5 0) .nothing s := by
  refine (if_neg ?_).trans (answer_zeros 5 .refusedState s)
  rw [hl]
  decide

/-- Outside OFFLINE a channel number above 3 is a bad argument, and there is no binding to report (R179). -/
theorem takeBind_noChannel (hl : s.frh.lineState ≠ .offline) (hch : 3 < ch.toNat) :
    takeBind ch src filter mode count s = respond (3 :: List.replicate 5 0) .nothing s := by
  rw [takeBind, ifServed_online 6 _ hl (by decide), bindCase, if_pos hch, formerBinding, if_pos hch]
  exact answer_zeros 5 .badArgument s

/-- Outside OFFLINE BIND of a channel reports the binding that stood, with the result and the effect of the table (R179). -/
theorem takeBind_channel {r : Result} {new : Option Channel} (hl : s.frh.lineState ≠ .offline) (hch : ch.toNat ≤ 3)
    (htable : bindCase s ch.toNat src.toNat filter.toNat mode.toNat count.toNat = (r, new)) :
    takeBind ch src filter mode count s =
      respond (octetOf r.code :: bindingOctets (slotGet s.evu.channels ch.toNat Channel.unbound)) .nothing
        (rebind ch.toNat new s) := by
  rw [takeBind, ifServed_online 6 _ hl (by decide), htable, formerBinding, if_neg (by omega)]
  exact answer_full (n := 6) r rfl _

/-- Settles O57, row by row of the table. -/
theorem bindFollowsItsTable : Obligations.BindFollowsItsTable := by
  intro s ch src filter mode count ht old report answered bound bad
  have taken : exec (.bind ch src filter mode count) s = .next (takeBind ch src filter mode count s) :=
    congrArg Host.Outcome.next (if_pos ht)
  rw [taken]
  refine ⟨fun hl => congrArg _ (takeBind_offline hl), fun hl => ⟨fun hch => congrArg _ (takeBind_noChannel hl hch),
    fun hch hbad => ?badSource, fun hch hok hm => ?badMode, fun hch hok hm hr => ?derate, fun m hch hok hm hr => ?modes⟩⟩
  case badSource => exact congrArg _ (takeBind_channel hl hch (bindCase_badSource hch hbad))
  case badMode => exact congrArg _ (takeBind_channel hl hch (bindCase_badMode hch hok hm))
  case derate =>
    have named : modeOfCode mode.toNat = some .derate := by rw [hm]; rfl
    exact congrArg _ (takeBind_channel hl hch ((bindCase_mode hch hok named).trans (if_pos ⟨rfl, hr⟩)))
  case modes =>
    have allowed : ¬ (m = .derate ∧ hasRole s .well = false) := by
      rintro ⟨rfl, hwell⟩
      simp [hwell] at hr
    have table := (bindCase_mode (flt := filter.toNat) (cnt := count.toNat) hch hok hm).trans (if_neg allowed)
    refine ⟨fun hzero => ?_, fun hsource => ?_⟩
    · exact congrArg _ (takeBind_channel hl hch (table.trans (if_pos (by simp [hzero]))))
    · have nonzero : src.toNat ≠ 0 := by simpa [BitVec.toNat_eq] using hsource
      rw [takeBind_channel hl hch (table.trans (if_neg nonzero)), filterOf_octet, countOf_octet]
      rfl

end Sys2Proof.Machine
end

section
/-! SUPPORT. No command touches the queue of waiting commands (log 3). -/

namespace Sys2Proof.Machine

variable {s t u : State}

/-- Either branch of a test leaves the queue of waiting commands, so the test does. -/
theorem pending_ite {c : Prop} [Decidable c] (ht : t.pending = s.pending) (hu : u.pending = s.pending) :
    (if c then t else u).pending = s.pending := by
  split
  · exact ht
  · exact hu

/-! ### The line and the sample link -/

@[simp] theorem lineMoves_pending (dominant : Bool) (stretch : Nat) (s : State) :
    (lineMoves dominant stretch s).pending = s.pending := rfl

@[simp] theorem headerArrives_pending (h0 h1 h2 : Octet) (s : State) : (headerArrives h0 h1 h2 s).pending = s.pending := by
  unfold headerArrives
  exact pending_ite (by simp) rfl

@[simp] theorem sampleWord_pending (c lo hi check : Octet) (s : State) : (sampleWord c lo hi check s).pending = s.pending :=
  pending_ite rfl (pending_ite rfl rfl)

@[simp] theorem gatherOctet_pending (octet : Octet) (s : State) : (gatherOctet octet s).pending = s.pending := by
  unfold gatherOctet
  dsimp only
  split <;> simp

@[simp] theorem idleEnds_pending (s : State) : (idleEnds s).pending = s.pending := pending_ite rfl rfl

/-! ### The start loader -/

@[simp] theorem beginLoad_pending (sn : BitVec 5) (role : BitVec 2) (s : State) : (beginLoad sn role s).pending = s.pending :=
  pending_ite rfl rfl

@[simp] theorem tryFails_pending (code : Nat) (stop : Bool) (s : State) : (tryFails code stop s).pending = s.pending :=
  pending_ite rfl rfl

@[simp] theorem completeLoad_pending (s : State) : (completeLoad s).pending = s.pending := by
  have joined : (enterJoining (startLinks (takeSettings s))).pending = s.pending := by simp [startLinks, takeSettings]
  exact pending_ite (by simpa using joined) joined

@[simp] theorem transferDone_pending (octets : List Octet) (s : State) : (transferDone octets s).pending = s.pending :=
  pending_ite rfl (pending_ite (by simp) rfl)

@[simp] theorem restartOffline_pending (sn : BitVec 5) (role : BitVec 2) (stop : Bool) (s : State) :
    (restartOffline sn role stop s).pending = s.pending := by
  rw [restartOffline_eq]

@[simp] theorem restartOnline_pending (s : State) : (restartOnline s).pending = s.pending := by
  rw [(restartOnline_rejoins s).frame]

/-! ### The panel port -/

@[simp] theorem answer_pending (n : Nat) (r : Result) (content : List Octet) (s : State) :
    (answer n r content s).pending = s.pending := rfl

/-- A command that is not served in the line state is answered, and leaves the queue as its rule does. -/
theorem ifServed_pending {owner : State → State} (code : Octet) (n : Nat) (h : (owner s).pending = s.pending) :
    (ifServed code n s owner).pending = s.pending :=
  pending_ite h rfl

@[simp] theorem takeStatus_pending (s : State) : (takeStatus s).pending = s.pending := rfl

@[simp] theorem takeUnknown_pending (s : State) : (takeUnknown s).pending = s.pending := rfl

@[simp] theorem takeTake_pending (s : State) : (takeTake s).pending = s.pending := by
  unfold takeTake
  split <;> rfl

@[simp] theorem takeReadRow_pending (a : Octet) (s : State) : (takeReadRow a s).pending = s.pending :=
  ifServed_pending _ _ (pending_ite rfl rfl)

@[simp] theorem takeReadQuantity_pending (a : Octet) (s : State) : (takeReadQuantity a s).pending = s.pending :=
  ifServed_pending _ _ (pending_ite rfl rfl)

@[simp] theorem takeReadChannel_pending (a : Octet) (s : State) : (takeReadChannel a s).pending = s.pending :=
  ifServed_pending _ _ (pending_ite rfl rfl)

@[simp] theorem rebind_pending (n : Nat) (c : Option Channel) (s : State) : (rebind n c s).pending = s.pending := by
  cases c <;> rfl

@[simp] theorem takeBind_pending (a b c d e : Octet) (s : State) : (takeBind a b c d e s).pending = s.pending :=
  ifServed_pending _ _ (by simp)

@[simp] theorem takeRest_pending (s : State) : (takeRest s).pending = s.pending :=
  ifServed_pending _ _ (pending_ite rfl (pending_ite (by simp) rfl))

@[simp] theorem takeWake_pending (s : State) : (takeWake s).pending = s.pending :=
  ifServed_pending _ _ (pending_ite rfl (pending_ite (by simp) (pending_ite (by simp) rfl)))

@[simp] theorem takeFaultClear_pending (s : State) : (takeFaultClear s).pending = s.pending :=
  ifServed_pending _ _ (pending_ite rfl (pending_ite (by simp) rfl))

@[simp] theorem takeReleaseTrip_pending (a : Octet) (s : State) : (takeReleaseTrip a s).pending = s.pending :=
  ifServed_pending _ _ (pending_ite rfl (pending_ite rfl (pending_ite (by simp) rfl)))

@[simp] theorem takeRestart_pending (sn : BitVec 5) (role : BitVec 2) (stop : Bool) (s : State) :
    (takeRestart sn role stop s).pending = s.pending :=
  pending_ite (by simp) (by simp)

@[simp] theorem takeCommand_pending (code : Octet) (a : List Octet) (s : State) :
    (takeCommand code a s).pending = s.pending := by
  unfold takeCommand
  dsimp only
  repeat' split
  all_goals simp

@[simp] theorem panelOctet_pending (pdi : Octet) (s : State) : (panelOctet pdi s).pending = s.pending := by
  unfold panelOctet
  split
  case h_3 | h_4 => exact pending_ite (by simp) (by simp)
  all_goals rfl

@[simp] theorem endTransaction_pending (s : State) : (endTransaction s).pending = s.pending := by
  unfold endTransaction
  split <;> rfl

/-! ### The commands -/

/-- Settles O3: each command answers a state, which differs from the given one by operations that leave the queue. -/
theorem everyCommandCompletes : Obligations.EveryCommandCompletes := by
  intro c s
  cases c with
  | hardReset => exact ⟨_, rfl, rfl⟩
  | resetRelease sn role => exact ⟨_, rfl, pending_ite (by simp [releasePanel]) rfl⟩
  | attemptSent =>
    refine ⟨_, rfl, ?_⟩
    split <;> simp
  | attemptFailed point =>
    refine ⟨_, rfl, ?_⟩
    split
    · exact pending_ite (by simp) rfl
    · rfl
  | cutAttemptEnd =>
    refine ⟨_, rfl, ?_⟩
    split <;> simp
  | dosePulseEnd output => exact ⟨_, rfl, pending_ite rfl (by cases output <;> rfl)⟩
  | runAckRising | runAckFalling | tripInActive => exact ⟨_, rfl, pending_ite rfl (pending_ite (by simp) rfl)⟩
  | lineTransition dominant stretch => exact ⟨_, rfl, pending_ite rfl (pending_ite rfl rfl)⟩
  | pcsFall => exact ⟨_, rfl, pending_ite rfl rfl⟩
  | pcsRise => exact ⟨_, rfl, pending_ite rfl (by simp [setPcs])⟩
  | tripInInactive => exact ⟨_, rfl, pending_ite rfl rfl⟩
  | panelOctetComplete pdi => exact ⟨_, rfl, pending_ite rfl (by simp)⟩
  | retryWaitEnd | framingFault | smpInReleased => exact ⟨_, rfl, pending_ite rfl rfl⟩
  | imageTransferDone _ | addressNotAcknowledged _ | heldLineTimeout _ | joinExpiry | refreshTick | shareTick | scanTick
  | quietGapExpiry | headerArrival _ _ _ | frameComplete _ _ | frameMalformed _ | sampleOctet _ | partialWordDiscard
  | startTimeout | warmUpExpiry | stopTimeout | recallExpiry | replyWindowExpiry | grantHoldExpiry _ | holdOffExpiry
  | setpointWordEnd | markRecessiveTimeout | status | take | readRow _ | readQuantity _ | readChannel _
  | bind _ _ _ _ _ | rest | wake | faultClear | releaseTrip _ | restart _ _ _ | unknownCommand _ =>
    exact ⟨_, rfl, pending_ite (by simp) rfl⟩

end Sys2Proof.Machine
end

section
/-! SUPPORT. HARD_RESET and RESET_RELEASE (R2, R180, R181, R185, R186, R190). -/

namespace Sys2Proof.Machine

/-- A table of equal entries. -/
theorem slotGet_replicate {α : Type} {n i : Nat} (a d : α) (h : i < n) : slotGet (Vector.replicate n a) i d = a := by
  simp [slotGet, h]

/-- While RESET is low PDO is not driven (R190). -/
theorem pdoDriven_in_reset {s : State} (h : s.pins.resetLow = true) : pdoDriven s = false := by
  simp [pdoDriven, h]

/-- The straps are read, and a load of transfer 0 begins behind what is on the bus, or faults for role code 3 (R180, R181). -/
theorem beginLoad_eq (sn : BitVec 5) (role : BitVec 2) (s : State) :
    beginLoad sn role s =
      { s with
        pins := { s.pins with sn := sn, roleStrap := role }
        stl := { s.stl with
          loadState := if role = 3 then .faulted else .reading, faultCode := if role = 3 then 1 else 0, station := sn
          roleCode := role, clamped := 0, transfer := 0, failedTries := 0, waitDue := false, retryWait := .stopped, image := []
          bus := s.stl.bus ++ (if role = 3 then [] else transferSymbols 0) } } := by
  by_cases h : role = 3
  · simp only [beginLoad, if_pos h]
    rfl
  · simp only [beginLoad, if_neg h]

/-- Settles O4: the reset state block by block, its outputs, and the read of the straps. -/
theorem hardResetTakesEveryBlock : Obligations.HardResetTakesEveryBlock := by
  refine ⟨?_, ?_, fun sn role s hreset => ?_⟩
  · intro s t
    obtain ⟨cscl, csda⟩ := bus_released_in_reset t rfl
    exact ⟨rfl, rfl, rfl, rfl, rfl, rfl, rfl, rfl, rfl, pdoDriven_in_reset rfl, cscl, csda⟩
  · have rows (n : Nat) (hn : n < 32) : rowOf State.reset n = PeerRow.empty := slotGet_replicate _ _ hn
    have quantities (q : Nat) (hq : q < 11) : quantityOf State.reset q = Quantity.empty := slotGet_replicate _ _ hq
    have latches (c : Nat) (hc : c < 8) : latchOf State.reset c = Latch.empty := slotGet_replicate _ _ hc
    intro s
    refine ⟨rfl, rfl, rfl, rfl, rfl, rfl, rfl, rfl, fun n hn => ?_, fun q hq => ?_, fun c hc => ?_,
      fun w hw => slotGet_replicate _ _ hw, rfl, rfl, rfl, rfl, rfl, ?_, rfl, rfl, rfl, rfl, rfl, rfl, rfl, rfl, rfl, rfl, rfl,
      fun c hc => ?_, rfl, rfl, rfl, rfl, rfl, rfl⟩
    · rw [rows n hn]
      exact ⟨rfl, rfl⟩
    · rw [quantities q hq]
      exact ⟨rfl, rfl⟩
    · rw [latches c hc]
      exact ⟨rfl, rfl⟩
    · decide
    · rw [show s.evu.channels = Vector.replicate 4 Channel.unbound from rfl, slotGet_replicate _ _ hc]
      rfl
  · refine congrArg Host.Outcome.next ((if_pos hreset).trans ?_)
    rw [beginLoad_eq]
    rfl

end Sys2Proof.Machine
end

section
/-! SUPPORT. The image read over the bus of the configuration memory, in ten transfers of three tries (R181, R182). -/

namespace Sys2Proof.Machine

variable {s : State} {stop : Bool} {octets : List Octet}

/-! ### What goes over the bus (R181) -/

/-- The image has two pages of 256 octets, the first of them of eight transfers. -/
theorem octetOf_page {k : Nat} (h : k < 10) : octetOf (32 * k / 256) = if k < 8 then 0 else 1 := by
  split
  · rw [show 32 * k / 256 = 0 by omega]
    rfl
  · rw [show 32 * k / 256 = 1 by omega]
    rfl

/-- An octet goes over the bus most significant bit first. -/
theorem octetBits_reverse (o : Octet) : (octetBits o).reverse = (List.range 8).map o.getMsbD := rfl

theorem octet_levels (o : Octet) :
    (BusSymbol.octet o).levels = (List.range 8).flatMap (fun i => clockBit (o.getMsbD i)) ++ clockBit true := by
  rw [BusSymbol.levels, octetBits_reverse, List.flatMap_map]

/-! ### The commands of a try (R181, R182) -/

theorem exec_imageTransferDone (htry : tryUnderWay s = true) (hbus : s.stl.bus = []) (hlen : octets.length = 32) :
    exec (.imageTransferDone octets) s = .next (transferDone octets s) :=
  congrArg Host.Outcome.next (if_pos (by simp [htry, hbus, hlen]))

/-- A transfer before the tenth is followed by the next one. -/
theorem transferDone_next (h : s.stl.transfer < 9) :
    transferDone octets s = { s with stl := { s.stl with
      image := s.stl.image ++ octets, failedTries := 0, stopSent := true, transfer := s.stl.transfer + 1
      bus := transferSymbols (s.stl.transfer + 1), busAt := 0 } } :=
  if_pos h

/-- The tenth transfer of an image that fails a check faults with the check's code, and takes no setting (R182). -/
theorem transferDone_faults (h : s.stl.transfer = 9)
    (hbad : imageFault (s.stl.image ++ octets) s.stl.roleCode.toNat ≠ 0) :
    transferDone octets s = { s with stl := { s.stl with
      image := s.stl.image ++ octets, failedTries := 0, stopSent := true, bus := [], busAt := 0, loadState := .faulted
      faultCode := imageFault (s.stl.image ++ octets) s.stl.roleCode.toNat } } :=
  (if_neg (by omega)).trans (if_neg hbad)

theorem exec_addressNotAcknowledged {o : Octet} {next : BusSymbol} {rest : List BusSymbol} (htry : tryUnderWay s = true)
    (hbus : s.stl.bus = .octet o :: next :: rest) (hstart : next ≠ .start) (hstop : next ≠ .stop) (hat : s.stl.busAt = 26) :
    exec (.addressNotAcknowledged stop) s = .next (tryFails 2 stop s) := by
  have missing : acknowledgeMissing s.stl = true := by
    simp [acknowledgeMissing, hbus, hat, hstart, hstop, acknowledgePhase]
  exact congrArg Host.Outcome.next (if_pos (by rw [htry, missing]; rfl))

theorem exec_heldLineTimeout (htry : tryUnderWay s = true) (hbus : s.stl.bus ≠ []) :
    exec (.heldLineTimeout stop) s = .next (tryFails 3 stop s) :=
  congrArg Host.Outcome.next (if_pos (by simp [htry, hbus]))

/-- The first and the second failed try wait 10 ms, behind the stop condition where CSDA allows one. -/
theorem tryFails_waits (code : Nat) (htry : tryUnderWay s = true) (h : s.stl.failedTries < 2) :
    tryFails code stop s = { s with
      pins := { s.pins with stopPossible := stop }
      stl := { s.stl with
        failedTries := s.stl.failedTries + 1, stopSent := stop, bus := if stop then [.stop] else [], busAt := 0
        waitDue := stop, retryWait := if stop then .stopped else .running 10 } } := by
  have stopped : s.stl.retryWait = .stopped := by simp_all [tryUnderWay]
  refine (if_neg (show ¬ 3 ≤ s.stl.failedTries + 1 by omega)).trans ?_
  cases stop
  · rfl
  · rw [← stopped]
    rfl

/-- The third failed try faults with its code. -/
theorem tryFails_faults (code : Nat) (h : 2 ≤ s.stl.failedTries) :
    tryFails code stop s = { s with
      pins := { s.pins with stopPossible := stop }
      stl := { s.stl with
        failedTries := s.stl.failedTries + 1, stopSent := stop, bus := if stop then [.stop] else [], busAt := 0
        loadState := .faulted, faultCode := code } } :=
  if_pos (show 3 ≤ s.stl.failedTries + 1 by omega)

/-- The wait over, the same transfer begins again. -/
theorem exec_retryWaitEnd (hread : isReading s = true) (hwait : s.stl.retryWait ≠ .stopped) (hbus : s.stl.bus = []) :
    exec .retryWaitEnd s = .next
      { s with stl := { s.stl with retryWait := .stopped, bus := transferSymbols s.stl.transfer, busAt := 0 } } :=
  congrArg Host.Outcome.next (if_pos (by simp [hread, hwait, hbus]))

/-- While the stop condition of a failed try goes over the bus, no try is under way. -/
theorem tryUnderWay_waitDue (h : s.stl.waitDue = true) : tryUnderWay s = false := by simp [tryUnderWay, h]

/-- Settles O5: the symbols of a transfer, its end, and what follows a failed try. -/
theorem imageReadHasThreeTries : Obligations.ImageReadHasThreeTries := by
  refine ⟨?_, fun octets s htry hbus hlen => ?_, fun stop s htry => ?_, fun s => exec_retryWaitEnd,
    fun octets stop s hdue hbus => ?_⟩
  · intro k o bit hk
    refine ⟨?_, octet_levels o, fun last => rfl, rfl, rfl, rfl⟩
    rw [transferSymbols, octetOf_page hk]
  · rw [exec_imageTransferDone htry hbus hlen]
    exact ⟨fun h => congrArg _ (transferDone_next h), fun h hbad => congrArg _ (transferDone_faults h hbad)⟩
  · intro stopped waits faults
    have follows {c : Instr} {code : Nat} (h : exec c s = .next (tryFails code stop s)) :
        (s.stl.failedTries < 2 → exec c s = .next waits) ∧ (2 ≤ s.stl.failedTries → exec c s = .next (faults code)) :=
      ⟨fun hfew => h.trans (congrArg _ (tryFails_waits code htry hfew)),
        fun hmany => h.trans (congrArg _ (tryFails_faults code hmany))⟩
    exact ⟨fun o next rest hnext hstart hstop hat => follows (exec_addressNotAcknowledged htry hnext hstart hstop hat),
      fun hbus => follows (exec_heldLineTimeout htry hbus)⟩
  · have noTry := tryUnderWay_waitDue hdue
    exact ⟨congrArg _ (if_neg (by simp [hbus])), congrArg _ (if_neg (by simp [noTry])),
      congrArg _ (if_neg (by simp [noTry])), congrArg _ (if_neg (by simp [noTry]))⟩

end Sys2Proof.Machine
end

section
/-! SUPPORT. The phases of a transaction on the panel port (R186, R187). -/

namespace Sys2Proof.Machine

variable {s : State} {pdi code : Octet}

/-! ### PANEL_OCTET_COMPLETE (R186) -/

/-- Outside reset an octet moves the port by its phase. -/
theorem exec_panelOctet {t : State} (hreset : s.pins.resetLow = false) (h : panelOctet pdi s = t) :
    exec (.panelOctetComplete pdi) s = .next t :=
  congrArg Host.Outcome.next ((if_neg (by simp [hreset])).trans h)

/-- In COMMAND every command can be taken. -/
theorem takeable_command (hreset : s.pins.resetLow = false) (hphase : s.pnp.phase = .command) : takeable code s = true := by
  simp [takeable, hreset, hphase]

/-- In ARGUMENTS its command can be taken. -/
theorem takeable_arguments {got : List Octet} (hreset : s.pins.resetLow = false)
    (hphase : s.pnp.phase = .arguments code got) : takeable code s = true := by
  simp [takeable, hreset, hphase]

/-- A command octet that needs arguments gathers them. -/
theorem panelOctet_gathers (hphase : s.pnp.phase = .command)
    (h : pdi = 0x03 ∨ pdi = 0x04 ∨ pdi = 0x05 ∨ pdi = 0x06 ∨ pdi = 0x13) :
    panelOctet pdi s = setPnp { phase := .arguments pdi [], pdo := 0 } s := by
  simp only [panelOctet, hphase]
  refine if_neg ?_
  obtain rfl | rfl | rfl | rfl | rfl := h <;> decide

/-- A command octet that needs no argument takes its command. -/
theorem panelOctet_takes (hphase : s.pnp.phase = .command) (h : argumentCount pdi = 0) :
    panelOctet pdi s = takeCommand pdi [] s := by
  simp only [panelOctet, hphase]
  exact if_pos h

/-- The last argument octet takes its command. -/
theorem panelOctet_lastArgument {got : List Octet} (hphase : s.pnp.phase = .arguments code got)
    (h : argumentCount code ≤ got.length + 1) : panelOctet pdi s = takeCommand code (got ++ [pdi]) s := by
  simp only [panelOctet, hphase]
  exact if_neg (by omega)

/-- An octet that is no command code takes no arguments and is answered UNKNOWN_COMMAND (R187). -/
theorem takeCommand_unknown (a : List Octet) (h : pdi ∉ panelCodes) :
    argumentCount pdi = 0 ∧ takeCommand pdi a s = takeUnknown s := by
  simp only [panelCodes, List.mem_cons, List.not_mem_nil, or_false, not_or] at h
  obtain ⟨h1, h2, h3, h4, h5, h6, h7, h8, h9, h10, h11⟩ := h
  constructor
  · simp only [argumentCount, h3, h4, h5, h6, h10, or_self, if_false]
  · simp only [takeCommand, h1, h2, h3, h4, h5, h6, h7, h8, h9, h10, h11, if_false]

/-- UNKNOWN_COMMAND takes any octet that is no command code (R187). -/
theorem exec_unknownCommand (ht : takeable code s = true) (h : code ∉ panelCodes) :
    exec (.unknownCommand code) s = .next (takeUnknown s) :=
  congrArg Host.Outcome.next (if_pos (by simp [ht, h]))

/-! ### PCS (R186) -/

/-- The end of a transaction that is neither a TAKE nor a whole STATUS has no effect. -/
theorem endTransaction_other (htake : ∀ due rest, s.pnp.phase ≠ .response due rest .settleTake)
    (hstatus : ∀ reported, s.pnp.phase ≠ .response false [] (.lowerDropped reported)) : endTransaction s = s := by
  unfold endTransaction
  split
  · exact absurd ‹_› (htake _ _)
  · exact absurd ‹_› (hstatus _)
  · rfl

/-- PCS_RISE outside reset ends the transaction, and the port is IDLE. -/
theorem exec_pcsRise (hreset : s.pins.resetLow = false) :
    exec .pcsRise s = .next (setPnp { phase := .idle, pdo := 0 } (endTransaction (setPcs false s))) :=
  congrArg Host.Outcome.next (if_neg (by simp [hreset]))

/-- PCS_FALL outside reset begins a transaction in IDLE, and leaves another phase. -/
theorem exec_pcsFall (hreset : s.pins.resetLow = false) :
    exec .pcsFall s = .next
      { s with
        pins := { s.pins with pcsLow := true }
        pnp := if s.pnp.phase = .idle then { phase := .command, pdo := 0 } else s.pnp } := by
  refine congrArg Host.Outcome.next ?_
  by_cases h : s.pnp.phase = .idle <;> simp [h, hreset, setPcs, setPnp]

/-- Settles O53, phase by phase. -/
theorem transactionPhases : Obligations.TransactionPhases := by
  intro s pdi hreset octet port
  have taken {c : Instr} {t : State} (h : panelOctet pdi s = t) (hc : exec c s = .next t) : octet = exec c s :=
    (exec_panelOctet hreset h).trans hc.symm
  refine ⟨exec_pcsFall hreset, fun h => ?quiet, fun hphase => ?command, fun hphase => ?readRow, fun hphase => ?readQuantity,
    fun hphase => ?readChannel, fun hphase => ?releaseTrip, fun got hphase hlen => ?gathers, fun a b c d hphase => ?bind,
    fun rest ending hphase => ?turnaround, fun o rest ending hphase => ?sends, fun ending hphase => ?sent,
    fun htake hstatus => ?rise⟩
  case quiet => exact exec_panelOctet hreset (by obtain h | h := h <;> simp only [panelOctet, h])
  case command =>
    have takeable (code : Octet) : takeable code s = true := takeable_command hreset hphase
    have now {c : Instr} {t : State} (hargs : argumentCount pdi = 0) (h : takeCommand pdi [] s = t)
        (hc : exec c s = .next t) : octet = exec c s := taken ((panelOctet_takes hphase hargs).trans h) hc
    refine ⟨fun h => exec_panelOctet hreset (panelOctet_gathers hphase h), ?_, ?_, ?_, ?_, ?_, ?_, fun h => ?_⟩
    case refine_7 =>
      obtain ⟨hargs, unknown⟩ := takeCommand_unknown (s := s) [] h
      exact now hargs unknown (exec_unknownCommand (takeable pdi) h)
    all_goals
      rintro rfl
      exact now rfl rfl (congrArg _ (if_pos (takeable _)))
  case readRow | readQuantity | readChannel | releaseTrip =>
    exact taken (panelOctet_lastArgument hphase (by decide)) (congrArg _ (if_pos (takeable_arguments hreset hphase)))
  case gathers =>
    refine exec_panelOctet hreset ?_
    simp only [panelOctet, hphase]
    exact if_pos (Nat.succ_lt_succ hlen)
  case bind =>
    exact taken (panelOctet_lastArgument hphase (by simp [argumentCount]))
      (congrArg _ (if_pos (takeable_arguments hreset hphase)))
  case turnaround | sends | sent => exact exec_panelOctet hreset (by simp only [panelOctet, hphase, setPnp])
  case rise =>
    rw [exec_pcsRise hreset, endTransaction_other (s := setPcs false s) htake hstatus]
    rfl

end Sys2Proof.Machine
end

section
/-! SUPPORT. STATUS, ATTN and FAULT (R170, R173, R185, R188, R195). -/

namespace Sys2Proof.Machine

variable {s : State}

theorem attn_iff : attn s = true ↔ ∃ e ∈ s.evu.queue, s.settings.attentionThreshold ≤ e.level := by simp [attn]

theorem faultOut_iff :
    faultOut s = true ↔
      s.pins.resetLow = true ∨ s.frh.lineState = .offline ∨ s.frh.lineState = .listenOnly ∨
        (roleOf s = some .well ∧ s.dtu.duty = .fault) := by
  simp [faultOut, hasRole, or_assoc]

/-- A field of a role is 0 in a station of another role (R188). -/
theorem roleField_eq (r : Role) (v : Nat) : roleField s r v = if roleOf s = some r then v else 0 := by
  simp [roleField, hasRole]

/-- A flag of a role is a field of that role (R195). -/
theorem flagBit_role (r : Role) (b : Bool) (position : Nat) :
    flagBit (hasRole s r && b) position = roleField s r (if b then 2 ^ position else 0) := by
  cases h : hasRole s r <;> simp [flagBit, roleField, h]

theorem roleField_add (r : Role) (v w : Nat) : roleField s r v + roleField s r w = roleField s r (v + w) := by
  unfold roleField
  split <;> rfl

/-- The flags octet: those of every role, those of a WELL station, and that of a TURBINE station (R195). -/
theorem statusFlags_eq (s : State) :
    statusFlags s = (if faultOut s then 1 else 0) + (if attn s then 2 else 0) +
      roleField s .well ((if s.dtu.runReq then 4 else 0) + (if s.dtu.runAck then 8 else 0) + (if tripInForce s then 16 else 0)) +
      roleField s .turbine (if s.srg.tripIn then 32 else 0) := by
  rw [statusFlags, flagBit_role, flagBit_role, flagBit_role, flagBit_role, ← roleField_add, ← roleField_add]
  simp only [flagBit, Nat.reducePow]
  omega

/-- A whole STATUS lowers the dropped count by the value it reported (R170). -/
theorem exec_pcsRise_status {reported : Nat} (hreset : s.pins.resetLow = false)
    (hphase : s.pnp.phase = .response false [] (.lowerDropped reported)) :
    exec .pcsRise s = .next
      { s with
        pins := { s.pins with pcsLow := false }, pnp := { phase := .idle, pdo := 0 }
        evu := { s.evu with dropped := s.evu.dropped - reported } } := by
  have ended : endTransaction (setPcs false s) =
      { setPcs false s with evu := { s.evu with dropped := s.evu.dropped - reported } } := by
    simp [endTransaction, setPcs, hphase]
  rw [exec_pcsRise hreset, ended]
  rfl

/-- Settles O54: the two outputs, the response octet by octet, and the end of the transaction. -/
theorem statusReports : Obligations.StatusReports := by
  intro s
  refine ⟨attn_iff, faultOut_iff, ?_, fun reported => exec_pcsRise_status⟩
  intro ht only flags response
  have fields : roleField s = only := funext fun r => funext (roleField_eq r)
  have content : 0 :: statusContent s = response := by
    simp only [statusContent, statusFlags_eq, fields]
    rfl
  have taken : takeStatus s = respond (0 :: statusContent s) (.lowerDropped s.evu.dropped) s := rfl
  refine congrArg Host.Outcome.next ((if_pos ht).trans ?_)
  rw [taken, content]
  rfl

end Sys2Proof.Machine
end

section
/-! SUPPORT. The commands that are turned away (R97, R115, R116, R117, R187, R194). -/

namespace Sys2Proof.Machine

variable {s : State}

/-- An operator's command carries its result alone. -/
theorem answer_result (r : Result) (s : State) : answer 1 r [] s = respond [octetOf r.code] .nothing s := answer_zeros 0 r s

/-- WAKE, FAULT CLEAR and RELEASE TRIP are refused in OFFLINE, and go to their rules elsewhere (R187). -/
theorem ifServed_operator {code : Octet} (owner : State → State) (s : State) (hc : code = 0x11 ∨ code = 0x12 ∨ code = 0x13) :
    ifServed code 1 s owner = if s.frh.lineState = .offline then respond [1] .nothing s else owner s := by
  split
  · rename_i hl
    refine (if_neg ?_).trans (answer_result .refusedState s)
    rw [hl]
    obtain rfl | rfl | rfl := hc <;> decide
  · rename_i hl
    exact ifServed_online 1 owner hl (by obtain rfl | rfl | rfl := hc <;> decide)

/-- REST (R116): also refused in LISTEN_ONLY, and taken by a WELL station in ON. -/
theorem takeRest_eq (s : State) :
    takeRest s =
      if s.frh.lineState = .offline ∨ s.frh.lineState = .listenOnly then respond [1] .nothing s
      else if hasRole s .well = false then respond [2] .nothing s
      else if s.dtu.duty = .on then respond [0] .nothing (enterAsking s)
      else respond [1] .nothing s := by
  simp only [takeRest, answer_result]
  cases h : s.frh.lineState <;> simp [ifServed, served, h, answer_result] <;> rfl

/-- WAKE (R115): taken by a WELL station in RESTING with RUN_ACK low, and in ASKING. -/
theorem takeWake_eq (s : State) :
    takeWake s =
      if s.frh.lineState = .offline then respond [1] .nothing s
      else if hasRole s .well = false then respond [2] .nothing s
      else if s.dtu.duty = .resting ∧ s.dtu.runAck = false then respond [0] .nothing (takeDuty .starting [] s)
      else if s.dtu.duty = .asking then respond [0] .nothing (takeDuty .on [] s)
      else respond [1] .nothing s := by
  simp only [takeWake, ifServed_operator _ s (.inl rfl), answer_result, Bool.not_eq_true']
  rfl

/-- FAULT CLEAR (R117): taken by a WELL station in FAULT with RUN_ACK low. -/
theorem takeFaultClear_eq (s : State) :
    takeFaultClear s =
      if s.frh.lineState = .offline then respond [1] .nothing s
      else if hasRole s .well = false then respond [2] .nothing s
      else if s.dtu.duty = .fault ∧ s.dtu.runAck = false then respond [0] .nothing (takeDuty .resting [] s)
      else respond [1] .nothing s := by
  simp only [takeFaultClear, ifServed_operator _ s (.inr (.inl rfl)), answer_result, Bool.not_eq_true']
  rfl

/-- RELEASE TRIP (R97): taken by a WELL station for another station that is in its trip set. -/
theorem takeReleaseTrip_eq (station : Octet) (s : State) :
    takeReleaseTrip station s =
      if s.frh.lineState = .offline then respond [1] .nothing s
      else if hasRole s .well = false then respond [2] .nothing s
      else if 31 < station.toNat ∨ station.toNat = ownNumber s then respond [3] .nothing s
      else if inTripSet s station.toNat = true then respond [0] .nothing (removeTrip station.toNat 3 s)
      else respond [1] .nothing s := by
  simp only [takeReleaseTrip, ifServed_operator _ s (.inr (.inr rfl)), answer_result, Bool.not_eq_true']
  rfl

/-- A command that can be taken has the outcome of its rule. -/
theorem taken_outcome {code : Octet} {t u : State} (ht : takeable code s = true) (h : t = u) :
    Host.Outcome.next (φ := Fault) (ρ := Refusal) (if takeable code s then t else s) = .next u :=
  congrArg _ ((if_pos ht).trans h)

/-- Settles O59, by the tables of the four commands. -/
theorem refusedCommandsChangeNothing : Obligations.RefusedCommandsChangeNothing := by
  intro s station answered
  refine ⟨?unknown, fun hl => ?offline, fun hl ht => ?listenOnly, fun hl hw => ?role, fun hl hw => ?well⟩
  case unknown =>
    intro code ht h1 h2 h3 h4 h5 h6 h7 h8 h9 h10 h11
    have unnamed : code ∉ panelCodes := by
      simp only [panelCodes, List.mem_cons, List.not_mem_nil, or_false, not_or]
      exact ⟨h1, h2, h3, h4, h5, h6, h7, h8, h9, h10, h11⟩
    exact exec_unknownCommand ht unnamed
  case offline =>
    exact ⟨fun ht => taken_outcome ht ((takeRest_eq s).trans (if_pos (.inl hl))),
      fun ht => taken_outcome ht ((takeWake_eq s).trans (if_pos hl)),
      fun ht => taken_outcome ht ((takeFaultClear_eq s).trans (if_pos hl)),
      fun ht => taken_outcome ht ((takeReleaseTrip_eq station s).trans (if_pos hl))⟩
  case listenOnly => exact taken_outcome ht ((takeRest_eq s).trans (if_pos (.inr hl)))
  case role =>
    refine ⟨fun hlisten ht => taken_outcome ht ?_, fun ht => taken_outcome ht ?_, fun ht => taken_outcome ht ?_,
      fun ht => taken_outcome ht ?_⟩
    · rw [takeRest_eq, if_neg (by simp [hl, hlisten]), if_pos hw]
      rfl
    · rw [takeWake_eq, if_neg hl, if_pos hw]
      rfl
    · rw [takeFaultClear_eq, if_neg hl, if_pos hw]
      rfl
    · rw [takeReleaseTrip_eq, if_neg hl, if_pos hw]
      rfl
  case well =>
    have isWell : ¬ hasRole s .well = false := by simp [hw]
    refine ⟨fun hd ht => taken_outcome ht ?_, fun hd hask ht => taken_outcome ht ?_, fun hd ht => taken_outcome ht ?_,
      fun hbad ht => taken_outcome ht ?_, fun hn hown hout ht => taken_outcome ht ?_⟩
    · rw [takeRest_eq, if_neg isWell, if_neg hd, ite_self]
      rfl
    · rw [takeWake_eq, if_neg hl, if_neg isWell, if_neg (by simpa [imp_iff_not_or] using hd), if_neg hask]
      rfl
    · rw [takeFaultClear_eq, if_neg hl, if_neg isWell, if_neg (by simpa [imp_iff_not_or] using hd)]
      rfl
    · rw [takeReleaseTrip_eq, if_neg hl, if_neg isWell, if_pos hbad]
      rfl
    · rw [takeReleaseTrip_eq, if_neg hl, if_neg isWell, if_neg (by omega), if_neg (by simp [hout])]
      rfl

end Sys2Proof.Machine
end

section
/-! SUPPORT. The step on a queue that holds a command; `step_of_no_command` is the empty queue. -/

namespace Sys2Proof.Machine

theorem step_of_command {s : State} {c : Instr} {rest : List Instr} (h : s.pending = c :: rest) :
    step s = exec c { s with pending := rest } := by simp [step, h]

/-- Settles O1: the queue with a command in front is the second case of the step, and the front is gone from the state the
command finds. -/
theorem stepTakesFrontCommand : Obligations.StepTakesFrontCommand := by
  intro c rest s
  exact step_of_command (s := { s with pending := c :: rest }) rfl

end Sys2Proof.Machine
end
